-- ==== Sys2Proof/Word.lean ====
section
/-! DEFINITION. The word types of the SNL-740: what the manual treats as bits. Quantities, counts and positions are
natural numbers and integers, because the manual computes them exactly and clamps them by rule. -/

namespace Sys2Proof

/-- One byte of the host line (R167) or of the EEPROM image (R183). -/
abbrev Byte := BitVec 8

/-- One byte as the receiver takes it: its value, and whether its stop bit was good (R168). -/
structure LineByte where
  value : Byte
  stopGood : Bool
  deriving DecidableEq, Repr

end Sys2Proof
end

