-- ==== Sys2Proof/Syntax.lean ====
section
/-! DEFINITION. The commands of the SNL-740: one constructor for each row of spec/opcode_table.json, with the operands
that the row's rule gives it. A request's operands are the fields of R182 as they stand on the line, before any clamp. -/

namespace Sys2Proof

/-- The three axes, numbered HATCH 0, PLATFORM 1, WINDLASS 2 (00_scope.md, Numbering). -/
inductive Axis where
  | hatch | platform | windlass
  deriving DecidableEq, Repr

/-- The two hydraulic axes, which share the pump and have a position sensor each (R65). -/
inductive Hydraulic where
  | hatch | platform
  deriving DecidableEq, Repr

/-- The field inputs of FIELD_INPUT_CHANGE: those of R119 but the anchor-home switch, which has a row of its own. -/
inductive FieldInput where
  | hatchLatch | garageClear | platformClear | anchorClear | helmEnable | pumpPressure
  deriving DecidableEq, Repr

/-- The levels of the switch inputs: the seven of R119, and the direction and overload inputs of the windlass
(R66, R84). -/
structure Inputs where
  hatchLatch : Bool
  anchorHome : Bool
  garageClear : Bool
  platformClear : Bool
  anchorClear : Bool
  helmEnable : Bool
  pumpPressure : Bool
  payingOut : Bool
  overload : Bool
  deriving DecidableEq, Repr

/-- Whether the EEPROM answers the read of a start-up (R183): a silent one does not answer or reports a read error. -/
inductive EepromAnswer where
  | answers | silent
  deriving DecidableEq, Repr

/-- How the EEPROM write of a save ends (R186). -/
inductive SaveResult where
  | matching | mismatch | writeError
  deriving DecidableEq, Repr

/-- What a panel port receives (R139): a touch sample, the no-touch marker, or a frame whose check fails. -/
inductive PanelFrame where
  | touch (x y z : Nat)
  | noTouch
  | badCheck
  deriving DecidableEq, Repr

/-- The fields of SET_ZONE after the zone number (R182). -/
structure ZoneFields where
  rated : Vector Nat 4
  fan : Nat
  stage1 : Nat
  stage2 : Nat
  crewOnly : Nat
  passage : Nat
  volume : Nat
  startScene : Nat
  deriving DecidableEq, Repr

/-- The scene record of STORE_SCENE (R182, section Byte layouts). -/
structure SceneFields where
  levels : Vector (Option Nat) 4
  fade : Nat
  setpoint : Option Nat
  mode : Option Nat
  deriving DecidableEq, Repr

/-- The cue entry of CUE_ADD (R182, section Byte layouts). -/
structure CueFields where
  zone : Nat
  kind : Nat
  levels : Vector (Option Nat) 4
  fade : Nat
  value : Nat
  deriving DecidableEq, Repr

/-- The fields of SET_AXIS after the axis number (R182). -/
structure AxisFields where
  presets : Vector Int 4
  warnTime : Nat
  prepareTimeout : Nat
  warnPattern : Nat
  deckLevel : Nat
  maxRode : Nat
  pulses : Nat
  chain : Nat
  rating : Nat
  warnZones : List Nat
  deriving DecidableEq, Repr

/-- The step record of PROGRAM_STEP (R94, section Byte layouts). -/
structure StepFields where
  first : Bool
  legStart : Bool
  final : Bool
  leg : Nat
  seq : Nat
  start : Int
  target : Int
  speed : Option Nat
  dwell : Option Nat
  deriving DecidableEq, Repr

/-- The fields of SET_PANEL after the panel number (R182). -/
structure PanelFields where
  cls : Nat
  home : Nat
  base : Nat
  limit : Nat
  permissions : Vector Nat 3
  oversample : Nat
  threshold : Nat
  coefficients : Vector Int 6
  width : Nat
  height : Nat
  deriving DecidableEq, Repr

/-- The tag map entry of SET_TAGMAP (R144). -/
structure TagFields where
  x0 : Nat
  y0 : Nat
  x1 : Nat
  y1 : Nat
  tag : Nat
  deriving DecidableEq, Repr

/-- The binding record of SET_BINDING (R156). -/
structure BindingFields where
  kind : Nat
  target : Nat
  argument : Nat
  axis : Nat
  preset : Nat
  holdToRun : Nat
  deriving DecidableEq, Repr

/-- The commands. A request carries its tag byte (R167) first. -/
inductive Instr where
  -- resets (R184, R185)
  | powerOn (eeprom : EepromAnswer) (levels : Inputs)
  | coldReset (eeprom : EepromAnswer) (levels : Inputs)
  | warmReset
  -- the host line (R168, R170, R173, R174)
  | frameReceived (bytes : List LineByte)
  | byteGapExpiry
  | unknownRequest (tag kind : Byte)
  | frameSent
  | linkSilenceExpiry
  -- device requests
  | getInfo (tag : Byte)
  | getStatus (tag : Byte)
  | reset (tag : Byte) (kind : Nat)
  | setLink (tag : Byte) (length : Nat)
  -- the budget
  | setSupply (tag : Byte) (supply reserve : Nat)
  | setSlot (tag : Byte) (slot enabled priority cap dmin holdOff : Nat)
  | setAuxDemand (tag : Byte) (slot demand : Nat)
  | getBudget (tag : Byte) (slot : Option Nat)
  | baseLoadSample (load : Nat)
  | meterSilenceExpiry
  | holdOffExpiry (slot : Fin 52)
  -- zones
  | setZone (tag : Byte) (zone : Nat) (fields : ZoneFields)
  | setLevels (tag : Byte) (zone : Nat) (levels : Vector (Option Nat) 4) (fade : Nat)
  | setSetpoint (tag : Byte) (zone setpoint : Nat)
  | setMode (tag : Byte) (zone mode : Nat)
  | getZone (tag : Byte) (zone : Nat)
  | outputFrame
  | temperatureSample (zone : Fin 24) (temperature : Int)
  | lossTimerExpiry (zone : Fin 24)
  -- scenes and cues
  | storeScene (tag : Byte) (scene : Nat) (record : Option SceneFields)
  | recallScene (tag : Byte) (zone scene : Nat)
  | cueAdd (tag : Byte) (entry : CueFields)
  | cueClear (tag : Byte)
  | cueCommit (tag : Byte) (mode : Nat)
  | cueStatus (tag : Byte) (position : Option Nat)
  | capTimerExpiry
  -- axes
  | setAxis (tag : Byte) (axis : Nat) (fields : AxisFields)
  | getAxis (tag : Byte) (axis : Nat)
  | ackFault (tag : Byte) (axis : Nat)
  | positionSample (axis : Hydraulic) (position : Int)
  | staleTimerExpiry (axis : Hydraulic)
  | windlassPulse (payingOut : Bool)
  | anchorHomeChange (active : Bool)
  | overloadInput (active : Bool)
  | warnTimeReached (axis : Axis)
  | prepareTimerExpiry (axis : Axis)
  | stallWindowExpiry (axis : Axis)
  | dwellEnd (axis : Axis)
  | stopTimerExpiry (axis : Axis)
  -- programs
  | openProgram (tag : Byte) (context axis : Nat)
  | programStep (tag : Byte) (context : Nat) (step : StepFields)
  | cancelAtBoundary (tag : Byte) (context : Nat)
  | cancelImmediate (tag : Byte) (context : Nat)
  | pauseProgram (tag : Byte) (context : Nat)
  | resumeProgram (tag : Byte) (context : Nat)
  | getProgram (tag : Byte) (context : Option Nat)
  | starvationTimerExpiry (context : Fin 16)
  -- interlocks
  | setInterlock (tag : Byte) (axis direction : Nat) (terms : Option (List (Nat × Nat)))
  | setInterlockCommon (tag : Byte) (settings : Option (Nat × Nat))
  | setVessel (tag : Byte) (speed shore flagA flagB : Nat)
  | fieldInputChange (input : FieldInput) (active : Bool)
  | vesselAgeingExpiry
  -- chime
  | setPattern (tag : Byte) (pattern : Nat) (record : Option (Nat × List (Nat × Nat)))
  | chimePlay (tag : Byte) (pattern repeats : Nat) (zones : List Nat)
  | chimeStop (tag : Byte)
  | chimeClear (tag : Byte)
  | motionNoteEnd (axis : Axis)
  | noticeNoteEnd
  -- panels and actions
  | setPanel (tag : Byte) (panel : Nat) (record : Option PanelFields)
  | setTagmap (tag : Byte) (panel entry : Nat) (record : TagFields)
  | getPanel (tag : Byte) (panel part : Nat)
  | panelFrame (panel : Fin 12) (frame : PanelFrame)
  | panelSilenceExpiry (panel : Fin 12)
  | setBinding (tag : Byte) (bound : Nat) (record : Option BindingFields)
  | releaseTimerExpiry (axis : Axis)
  -- the stored image
  | saveConfig (tag : Byte)
  | saveComplete (result : SaveResult)
  | saveTimerExpiry
  deriving DecidableEq, Repr

end Sys2Proof
end

