-- ==== Sys2Proof/Decode.lean ====
section
/-! DEFINITION. Decoding by the bits of the opcode table. No row of the table has bits: a block's commands are not words of
an instruction set. The request frames of the host line are examined in Machine/Requests.lean. -/

namespace Sys2Proof

/-- The command that a word spells by the table's bits. The table gives bits to no row, so no word spells a command. -/
def decodeTableWord (_nbits _w : Nat) : Option Instr := none

end Sys2Proof
end

