-- ==== Sys2Proof/Config.lean ====
section
/-! DEFINITION. The free values: what the manual leaves open although the part goes on. Each is opaque, so nothing in
Lean can evaluate it and a proof holds for every value of it. The configuration that the host writes is state, in
Machine/Types.lean. -/

namespace Sys2Proof.Config

/-- The byte that names a load slot's class (0 DIVISIBLE, 1 STEPPED, 2 WHOLE, numbered as R5 lists them) in the slot form
of the GET_BUDGET reply. R23 carries the class and the value codes table lists no code. DESIGN CHOICE, log entry 14. -/
opaque slotClassCode : Nat → Byte

/-- The byte that names the windlass motor's direction (true for PAYOUT) in the GET_AXIS reply. R89 carries it and the
value codes table lists no code. DESIGN CHOICE, log entry 14. -/
opaque motorDirectionCode : Bool → Byte

/-- The byte that names the kind of a panel's last completed group (0 no touch, 1 touch, 2 off the glass) in the
GET_PANEL reply (R152). DESIGN CHOICE, log entry 14. -/
opaque groupKindCode : Nat → Byte

/-- The byte that names a run record's hold state (true for RELEASED) in the SET_BINDING reply (R156).
DESIGN CHOICE, log entry 14. -/
opaque runHoldCode : Bool → Byte

/-- Whether, at the `n`-th save that did not succeed, byte `i` of the new image had reached the EEPROM. R184 and R186 say
that the image may then be old, new or mixed. DESIGN CHOICE, log entry 7. -/
opaque saveReached : (n i : Nat) → Bool

/-- What stands at place `i` of an EEPROM that no save has written there (R183). DESIGN CHOICE, log entry 7. -/
opaque unwrittenByte : (i : Nat) → Byte

/-- Whether, at the `n`-th such conflict, a moving axis takes the arrival of a position change before the loss of its
permit by the same change. R76 allows either. DESIGN CHOICE, log entry 10. -/
opaque arrivalFirst : (n : Nat) → Bool

/-- Whether, at the `n`-th such entry, a dwell of 0 of a hold-to-run program's FINAL step ends at the entry to DWELL, before
a release can reach the dispatcher; else its timer has run out and its expiry is still to come, so that a release may be taken
first. R163 allows either. DESIGN CHOICE, log entry 30. -/
opaque dwellEndFirst : (n : Nat) → Bool

end Sys2Proof.Config
end

