-- ==== Sys2Proof/Machine/Bytes.lean ====
section
/-! DEFINITION. Byte order and the CRC-16: multi-byte numbers are most significant byte first, signed numbers in two's
complement (00_scope.md, R171), and the CRC is that of R167. -/

namespace Sys2Proof.Machine

/-- A number in one byte. -/
def u8 (n : Nat) : List Byte := [BitVec.ofNat 8 n]

/-- A number in two bytes, most significant first. -/
def u16 (n : Nat) : List Byte := [BitVec.ofNat 8 (n / 256), BitVec.ofNat 8 n]

/-- A number in four bytes, most significant first. -/
def u32 (n : Nat) : List Byte :=
  [BitVec.ofNat 8 (n / 16777216), BitVec.ofNat 8 (n / 65536), BitVec.ofNat 8 (n / 256), BitVec.ofNat 8 n]

/-- A signed number in two bytes, two's complement. -/
def i16 (z : Int) : List Byte := u16 (z % 65536).toNat

/-- A signed number in four bytes, two's complement. -/
def i32 (z : Int) : List Byte := u32 (z % 4294967296).toNat

/-- A flag byte: 0 for clear and 1 for set (R171). -/
def flag (b : Bool) : List Byte := u8 b.toNat

/-- Up to eight flags as one byte of bits, bit 0 first. -/
def bits (flags : List Bool) : List Byte :=
  u8 (flags.foldr (fun b acc => b.toNat + 2 * acc) 0)

/-- The marker of an absent value: the field with every bit set (R171), in `width` bytes. -/
def marker (width : Nat) : List Byte := List.replicate width 0xFF

/-- The marker of an absent signed position, 0x80000000 (R171). -/
def positionMarker : List Byte := [0x80, 0, 0, 0]

/-- An optional field of `width` bytes, or its marker. -/
def orMarker {α : Type} (width : Nat) (encode : α → List Byte) : Option α → List Byte
  | some a => encode a
  | none => marker width

/-- An optional position, or its marker. -/
def position (p : Option Int) : List Byte :=
  match p with
  | some z => i32 z
  | none => positionMarker

/-- The number that bytes spell, most significant first. -/
def natOf (bytes : List Byte) : Nat := bytes.foldl (fun n b => n * 256 + b.toNat) 0

/-- The number in `width` bytes at offset `off` of a payload. -/
def natAt (payload : List Byte) (off width : Nat) : Nat := natOf ((payload.drop off).take width)

/-- The signed four-byte number at offset `off` of a payload. -/
def intAt (payload : List Byte) (off : Nat) : Int :=
  let n := natAt payload off 4
  if n < 2147483648 then n else (n : Int) - 4294967296

/-- Bit `i` of the byte at offset `off` of a payload. -/
def bitAt (payload : List Byte) (off i : Nat) : Bool := (natAt payload off 1).testBit i

/-- One message bit into the CRC register (R167): the register is shifted left, and 0x1021 is combined by exclusive-or
when the bit shifted out differs from the message bit. -/
def crcBit (register : BitVec 16) (bit : Bool) : BitVec 16 :=
  if register.msb == bit then register <<< 1 else (register <<< 1) ^^^ 0x1021

/-- One byte into the CRC register, most significant bit first (R167). -/
def crcByte (register : BitVec 16) (byte : Byte) : BitVec 16 :=
  [7, 6, 5, 4, 3, 2, 1, 0].foldl (fun r i => crcBit r (byte.getLsbD i)) register

/-- The CRC-16 of R167: the register starts at 0xFFFF and takes no final exclusive-or. -/
def crc16 (bytes : List Byte) : Nat := (bytes.foldl crcByte 0xFFFF).toNat

end Sys2Proof.Machine
end

