-- ==== Sys2Proof/Machine/Types.lean ====
section
/-! DEFINITION. The records that the blocks hold, as the manual names them, and the configuration that the stored image
carries (R183). A timer is held as the value of the clock at which it ends; absent means stopped. -/

namespace Sys2Proof.Machine

/-! ## Numbering -/

/-- One value for each axis. -/
structure PerAxis (α : Type) where
  hatch : α
  platform : α
  windlass : α
  deriving DecidableEq, Repr

/-- The value of one axis. -/
def PerAxis.get {α : Type} (p : PerAxis α) : Axis → α
  | .hatch => p.hatch
  | .platform => p.platform
  | .windlass => p.windlass

/-- A new value for one axis. -/
def PerAxis.set {α : Type} (p : PerAxis α) (a : Axis) (v : α) : PerAxis α :=
  match a with
  | .hatch => { p with hatch := v }
  | .platform => { p with platform := v }
  | .windlass => { p with windlass := v }

/-- The values in axis order. -/
def PerAxis.toList {α : Type} (p : PerAxis α) : List α := [p.hatch, p.platform, p.windlass]

/-- The axes in the order of their numbers. -/
def allAxes : List Axis := [.hatch, .platform, .windlass]

/-- The number of an axis. -/
def axisNumber : Axis → Nat
  | .hatch => 0
  | .platform => 1
  | .windlass => 2

/-- The axis that a number names. -/
def axisOf : Nat → Option Axis
  | 0 => some .hatch
  | 1 => some .platform
  | 2 => some .windlass
  | _ => none

/-- A hydraulic axis as an axis. -/
def axisOfHydraulic : Hydraulic → Axis
  | .hatch => .hatch
  | .platform => .platform

/-- The hydraulic axis that an axis is, when it is one. -/
def hydraulicOf : Axis → Option Hydraulic
  | .hatch => some .hatch
  | .platform => some .platform
  | .windlass => none

/-- The index that a number names in a collection of `n`, when it names one. -/
def indexOf (n k : Nat) : Option (Fin n) :=
  if h : k < n then some ⟨k, h⟩ else none

/-! ## Budget Allocator -/

/-- The class of a load slot (R5). -/
inductive SlotClass where
  | divisible | stepped | whole
  deriving DecidableEq, Repr

/-- The allocator mode (R2). -/
inductive AllocMode where
  | normal | hold
  deriving DecidableEq, Repr

/-- The configuration fields of a load slot (R6); the hold-off is in seconds. -/
structure SlotConfig where
  enabled : Bool
  priority : Nat
  cap : Nat
  dmin : Nat
  holdOff : Nat
  deriving DecidableEq, Repr

/-- The live quantities of a load slot (R7). -/
structure Slot where
  raw : Nat
  effective : Nat
  grant : Nat
  delivered : Nat
  holdOffEnds : Option Nat
  deriving DecidableEq, Repr

/-- The flags of a pass result (R15). -/
structure PassFlags where
  neg : Bool
  short : Bool
  zero : Bool
  sat : Bool
  held : Bool
  deriving DecidableEq, Repr

/-- The pass result record (R14). -/
structure PassResult where
  number : Nat
  mode : AllocMode
  usable : Nat
  peak : Nat
  available : Int
  total : Nat
  headroom : Int
  flags : PassFlags
  shortList : List Nat
  deriving DecidableEq, Repr

/-- The last-posted copy (R24). -/
structure PostedCopy where
  grants : List Nat
  flags : PassFlags
  mode : AllocMode
  deriving DecidableEq, Repr

/-- The live state of the Budget Allocator (R2, R7, R10, R14, R24). -/
structure Budget where
  slots : Vector Slot 52
  history : List Nat
  heldPeak : Nat
  mode : AllocMode
  meterDeadline : Option Nat
  passNumber : Nat
  result : PassResult
  posted : Option PostedCopy
  deriving DecidableEq, Repr

/-! ## Zone Controller -/

/-- The mode of a zone (R34). -/
inductive ZoneMode where
  | occupied | eco | vacant
  deriving DecidableEq, Repr

/-- The direction of a climate unit (R35). -/
inductive ClimateDirection where
  | none | heat | cool
  deriving DecidableEq, Repr

/-- The stages of a climate unit, lowest first (R35). -/
inductive Stage where
  | off | fan | stage1 | stage2
  deriving DecidableEq, Repr

/-- The configuration fields of a zone (R27). -/
structure ZoneConfig where
  rated : Vector Nat 4
  fan : Nat
  stage1 : Nat
  stage2 : Nat
  crewOnly : Bool
  passage : Bool
  volume : Nat
  startScene : Option Nat
  deriving DecidableEq, Repr

/-- A channel record (R28); its rated current is in the zone's configuration. -/
structure Channel where
  level : Nat
  target : Nat
  fadeStart : Nat
  framesDone : Nat
  framesTotal : Nat
  fading : Bool
  output : Nat
  deriving DecidableEq, Repr

/-- The climate record of a zone (R35); the age is measured from `sampledAt`. -/
structure Climate where
  temperature : Int
  live : Bool
  sampledAt : Option Nat
  direction : ClimateDirection
  demanded : Stage
  running : Stage
  lossDeadline : Option Nat
  grant : Nat
  deriving DecidableEq, Repr

/-- The live fields of a zone record (R27, R32, R33). -/
structure Zone where
  mode : ZoneMode
  setpoint : Nat
  channels : Vector Channel 4
  demand : Nat
  lightGrant : Nat
  climate : Climate
  deriving DecidableEq, Repr

/-! ## Cue Unit -/

/-- A scene record (R48). -/
structure Scene where
  levels : Vector (Option Nat) 4
  fade : Nat
  setpoint : Option Nat
  mode : Option Nat
  deriving DecidableEq, Repr

/-- The kinds of a cue entry with their fields (R54). -/
inductive CueChange where
  | scene (number : Fin 32)
  | levels (levels : Vector (Option Nat) 4) (fade : Nat)
  | setpoint (value : Nat)
  | mode (value : Nat)
  deriving DecidableEq, Repr

/-- A cue entry (R54). -/
structure CueEntry where
  zone : Fin 24
  change : CueChange
  deriving DecidableEq, Repr

/-- The commit modes (R57). -/
inductive CommitMode where
  | atFrame | afterFades
  deriving DecidableEq, Repr

/-- The cue staging list and the commit state (R53). `commit` is absent in IDLE and holds the commit mode in PENDING. -/
structure Cue where
  entries : List CueEntry
  commit : Option CommitMode
  framesWaited : Nat
  capDeadline : Option Nat
  lateDue : Bool
  deriving DecidableEq, Repr

/-! ## Axis Controller and Program Table -/

/-- The seven states of an axis (R71). -/
inductive AxisState where
  | idle | preparing | moving | dwell | hold | stopping | fault
  deriving DecidableEq, Repr

/-- The six hold reasons (R79). -/
inductive HoldReason where
  | linkPause | linkSilent | starved | interlock | shed | released
  deriving DecidableEq, Repr

/-- The hold set: each reason present or absent (R79). -/
structure HoldSet where
  linkPause : Bool
  linkSilent : Bool
  starved : Bool
  interlock : Bool
  shed : Bool
  released : Bool
  deriving DecidableEq, Repr

/-- The speed classes (R70). -/
inductive SpeedClass where
  | crawl | slow | normal
  deriving DecidableEq, Repr

/-- The direction of a step (R72). -/
inductive StepDirection where
  | out | inward | zero
  deriving DecidableEq, Repr

/-- A step record as admitted (R94). -/
structure Step where
  first : Bool
  legStart : Bool
  final : Bool
  leg : Nat
  seq : Nat
  start : Int
  target : Int
  speed : Option SpeedClass
  dwell : Option Nat
  deriving DecidableEq, Repr

/-- A current step with its context number (R71). -/
structure CurrentStep where
  context : Fin 16
  step : Step
  deriving DecidableEq, Repr

/-- The kinds of fault (R84). -/
inductive FaultKind where
  | stall | overtravel | sensor | overload
  deriving DecidableEq, Repr

/-- A fault record (R86). -/
structure FaultRecord where
  kind : FaultKind
  position : Option Int
  context : Option (Fin 16)
  count : Nat
  deriving DecidableEq, Repr

/-- A running stall window: its end, and the position (the pulse count for the windlass) at its start (R77). -/
structure StallWindow where
  deadline : Nat
  startedAt : Int
  deriving DecidableEq, Repr

/-- The drive outputs of an axis (R69), in percent. For a hydraulic axis `out` and `inward` are the openings of the OUT
and IN valves; for the windlass they are the motor's speed in PAYOUT and in HAUL. The brake is the windlass's. -/
structure Drive where
  out : Nat
  inward : Nat
  brakeSet : Bool
  deriving DecidableEq, Repr

/-- The live fields of an axis record (R71). -/
structure AxisRecord where
  state : AxisState
  holds : HoldSet
  current : Option CurrentStep
  warnStart : Option Nat
  warnReached : Bool
  prepareDeadline : Option Nat
  dwellDeadline : Option Nat
  stopDeadline : Option Nat
  stall : Option StallWindow
  travelRef : Int
  speed : SpeedClass
  drive : Drive
  fault : Option FaultRecord
  deriving DecidableEq, Repr

/-- An absolute position sensor (R65). -/
structure Sensor where
  position : Option Int
  sampledAt : Option Nat
  fresh : Bool
  staleDeadline : Option Nat
  deriving DecidableEq, Repr

/-- The two position sensors (R65). -/
structure Sensors where
  hatch : Sensor
  platform : Sensor
  deriving DecidableEq, Repr

/-- The windlass's own counters, and the slot 49 grant it holds (R66, R71). -/
structure Gypsy where
  count : Nat
  reverse : Nat
  grant : Nat
  deriving DecidableEq, Repr

/-- The configuration fields that every axis has (R67); the prepare timeout is in seconds. -/
structure AxisConfig where
  presets : Vector Int 4
  warnTime : Nat
  prepareTimeout : Nat
  warnPattern : Fin 8
  warnZones : List Nat
  deriving DecidableEq, Repr

/-- The configuration fields of the windlass alone (R67): maximum rode, pulses P, chain L and rating. -/
structure GearConfig where
  maxRode : Nat
  pulses : Nat
  chain : Nat
  rating : Nat
  deriving DecidableEq, Repr

/-- The states of a context (R95). -/
inductive ContextState where
  | free | queued | active | closing
  deriving DecidableEq, Repr

/-- The owner of a context (R95). -/
inductive Owner where
  | link
  | panel (number : Fin 12)
  deriving DecidableEq, Repr

/-- The admission states (R95). -/
inductive Admission where
  | open | done | broken | cancelled
  deriving DecidableEq, Repr

/-- A context record (R95). The current step of its execution half is the current step of the axis record. -/
structure Context where
  state : ContextState
  owner : Option Owner
  axis : Option Axis
  admission : Admission
  leg : Nat
  expectedSeq : Nat
  expectedStart : Option Int
  firstAdmitted : Bool
  steps : List Step
  executed : Nat
  starveDeadline : Option Nat
  deriving DecidableEq, Repr

/-- The end statuses of a program (section 5.9). -/
inductive EndStatus where
  | complete | cancelled | broken | starved | notReady | faulted | released | abandoned
  deriving DecidableEq, Repr

/-! ## Interlock Evaluator and Pump Arbiter -/

/-- A term of an interlock list: a test number and an invert flag (R118). -/
structure Term where
  test : Fin 16
  invert : Bool
  deriving DecidableEq, Repr

/-- The two directions of an interlock (R118). -/
inductive Direction where
  | out | inward
  deriving DecidableEq, Repr

/-- One value for each direction. -/
structure PerDirection (α : Type) where
  out : α
  inward : α
  deriving DecidableEq, Repr

/-- The value of one direction. -/
def PerDirection.get {α : Type} (p : PerDirection α) : Direction → α
  | .out => p.out
  | .inward => p.inward

/-- A new value for one direction. -/
def PerDirection.set {α : Type} (p : PerDirection α) (d : Direction) (v : α) : PerDirection α :=
  match d with
  | .out => { p with out := v }
  | .inward => { p with inward := v }

/-- The reading of a test (R120). -/
inductive Reading where
  | isFalse | isTrue | unknown
  deriving DecidableEq, Repr

/-- The state of the vessel data (R122). -/
inductive VesselState where
  | absent | fresh | old
  deriving DecidableEq, Repr

/-- The vessel data record (R122); the age is measured from `setAt`. -/
structure Vessel where
  speed : Nat
  shore : Bool
  flagA : Bool
  flagB : Bool
  state : VesselState
  setAt : Option Nat
  ageDeadline : Option Nat
  deriving DecidableEq, Repr

/-- The Pump Arbiter (R127); the pump rating is configuration. -/
structure Pump where
  owner : Option Hydraulic
  waiting : Option Hydraulic
  grant : Nat
  run : Bool
  deriving DecidableEq, Repr

/-! ## Chime Unit -/

/-- A note: a pitch index, 0 for a rest, and a duration in milliseconds (R132). -/
structure Note where
  pitch : Nat
  duration : Nat
  deriving DecidableEq, Repr

/-- A pattern (R132). -/
structure Pattern where
  loop : Bool
  notes : List Note
  deriving DecidableEq, Repr

/-- A note that a lane plays: its index, the note read at its start, and its end (R132, R134). -/
structure Playing where
  index : Nat
  note : Note
  ends : Nat
  deriving DecidableEq, Repr

/-- A notice (R135). -/
structure Notice where
  pattern : Fin 8
  zones : List Nat
  repeats : Nat
  played : Nat
  deriving DecidableEq, Repr

/-- What the notice lane plays: its note, and the speaker volumes of the zones as read at that note's start (R135). -/
structure NoticeNote where
  playing : Playing
  volumes : Vector Nat 24
  deriving DecidableEq, Repr

/-- The Chime Unit: a motion lane is active when it plays a note (R134), and the notice lane plays the oldest notice
(R135). -/
structure Chime where
  lanes : PerAxis (Option Playing)
  notices : List Notice
  playing : Option NoticeNote
  deriving DecidableEq, Repr

/-! ## Panel Service and Action Dispatcher -/

/-- The authority class of a panel (R140). -/
inductive PanelClass where
  | guest | crew | helm
  deriving DecidableEq, Repr

/-- The configuration of a panel (R140). -/
structure PanelConfig where
  cls : PanelClass
  home : Fin 24
  base : Nat
  limit : Nat
  permissions : PerAxis Bool
  oversample : Nat
  threshold : Nat
  coefficients : Vector Int 6
  width : Nat
  height : Nat
  deriving DecidableEq, Repr

/-- A tag map entry (R144). -/
structure TagEntry where
  x0 : Nat
  y0 : Nat
  x1 : Nat
  y1 : Nat
  tag : Nat
  deriving DecidableEq, Repr

/-- The touch state of a panel, with the pressed tag and the held position in DOWN (R146). -/
inductive Touch where
  | absent
  | up
  | down (tag : Nat) (x y : Int)
  | slid
  deriving DecidableEq, Repr

/-- The group accumulator of a panel (R142). -/
structure Group where
  count : Nat
  sumX : Nat
  sumY : Nat
  noTouch : Bool
  deriving DecidableEq, Repr

/-- The last completed group of a panel (R152). -/
inductive LastGroup where
  | noTouch
  | onGlass (meanX meanY : Nat) (x y : Int) (tag : Nat)
  | offGlass (meanX meanY : Nat) (x y : Int)
  deriving DecidableEq, Repr

/-- The live state of a panel (R142, R146, R152); the frame age is measured from `framedAt`. -/
structure Panel where
  touch : Touch
  silenceDeadline : Option Nat
  framedAt : Option Nat
  group : Group
  last : Option LastGroup
  deriving DecidableEq, Repr

/-- The kinds of a binding (R155). -/
inductive BindingKind where
  | none | scene | levelUp | levelDown | setpointUp | setpointDown | mode | axisGoto | chimeAck | reportOnly
  deriving DecidableEq, Repr

/-- A binding record (R155); an absent target is HOME. -/
structure Binding where
  kind : BindingKind
  target : Option (Fin 24)
  argument : Nat
  axis : Axis
  preset : Fin 4
  holdToRun : Bool
  deriving DecidableEq, Repr

/-- A run record (R162). -/
structure RunRecord where
  context : Fin 16
  panel : Fin 12
  tag : Nat
  released : Bool
  deadline : Option Nat
  deriving DecidableEq, Repr

/-- The results of a panel action (R157). -/
inductive ActionResult where
  | done | deniedAuth | deniedState | deniedFull
  deriving DecidableEq, Repr

/-! ## Configuration -/

/-- The configuration of every block, in the order of R183. -/
structure Configuration where
  supply : Nat
  reserve : Nat
  slots : Vector SlotConfig 52
  zones : Vector ZoneConfig 24
  scenes : Vector Scene 32
  axes : PerAxis AxisConfig
  deckLevel : Nat
  gear : GearConfig
  interlocks : PerAxis (PerDirection (List Term))
  speedLimit : Nat
  pumpRating : Nat
  patterns : Vector Pattern 8
  panels : Vector PanelConfig 12
  tagMaps : Vector (Vector TagEntry 32) 12
  bindings : Vector Binding 255
  linkSilence : Nat
  deriving DecidableEq, Repr

/-! ## Link Interface and Configuration Store -/

/-- A good frame: kind, tag and payload (R167). -/
structure Frame where
  kind : Byte
  tag : Byte
  payload : List Byte
  deriving DecidableEq, Repr

/-- A reply in the reply list. The delayed SAVE_CONFIG reply does not count toward the capacity of 4 (R169). -/
structure Reply where
  frame : Frame
  delayed : Bool
  deriving DecidableEq, Repr

/-- The report keys (R176). -/
inductive ReportKey where
  | start
  | budget
  | zone (number : Fin 24)
  | cueApplied
  | axis (axis : Axis)
  | fault (axis : Axis)
  | programEnd (context : Fin 16)
  | panelAction (panel : Fin 12)
  deriving DecidableEq, Repr

/-- An entry of the report queue (R176); the urgency is that of the key. -/
structure ReportEntry where
  key : ReportKey
  content : List Byte
  deriving DecidableEq, Repr

/-- A frame on the transmit line: what it carries, and its bytes on the line with the CRC (R167, R173). -/
structure Sending where
  frame : Frame
  line : List Byte
  deriving DecidableEq, Repr

/-- The kinds of reset (R179). -/
inductive ResetKind where
  | powerOn | cold | warm
  deriving DecidableEq, Repr

/-- The Link Interface (R168, R169, R172 to R176, R180). -/
structure Link where
  receiving : Bool
  gathered : List LineByte
  gapDeadline : Option Nat
  buffer : List Frame
  replies : List Reply
  saveTag : Option Byte
  sending : Option Sending
  reports : List ReportEntry
  reportNumber : Nat
  silenceDeadline : Option Nat
  resetPending : Option ResetKind
  deriving DecidableEq, Repr

/-- A save in flight: the image being written, and the save timer (R186). -/
structure Saving where
  image : List Byte
  deadline : Nat
  deriving DecidableEq, Repr

/-- The Configuration Store (R183, R186). -/
structure Store where
  eeprom : List Byte
  saving : Option Saving
  lastReset : ResetKind
  defaulted : Bool
  deriving DecidableEq, Repr

end Sys2Proof.Machine
end

