-- ==== Sys2Proof/Machine/Parameters.lean ====
section
/-! DEFINITION. Fixed parameters of the part, and the factory defaults of its configuration. -/

namespace Sys2Proof.Machine

/-! ## Fixed parameters -/

/-- The class of a load slot (R5). -/
def slotClass (slot : Fin 52) : SlotClass :=
  if slot.val < 24 then .divisible else if slot.val < 48 then .stepped else .whole

/-- The default priority of a load slot (R5). -/
def defaultPriority (slot : Fin 52) : Nat :=
  if slot.val < 24 then 20 else if slot.val < 48 then 12 else if slot.val = 48 then 29
  else if slot.val = 49 then 30 else 8

/-- The default hold-off of a load slot in seconds (R5). -/
def defaultHoldOff (slot : Fin 52) : Nat :=
  if slot.val < 24 then 0 else if slot.val < 48 then 180 else if slot.val < 50 then 5 else 0

/-- The lighting slot of a zone (R5). -/
def lightSlot (zone : Fin 24) : Fin 52 := ⟨zone.val, by omega⟩

/-- The climate slot of a zone (R5). -/
def climateSlot (zone : Fin 24) : Fin 52 := ⟨24 + zone.val, by omega⟩

/-- The slot of the hydraulic pump (R5). -/
def pumpSlot : Fin 52 := 48

/-- The slot of the windlass motor (R5). -/
def windlassSlot : Fin 52 := 49

/-- The load slots in the order of their numbers. -/
def allSlots : List (Fin 52) := List.finRange 52

/-- The zones in the order of their numbers. -/
def allZones : List (Fin 24) := List.finRange 24

/-- The number of base-load samples that the history holds (R2). -/
def historyCapacity : Nat := 8

/-- The length of the meter-silence timer, ms (R2). -/
def meterSilence : Nat := 500

/-- The period of the output frame, ms (R29). -/
def framePeriod : Nat := 10

/-- The length of a zone's loss timer, ms (R35). -/
def lossTime : Nat := 60000

/-- The number of entries that the cue staging list holds (R53). -/
def cueCapacity : Nat := 48

/-- The length of the cap timer, ms (R53). -/
def capTime : Nat := 30000

/-- The length of a stale timer, ms (R65). -/
def staleTime : Nat := 200

/-- The arrival tolerance of an axis (R68). -/
def arrivalTolerance : Axis → Int
  | .hatch => 5
  | .platform => 10
  | .windlass => 250

/-- The first-step start tolerance of an axis (R68). -/
def startTolerance : Axis → Int
  | .hatch => 20
  | .platform => 30
  | .windlass => 500

/-- The overtravel margin of an axis (R68). -/
def overtravelMargin : Axis → Int
  | .hatch => 30
  | .platform => 50
  | .windlass => 1000

/-- The stall window of an axis, ms (R68). -/
def stallTime : Axis → Nat
  | .hatch => 1000
  | .platform => 1000
  | .windlass => 1500

/-- The minimum progress of an axis in the stall window; pulses for the windlass (R68). -/
def minimumProgress : Axis → Int
  | .hatch => 5
  | .platform => 10
  | .windlass => 1

/-- The approach zone of an axis (R68). -/
def approachZone : Axis → Int
  | .hatch => 50
  | .platform => 100
  | .windlass => 2000

/-- The stop time of an axis, ms (R68). -/
def stopTime : Axis → Nat
  | .hatch => 300
  | .platform => 300
  | .windlass => 500

/-- The travel report step of an axis (R68). -/
def travelStep : Axis → Int
  | .hatch => 10
  | .platform => 20
  | .windlass => 500

/-- The power slot of an axis (R68). -/
def powerSlot : Axis → Fin 52
  | .hatch => pumpSlot
  | .platform => pumpSlot
  | .windlass => windlassSlot

/-- The valve opening or motor speed of a speed class, percent (R70). -/
def speedPercent : SpeedClass → Nat
  | .crawl => 25
  | .slow => 50
  | .normal => 100

/-- The deadband of a zone mode (R34). -/
def deadband : ZoneMode → Int
  | .occupied => 5
  | .eco => 20
  | .vacant => 40

/-- The number of steps that a step queue holds (R95). -/
def stepCapacity : Nat := 8

/-- The length of the starvation timer, ms (R95). -/
def starvationTime : Nat := 2000

/-- The length of the vessel data's ageing timer, ms (R122). -/
def vesselTime : Nat := 10000

/-- The number of notices that the notice queue holds (R135). -/
def noticeCapacity : Nat := 4

/-- The length of a panel's silence timer, ms (R146). -/
def panelSilence : Nat := 1000

/-- The length of a run record's release timer, ms (R162). -/
def releaseTime : Nat := 10000

/-- The length of the byte gap timer, ms (R168). -/
def byteGap : Nat := 5

/-- The number of frames that the input buffer holds, and of replies that stop it (R169). -/
def lineCapacity : Nat := 4

/-- The largest payload of a frame (R167). -/
def largestPayload : Nat := 240

/-- The length of the save timer, ms (R186). -/
def saveTime : Nat := 400

/-- The format number of the stored image (R183). -/
def imageFormat : Nat := 1

/-- The body length of format 1 (R183). -/
def imageBodyLength : Nat := 7432

/-- The part code, the family code and the number of report keys (R178). -/
def partCode : Nat := 740

/-- The family code of the Sarnel family (R178). -/
def familyCode : Nat := 1

/-- The number of report keys (R176). -/
def reportKeys : Nat := 61

/-! ## Factory defaults -/

/-- The factory configuration of a load slot (R6). -/
def factorySlot (slot : Fin 52) : SlotConfig :=
  { enabled := true, priority := defaultPriority slot, cap := 4000, dmin := 0, holdOff := defaultHoldOff slot }

/-- The factory configuration of a zone (R27). -/
def factoryZone : ZoneConfig :=
  { rated := Vector.replicate 4 0, fan := 0, stage1 := 0, stage2 := 0, crewOnly := false, passage := false,
    volume := 128, startScene := none }

/-- The empty scene (R48). -/
def emptyScene : Scene := { levels := Vector.replicate 4 none, fade := 0, setpoint := none, mode := none }

/-- The factory configuration of an axis from its presets and warn time (R67). -/
def factoryAxis (presets : Vector Int 4) (warnTime : Nat) : AxisConfig :=
  { presets := presets, warnTime := warnTime, prepareTimeout := 30, warnPattern := 0, warnZones := List.range 24 }

/-- A term that is not inverted (R118). -/
def plainTerm (test : Fin 16) : Term := { test := test, invert := false }

/-- The factory interlock lists (R118). -/
def factoryInterlocks : PerAxis (PerDirection (List Term)) :=
  { hatch := { out := [plainTerm 6, plainTerm 3, plainTerm 14], inward := [plainTerm 6, plainTerm 14] },
    platform := { out := [plainTerm 2, plainTerm 7, plainTerm 14], inward := [plainTerm 7, plainTerm 14] },
    windlass := { out := [plainTerm 8, plainTerm 9, plainTerm 10], inward := [plainTerm 8, plainTerm 9] } }

/-- The factory patterns (R132). -/
def factoryPattern (pattern : Fin 8) : Pattern :=
  if pattern.val = 0 then { loop := true, notes := [⟨72, 250⟩, ⟨0, 250⟩] }
  else if pattern.val = 7 then { loop := false, notes := [⟨45, 120⟩, ⟨0, 60⟩, ⟨45, 120⟩] }
  else { loop := false, notes := [⟨60, 200⟩] }

/-- The factory configuration of a panel (R140). -/
def factoryPanel (panel : Fin 12) : PanelConfig :=
  { cls := .guest, home := ⟨panel.val, by omega⟩, base := panel.val, limit := panel.val,
    permissions := { hatch := false, platform := false, windlass := false }, oversample := 4, threshold := 1023,
    coefficients := #v[65536, 0, 0, 0, 65536, 0], width := 1024, height := 1024 }

/-- An empty tag map entry (R144). -/
def emptyTag : TagEntry := { x0 := 0, y0 := 0, x1 := 0, y1 := 0, tag := 0 }

/-- A binding of kind NONE (R155). -/
def emptyBinding : Binding :=
  { kind := .none, target := none, argument := 0, axis := .hatch, preset := 0, holdToRun := false }

/-- The factory defaults of every block (R183). -/
def factory : Configuration :=
  { supply := 1000, reserve := 10, slots := Vector.ofFn factorySlot, zones := Vector.replicate 24 factoryZone,
    scenes := Vector.replicate 32 emptyScene,
    axes := { hatch := factoryAxis #v[0, 300, 600, 900] 3000, platform := factoryAxis #v[0, 400, 1000, 1500] 3000,
              windlass := factoryAxis #v[0, 30000, 60000, 90000] 2000 },
    deckLevel := 400, gear := { maxRode := 120000, pulses := 8, chain := 720, rating := 850 },
    interlocks := factoryInterlocks, speedLimit := 30, pumpRating := 600, patterns := Vector.ofFn factoryPattern,
    panels := Vector.ofFn factoryPanel, tagMaps := Vector.replicate 12 (Vector.replicate 32 emptyTag),
    bindings := Vector.replicate 255 emptyBinding, linkSilence := 2000 }

end Sys2Proof.Machine
end

