-- ==== Sys2Proof/Machine/State.lean ====
section
/-! DEFINITION. The state of the SNL-740, its state after reset, and the reasons a step can stop. -/

namespace Sys2Proof.Machine

/-- The faults that stop the machine: none. The manual gives every command its effect in every state; a fault of an axis
is state (a fault record, R86), not a stop. -/
inductive Fault where
  deriving DecidableEq, Repr

/-- The refusals of the model: a command whose meaning is not written. No arm raises it; it is safe, because the machine
stops where the part goes on. -/
inductive Refusal where
  | notModelled (mnemonic : String)
  deriving DecidableEq, Repr

/-- Everything the manual gives the part, and five fields of the model's own: the clock `now` in milliseconds, the
counters `freeIndex` and `dwellIndex` that free values are applied to (log entries 7, 10, 30), `unsettled`, set if the signals of one step ever outrun their bound
(log entry 8), and the queue `pending` of waiting commands. -/
structure State where
  now : Nat
  freeIndex : Nat
  dwellIndex : Nat
  unsettled : Bool
  pending : List Instr
  config : Configuration
  budget : Budget
  zones : Vector Zone 24
  frameDeadline : Nat
  cue : Cue
  axes : PerAxis AxisRecord
  sensors : Sensors
  gypsy : Gypsy
  contexts : Vector Context 16
  queues : PerAxis (List (Fin 16))
  inputs : Inputs
  vessel : Vessel
  permits : PerAxis (PerDirection Bool)
  pump : Pump
  chime : Chime
  panels : Vector Panel 12
  runs : PerAxis (Option RunRecord)
  link : Link
  store : Store
  deriving DecidableEq, Repr

/-! ## Start values of the records -/

/-- A load slot after power-on and COLD reset (R25). -/
def slotStart : Slot := { raw := 0, effective := 0, grant := 0, delivered := 0, holdOffEnds := none }

/-- The flags of the pass result before the first pass: HELD alone (R14). -/
def flagsStart : PassFlags := { neg := false, short := false, zero := false, sat := false, held := true }

/-- The pass result before the first pass (R14). -/
def resultStart : PassResult :=
  { number := 0, mode := .hold, usable := 0, peak := 0, available := 0, total := 0, headroom := 0,
    flags := flagsStart, shortList := [] }

/-- The Budget Allocator after power-on and COLD reset (R2, R25). -/
def budgetStart : Budget :=
  { slots := Vector.replicate 52 slotStart, history := [], heldPeak := 0, mode := .hold, meterDeadline := none,
    passNumber := 0, result := resultStart, posted := none }

/-- A channel after power-on and COLD reset (R46). -/
def channelStart : Channel :=
  { level := 0, target := 0, fadeStart := 0, framesDone := 0, framesTotal := 0, fading := false, output := 0 }

/-- A zone after power-on and COLD reset (R46). -/
def zoneStart : Zone :=
  { mode := .vacant, setpoint := 210, channels := Vector.replicate 4 channelStart, demand := 0, lightGrant := 0,
    climate := { temperature := 0, live := false, sampledAt := none, direction := .none, demanded := .off,
                 running := .off, lossDeadline := none, grant := 0 } }

/-- The Cue Unit after every reset (R53). -/
def cueStart : Cue := { entries := [], commit := none, framesWaited := 0, capDeadline := none, lateDue := false }

/-- The empty hold set (R71). -/
def noHolds : HoldSet :=
  { linkPause := false, linkSilent := false, starved := false, interlock := false, shed := false, released := false }

/-- Every drive output off and the brake set (R69). -/
def driveOff : Drive := { out := 0, inward := 0, brakeSet := true }

/-- An axis record after power-on and COLD reset (R71). The speed class in force means nothing outside MOVING;
DESIGN CHOICE, log entry 21. -/
def axisStart : AxisRecord :=
  { state := .idle, holds := noHolds, current := none, warnStart := none, warnReached := false,
    prepareDeadline := none, dwellDeadline := none, stopDeadline := none, stall := none, travelRef := 0,
    speed := .normal, drive := driveOff, fault := none }

/-- A position sensor after power-on (R65). R65 gives the age no value before the first sample; it is absent: DESIGN CHOICE, log
entry 51. -/
def sensorStart : Sensor := { position := none, sampledAt := none, fresh := false, staleDeadline := none }

/-- A FREE context after power-on (R95). Its halves take no part in any check; DESIGN CHOICE, log entry 16. -/
def contextStart : Context :=
  { state := .free, owner := none, axis := none, admission := .open, leg := 0, expectedSeq := 0,
    expectedStart := none, firstAdmitted := false, steps := [], executed := 0, starveDeadline := none }

/-- The vessel data after power-on and COLD reset (R122). -/
def vesselStart : Vessel :=
  { speed := 0, shore := false, flagA := false, flagB := false, state := .absent, setAt := none, ageDeadline := none }

/-- The Pump Arbiter after every reset (R127). -/
def pumpStart : Pump := { owner := none, waiting := none, grant := 0, run := false }

/-- The Chime Unit after every reset (R134, R135). -/
def chimeStart : Chime :=
  { lanes := { hatch := none, platform := none, windlass := none }, notices := [], playing := none }

/-- An empty group accumulator (R142). -/
def groupStart : Group := { count := 0, sumX := 0, sumY := 0, noTouch := false }

/-- A panel after power-on and COLD reset (R153). -/
def panelStart : Panel :=
  { touch := .absent, silenceDeadline := none, framedAt := none, group := groupStart, last := none }

/-- No run record on any axis (R162). -/
def runsStart : PerAxis (Option RunRecord) := { hatch := none, platform := none, windlass := none }

/-- Switch inputs all inactive. R119 gives the inputs no reset value: they keep the level of their wire; DESIGN CHOICE,
log entry 5. -/
def inputsStart : Inputs :=
  { hatchLatch := false, anchorHome := false, garageClear := false, platformClear := false, anchorClear := false,
    helmEnable := false, pumpPressure := false, payingOut := false, overload := false }

/-- The six permits with the factory lists while every input is inactive and every position and the vessel data are
absent (R138): all false. -/
def permitsStart : PerAxis (PerDirection Bool) :=
  { hatch := { out := false, inward := false }, platform := { out := false, inward := false },
    windlass := { out := false, inward := false } }

/-! ## Reset -/

/-- The ZONE report of a zone after a start-up with no start scene (R40, R46; section Byte layouts). -/
def zoneReportStart (zone : Fin 24) : ReportEntry :=
  { key := .zone zone,
    content := [BitVec.ofNat 8 zone.val, 2, 0, 210, 0, 0, 1] ++ List.replicate 16 0
      ++ [0, 0, 0, 0, 0, 0, 0, 0, 0, 0] }

/-- The AXIS report of an axis after power-on (R90, R92; section Byte layouts). -/
def axisReportStart (a : Axis) : ReportEntry :=
  { key := .axis a,
    content := match a with
      | .hatch => [0, 0, 0, 0x80, 0, 0, 0, 1, 0xFF, 0xFF, 0xFF, 0xFF, 0x80, 0, 0, 0, 0xFF, 0, 0, 0]
      | .platform => [1, 0, 0, 0x80, 0, 0, 0, 1, 0xFF, 0xFF, 0xFF, 0xFF, 0x80, 0, 0, 0, 0xFF, 0, 0, 0]
      | .windlass => [2, 0, 0, 0, 0, 0, 0, 0xFF, 0xFF, 0xFF, 0xFF, 0xFF, 0x80, 0, 0, 0, 0xFF, 0, 0, 1] }

/-- The START frame after a power-on that found no good image (R184; section Byte layouts): POWER_ON, DEFAULTED, no
fault axes, with report number 0 (R177). -/
def startFrame : Frame := { kind := 0xE0, tag := 0, payload := [0, 1, 0] }

/-- The Link Interface right after power-on (R181, R184): START is being sent, the other reports of the start-up wait
behind it, and the receiver takes no byte until START has been sent. -/
def linkStart : Link :=
  { receiving := false, gathered := [], gapDeadline := none, buffer := [], replies := [], saveTag := none,
    sending := some
      { frame := startFrame,
        line := [0x5A, 0xC3] ++ [3, 0xE0, 0, 0, 1, 0] ++ u16 (crc16 [3, 0xE0, 0, 0, 1, 0]) },
    reports := allZones.map zoneReportStart ++ allAxes.map axisReportStart, reportNumber := 1,
    silenceDeadline := none, resetPending := none }

/-- The machine right after a power-on whose EEPROM holds no image: the start-up of R184 has run, every block holds its
factory defaults and DEFAULTED is set. Fields that R25, R46, R53, R71, R92, R95, R122, R127, R134, R135, R153, R162,
R181 and R186 give have those values; log entries 1, 5, 6, 16 and 21 name the others. -/
def State.reset : State :=
  { now := 0, freeIndex := 0, dwellIndex := 0, unsettled := false, pending := [], config := factory, budget := budgetStart,
    zones := Vector.replicate 24 zoneStart, frameDeadline := framePeriod, cue := cueStart,
    axes := { hatch := axisStart, platform := axisStart, windlass := axisStart },
    sensors := { hatch := sensorStart, platform := sensorStart }, gypsy := { count := 0, reverse := 0, grant := 0 },
    contexts := Vector.replicate 16 contextStart, queues := { hatch := [], platform := [], windlass := [] },
    inputs := inputsStart, vessel := vesselStart, permits := permitsStart, pump := pumpStart, chime := chimeStart,
    panels := Vector.replicate 12 panelStart, runs := runsStart, link := linkStart,
    store := { eeprom := [], saving := none, lastReset := .powerOn, defaulted := true } }

end Sys2Proof.Machine
end

