-- ==== Sys2Proof/Machine/Ops.lean ====
section
/-! DEFINITION. The named operations over State: one accessor and one update for each record of a numbered collection,
the clock, the report queue (R176) and the reply list (R170). -/

namespace Sys2Proof.Machine

/-! ## The clock -/

/-- The end of a timer that starts now and runs for `ms`. -/
def State.ends (s : State) (ms : Nat) : Option Nat := some (s.now + ms)

/-- The time left of a timer, absent when it is stopped. -/
def State.timeLeft (s : State) (deadline : Option Nat) : Option Nat := deadline.map (· - s.now)

/-- The age of something that arrived at `since`, absent when nothing has. -/
def State.age (s : State) (since : Option Nat) : Option Nat := since.map (s.now - ·)

/-! ## Records of numbered collections -/

/-- The record of an axis. -/
def State.axis (s : State) (a : Axis) : AxisRecord := s.axes.get a

/-- An update of the record of an axis. -/
def State.onAxis (s : State) (a : Axis) (f : AxisRecord → AxisRecord) : State :=
  { s with axes := s.axes.set a (f (s.axes.get a)) }

/-- An update of the record of a zone. -/
def State.onZone (s : State) (z : Fin 24) (f : Zone → Zone) : State :=
  { s with zones := s.zones.set z (f s.zones[z]) }

/-- An update of a context. -/
def State.onContext (s : State) (c : Fin 16) (f : Context → Context) : State :=
  { s with contexts := s.contexts.set c (f s.contexts[c]) }

/-- An update of a load slot. -/
def State.onSlot (s : State) (k : Fin 52) (f : Slot → Slot) : State :=
  { s with budget := { s.budget with slots := s.budget.slots.set k (f s.budget.slots[k]) } }

/-- An update of a panel. -/
def State.onPanel (s : State) (p : Fin 12) (f : Panel → Panel) : State :=
  { s with panels := s.panels.set p (f s.panels[p]) }

/-- The configuration of an axis (R67). -/
def State.axisConfig (s : State) (a : Axis) : AxisConfig := s.config.axes.get a

/-- The context queue of an axis (R96). -/
def State.queue (s : State) (a : Axis) : List (Fin 16) := s.queues.get a

/-- The head of an axis's context queue (R96). -/
def State.head (s : State) (a : Axis) : Option (Fin 16) := (s.queue a).head?

/-- The raw demand of a load slot. -/
def State.raw (s : State) (k : Fin 52) : Nat := s.budget.slots[k].raw

/-- A save of the stored image is in flight (R186). -/
def State.isSaving (s : State) : Bool := s.store.saving.isSome

/-! ## Positions (R65, R66) -/

/-- The rode for a pulse count: floor(count × L / P) (R66). -/
def rodeOf (gear : GearConfig) (count : Nat) : Int := (count * gear.chain / gear.pulses : Nat)

/-- The sensor of a hydraulic axis. -/
def Sensors.get (t : Sensors) : Hydraulic → Sensor
  | .hatch => t.hatch
  | .platform => t.platform

/-- A new sensor record for a hydraulic axis. -/
def Sensors.set (t : Sensors) (h : Hydraulic) (v : Sensor) : Sensors :=
  match h with
  | .hatch => { t with hatch := v }
  | .platform => { t with platform := v }

/-- The measured position of an axis: the last sample of a hydraulic sensor, or the rode (R65, R66). -/
def State.measured (s : State) (a : Axis) : Option Int :=
  match a with
  | .hatch => s.sensors.hatch.position
  | .platform => s.sensors.platform.position
  | .windlass => some (rodeOf s.config.gear s.gypsy.count)

/-- The lower soft limit of every axis, and the upper soft limit of an axis (R68). -/
def upperLimit (gear : GearConfig) : Axis → Int
  | .hatch => 900
  | .platform => 1500
  | .windlass => gear.maxRode

/-- A position lies within the soft limits (R68). -/
def withinLimits (gear : GearConfig) (a : Axis) (p : Int) : Bool := decide (0 ≤ p ∧ p ≤ upperLimit gear a)

/-- A position lies beyond a soft limit by more than the overtravel margin (R84). The windlass's rode is never
negative, so its lower limit never acts. -/
def beyondMargin (gear : GearConfig) (a : Axis) (p : Option Int) : Bool :=
  match p with
  | some z => decide (z < -overtravelMargin a ∨ upperLimit gear a + overtravelMargin a < z)
  | none => false

/-! ## The report queue (R176) -/

/-- Urgency belongs to the key: FAULT and PROGRAM_END are urgent (R176). -/
def ReportKey.urgent : ReportKey → Bool
  | .fault _ => true
  | .programEnd _ => true
  | .start => false
  | .budget => false
  | .zone _ => false
  | .cueApplied => false
  | .axis _ => false
  | .panelAction _ => false

/-- The report code of a key (R176). -/
def ReportKey.code : ReportKey → Byte
  | .start => 0xE0
  | .budget => 0xE1
  | .zone _ => 0xE2
  | .cueApplied => 0xE3
  | .axis _ => 0xE4
  | .fault _ => 0xE5
  | .programEnd _ => 0xE6
  | .panelAction _ => 0xE7

/-- The content of a waiting entry is replaced in place (R176). -/
def replaceReport (key : ReportKey) (content : List Byte) : List ReportEntry → List ReportEntry
  | [] => []
  | e :: rest =>
    if e.key = key then { e with content := content } :: rest else e :: replaceReport key content rest

/-- An urgent entry is appended after every waiting urgent entry, and after START, which stands apart (R176). -/
def insertUrgent (entry : ReportEntry) : List ReportEntry → List ReportEntry
  | [] => [entry]
  | e :: rest => if e.key.urgent || e.key = .start then e :: insertUrgent entry rest else entry :: e :: rest

/-- A posting to the report queue: a waiting entry of the key has its content replaced in place; otherwise START goes
before every entry, an urgent entry to the end of the urgent tier, and any other entry to the end (R176). -/
def postTo (queue : List ReportEntry) (key : ReportKey) (content : List Byte) : List ReportEntry :=
  if queue.any (·.key = key) then replaceReport key content queue
  else if key = .start then ⟨key, content⟩ :: queue
  else if key.urgent then insertUrgent ⟨key, content⟩ queue
  else queue ++ [⟨key, content⟩]

/-- A block posts a report into the report queue of the Link Interface (R176). -/
def State.post (s : State) (key : ReportKey) (content : List Byte) : State :=
  { s with link := { s.link with reports := postTo s.link.reports key content } }

/-! ## Replies (R170) -/

/-- The result codes (00_scope.md, Messages on the host line). -/
inductive Result where
  | ok | busy | state | range | full | order | unknown | length | failed
  deriving DecidableEq, Repr

/-- The code of a result. -/
def Result.code : Result → Nat
  | .ok => 0
  | .busy => 1
  | .state => 2
  | .range => 3
  | .full => 4
  | .order => 5
  | .unknown => 6
  | .length => 7
  | .failed => 8

/-- The reply to a request: the request kind plus 0x80 (0xFF for UNKNOWN), the request's tag, and a payload whose first
byte is the result code (R170). -/
def replyFrame (kind tag : Byte) (result : Result) (fields : List Byte) : Frame :=
  { kind := if result = .unknown then 0xFF else kind + 0x80, tag := tag, payload := u8 result.code ++ fields }

/-- A reply is appended to the reply list as the newest reply (R170). -/
def State.reply (s : State) (kind tag : Byte) (result : Result) (fields : List Byte) : State :=
  { s with link := { s.link with
      replies := s.link.replies ++ [{ frame := replyFrame kind tag result fields, delayed := false }] } }

/-- A reply whose result is not OK carries the result code alone, unless its rule names more (R170). -/
def State.refuse (s : State) (kind tag : Byte) (result : Result) : State := s.reply kind tag result []

end Sys2Proof.Machine
end

