-- ==== Sys2Proof/Machine/Operands.lean ====
section
/-! DEFINITION. How the values that requests carry are stored: the clamps and roundings of the rules, and the codes of
the value codes table read from the line. -/

namespace Sys2Proof.Machine

/-- Any value other than 0 sets a flag. -/
def flagOf (n : Nat) : Bool := n != 0

/-- A value clamped into a range. -/
def clampInto (low high n : Nat) : Nat := max low (min high n)

/-- A level above 1000 is taken as 1000 (R30, R50, R54). -/
def clampLevel (n : Nat) : Nat := min n 1000

/-- A fade time above 60000 is taken as 60000, and is then rounded down to a multiple of 10 (R30, R50, R54). -/
def clampFade (n : Nat) : Nat := min n 60000 / 10 * 10

/-- A setpoint is clamped into 160..300 and then rounded down to a multiple of 5 (R36). -/
def clampSetpoint (n : Nat) : Nat := clampInto 160 300 n / 5 * 5

/-- A list of zones in ascending order, with each zone once (R88, R137). -/
def sortZones (zones : List Nat) : List Nat := (List.range 24).filter (zones.contains ·)

/-- The zone mode that a value names; 3..255 name none (R34). -/
def zoneModeOf : Nat → Option ZoneMode
  | 0 => some .occupied
  | 1 => some .eco
  | 2 => some .vacant
  | _ => none

/-- The commit mode that a value names (R57). -/
def commitModeOf : Nat → Option CommitMode
  | 0 => some .atFrame
  | 1 => some .afterFades
  | _ => none

/-- The direction that a value names (R124). -/
def directionOf : Nat → Option Direction
  | 0 => some .out
  | 1 => some .inward
  | _ => none

/-- The panel class that a value names (R141). -/
def panelClassOf : Nat → Option PanelClass
  | 0 => some .guest
  | 1 => some .crew
  | 2 => some .helm
  | _ => none

/-- The binding kind that a code names (R155). -/
def bindingKindOf : Nat → Option BindingKind
  | 0 => some .none
  | 1 => some .scene
  | 2 => some .levelUp
  | 3 => some .levelDown
  | 4 => some .setpointUp
  | 5 => some .setpointDown
  | 6 => some .mode
  | 7 => some .axisGoto
  | 8 => some .chimeAck
  | 9 => some .reportOnly
  | _ => none

/-- The speed class that a byte of a step record names: CRAWL, SLOW or NORMAL, or the absent marker (R98); `none` is a
byte that names none of them. -/
def speedFieldOf : Option Nat → Option (Option SpeedClass)
  | none => some none
  | some 0 => some (some .crawl)
  | some 1 => some (some .slow)
  | some 2 => some (some .normal)
  | some 255 => some none
  | some _ => none

/-- A scene record as stored (R50). -/
def storedScene (f : SceneFields) : Scene :=
  { levels := f.levels.map (·.map clampLevel), fade := clampFade f.fade, setpoint := f.setpoint.map clampSetpoint,
    mode := f.mode }

/-- A direction of a step: OUT when its target is greater than its start, IN when smaller, ZERO when equal (R72). -/
def Step.direction (t : Step) : StepDirection :=
  if t.start < t.target then .out else if t.target < t.start then .inward else .zero

/-- The direction of an interlock that a step direction names; a ZERO step names none. -/
def StepDirection.interlock : StepDirection → Option Direction
  | .out => some .out
  | .inward => some .inward
  | .zero => none

/-- A step whose speed class is absent runs at NORMAL (R70). -/
def Step.speedClass (t : Step) : SpeedClass := t.speed.getD .normal

/-- An absent dwell is 0 (R94). -/
def Step.dwellTime (t : Step) : Nat := t.dwell.getD 0

end Sys2Proof.Machine
end

