-- ==== Sys2Proof/Machine/Flags.lean ====
section
/-! DEFINITION. Flags, sets and codes: the flags of a pass (R15), the hold set (R79), and the value codes table of
chapter 9. -/

namespace Sys2Proof.Machine

/-! ## Flags of a pass result (R15) -/

/-- What the flags of a pass are computed from: A, H, the short list, and whether some raw demand lies above its cap. -/
def passFlags (mode : AllocMode) (available headroom : Int) (short saturated : Bool) : PassFlags :=
  { neg := decide (available < 0), short := short, zero := decide (headroom = 0), sat := saturated,
    held := decide (mode = .hold) }

/-- The flags byte of a BUDGET report: NEG 0, SHORT 1, ZERO 2, SAT 3, HELD 4. -/
def PassFlags.byte (f : PassFlags) : List Byte := bits [f.neg, f.short, f.zero, f.sat, f.held]

/-! ## The hold set (R79) -/

/-- A hold reason stands in the set. -/
def HoldSet.has (h : HoldSet) : HoldReason → Bool
  | .linkPause => h.linkPause
  | .linkSilent => h.linkSilent
  | .starved => h.starved
  | .interlock => h.interlock
  | .shed => h.shed
  | .released => h.released

/-- The set with one reason present or absent. -/
def HoldSet.put (h : HoldSet) (r : HoldReason) (present : Bool) : HoldSet :=
  match r with
  | .linkPause => { h with linkPause := present }
  | .linkSilent => { h with linkSilent := present }
  | .starved => { h with starved := present }
  | .interlock => { h with interlock := present }
  | .shed => { h with shed := present }
  | .released => { h with released := present }

/-- The hold set byte: LINK_PAUSE 0, LINK_SILENT 1, STARVED 2, INTERLOCK 3, SHED 4, RELEASED 5. -/
def HoldSet.byte (h : HoldSet) : List Byte :=
  bits [h.linkPause, h.linkSilent, h.starved, h.interlock, h.shed, h.released]

/-! ## Value codes (section Byte layouts) -/

/-- zone mode: OCCUPIED 0, ECO 1, VACANT 2 -/
def ZoneMode.code : ZoneMode → Nat
  | .occupied => 0
  | .eco => 1
  | .vacant => 2

/-- temperature state: LIVE 0, LOST 1 -/
def temperatureCode (live : Bool) : Nat := if live then 0 else 1

/-- direction: NONE 0, HEAT 1, COOL 2 -/
def ClimateDirection.code : ClimateDirection → Nat
  | .none => 0
  | .heat => 1
  | .cool => 2

/-- climate stage: OFF 0, FAN 1, STAGE1 2, STAGE2 3 -/
def Stage.code : Stage → Nat
  | .off => 0
  | .fan => 1
  | .stage1 => 2
  | .stage2 => 3

/-- allocator mode: NORMAL 0, HOLD 1 -/
def AllocMode.code : AllocMode → Nat
  | .normal => 0
  | .hold => 1

/-- commit mode: AT_FRAME 0, AFTER_FADES 1 -/
def CommitMode.code : CommitMode → Nat
  | .atFrame => 0
  | .afterFades => 1

/-- axis state: IDLE 0, PREPARING 1, MOVING 2, DWELL 3, HOLD 4, STOPPING 5, FAULT 6 -/
def AxisState.code : AxisState → Nat
  | .idle => 0
  | .preparing => 1
  | .moving => 2
  | .dwell => 3
  | .hold => 4
  | .stopping => 5
  | .fault => 6

/-- speed class: CRAWL 0, SLOW 1, NORMAL 2 -/
def SpeedClass.code : SpeedClass → Nat
  | .crawl => 0
  | .slow => 1
  | .normal => 2

/-- sensor state: FRESH 0, STALE 1 -/
def sensorCode (fresh : Bool) : Nat := if fresh then 0 else 1

/-- fault kind: STALL 0, OVERTRAVEL 1, SENSOR 2, OVERLOAD 3 -/
def FaultKind.code : FaultKind → Nat
  | .stall => 0
  | .overtravel => 1
  | .sensor => 2
  | .overload => 3

/-- context state: FREE 0, QUEUED 1, ACTIVE 2, CLOSING 3 -/
def ContextState.code : ContextState → Nat
  | .free => 0
  | .queued => 1
  | .active => 2
  | .closing => 3

/-- admission state: OPEN 0, DONE 1, BROKEN 2, CANCELLED 3 -/
def Admission.code : Admission → Nat
  | .open => 0
  | .done => 1
  | .broken => 2
  | .cancelled => 3

/-- program end status: COMPLETE 0, CANCELLED 1, BROKEN 2, STARVED 3, NOT_READY 4, FAULTED 5, RELEASED 6, ABANDONED 7 -/
def EndStatus.code : EndStatus → Nat
  | .complete => 0
  | .cancelled => 1
  | .broken => 2
  | .starved => 3
  | .notReady => 4
  | .faulted => 5
  | .released => 6
  | .abandoned => 7

/-- vessel data state: ABSENT 0, FRESH 1, OLD 2 -/
def VesselState.code : VesselState → Nat
  | .absent => 0
  | .fresh => 1
  | .old => 2

/-- test reading: FALSE 0, TRUE 1, UNKNOWN 2 -/
def Reading.code : Reading → Nat
  | .isFalse => 0
  | .isTrue => 1
  | .unknown => 2

/-- panel class: GUEST 0, CREW 1, HELM 2 -/
def PanelClass.code : PanelClass → Nat
  | .guest => 0
  | .crew => 1
  | .helm => 2

/-- touch state: ABSENT 0, UP 1, DOWN 2, SLID 3 -/
def Touch.code : Touch → Nat
  | .absent => 0
  | .up => 1
  | .down _ _ _ => 2
  | .slid => 3

/-- panel action result: DONE 0, DENIED_AUTH 1, DENIED_STATE 2, DENIED_FULL 3 -/
def ActionResult.code : ActionResult → Nat
  | .done => 0
  | .deniedAuth => 1
  | .deniedState => 2
  | .deniedFull => 3

/-- binding kind, as R155 numbers them -/
def BindingKind.code : BindingKind → Nat
  | .none => 0
  | .scene => 1
  | .levelUp => 2
  | .levelDown => 3
  | .setpointUp => 4
  | .setpointDown => 5
  | .mode => 6
  | .axisGoto => 7
  | .chimeAck => 8
  | .reportOnly => 9

/-- reset kind: POWER_ON 0, COLD 1, WARM 2 -/
def ResetKind.code : ResetKind → Nat
  | .powerOn => 0
  | .cold => 1
  | .warm => 2

/-- owner: the panel number, or 0x80 for LINK -/
def Owner.code : Owner → Nat
  | .link => 0x80
  | .panel p => p.val

/-- direction of an interlock: OUT 0, IN 1 (R124) -/
def Direction.code : Direction → Nat
  | .out => 0
  | .inward => 1

/-- An axis's number in one byte, or its marker. -/
def axisByte (a : Option Axis) : List Byte := orMarker 1 (fun x => u8 (axisNumber x)) a

/-- A hydraulic axis's number in one byte, or its marker. -/
def hydraulicByte (h : Option Hydraulic) : List Byte := axisByte (h.map axisOfHydraulic)

end Sys2Proof.Machine
end

