-- ==== Sys2Proof/Machine/Signals.lean ====
section
/-! DEFINITION. The signals that the blocks send each other inside one step (00_scope.md, Blocks at a glance: a block
acts on "a notice from another block"; a notice of the chime is another thing). A handler answers the new state and the
signals to take next, before those already waiting, so that each is carried out whole where the rules send it.
Machine/Cascade.lean runs them. -/

namespace Sys2Proof.Machine

/-- A signal from one block to another, or from a block to itself. -/
inductive Signal where
  -- Budget Allocator
  /-- An owner posts a demand to its slot (R7). -/
  | post (slot : Fin 52) (demand : Nat)
  /-- An allocation pass is taken (R10). -/
  | pass
  /-- What the passes of this event have sent on is taken, oldest first, until nothing is left (R16, log entry 9). -/
  | passEnd
  -- Zone Controller and Cue Unit
  /-- A zone computes its lighting demand and posts it (R32). -/
  | lightDemand (zone : Fin 24)
  /-- A zone works out its climate and posts its climate demand (R37, R38). -/
  | climateWork (zone : Fin 24)
  /-- A zone posts its ZONE report when something R40 names differs from the zone as it was. -/
  | reportZone (zone : Fin 24) (before : Zone)
  /-- The Cue Unit sees the output frame (R58). -/
  | cueFrame
  /-- The Cue Unit empties its list and posts CUE_APPLIED (R60, R62). -/
  | cueApplied (mode : CommitMode) (count : Nat) (late : Bool)
  -- Axis Controller
  /-- An axis in IDLE takes up its head context (R73). -/
  | takeUp (axis : Axis)
  /-- The end of the entry to PREPARING, where the gates are first tested (R131). -/
  | endEntry (axis : Axis)
  /-- The gates are tested (R131). -/
  | testGates (axis : Axis)
  /-- The dwell ends (R78). -/
  | endDwell (axis : Axis)
  /-- A hold reason is added (R80). -/
  | addHold (axis : Axis) (reason : HoldReason)
  /-- A hold reason is removed (R80). -/
  | removeHold (axis : Axis) (reason : HoldReason)
  /-- The checks of a position change (R65, R66, R76, R84). -/
  | travelled (axis : Axis) (before : Option Int)
  /-- A fault of an axis (R84 to R86). -/
  | fault (axis : Axis) (kind : FaultKind)
  /-- The FAULT report of a fault (R91). -/
  | reportFault (axis : Axis) (kind : FaultKind) (position : Option Int)
  /-- The AXIS report of a change (R90). -/
  | reportAxis (axis : Axis)
  -- Program Table
  /-- The program of a context ends (R112). -/
  | endProgram (context : Fin 16) (status : EndStatus)
  /-- Steps 3 and 4 of a program's end (R112). -/
  | freeContext (context : Fin 16) (status : EndStatus)
  -- Interlock Evaluator and Pump Arbiter
  /-- The permits are worked out again (R123). -/
  | evaluatePermits
  /-- A changed permit is delivered to its axis (R123). -/
  | deliverPermit (axis : Axis) (direction : Direction) (value : Bool)
  /-- A hydraulic axis requests the pump (R128). -/
  | requestPump (axis : Hydraulic)
  /-- The pump is released, or the axis leaves the wait (R130). -/
  | releasePump (axis : Hydraulic)
  /-- The pump passes to the waiting axis (R130). -/
  | handOver
  -- Panel Service and Action Dispatcher
  /-- A press is handed to the Action Dispatcher (R151, R157). -/
  | press (panel : Fin 12) (tag : Nat)
  /-- A release is handed to the Action Dispatcher (R151, R163). -/
  | release (panel : Fin 12) (tag : Nat)
  /-- The result of a dispatch: its PANEL_ACTION report, and the deny tone when it is denied (R157, R166). -/
  | actionResult (panel : Fin 12) (result : ActionResult) (content : List Byte)
  deriving DecidableEq, Repr

/-- What an allocation pass sends on at its end (R16): a changed grant on its way to its owner, or the pass itself, as the
content of its BUDGET report and the copy to compare it with. Each keeps the values of its own pass, whatever pass follows
(log entry 9). -/
inductive Outgoing where
  /-- A changed grant on its way to the owner of its slot (R16, R19). -/
  | grant (slot : Fin 52) (grant : Nat)
  /-- A pass to be compared with the last-posted copy (R24). -/
  | report (content : List Byte) (copy : PostedCopy)
  deriving DecidableEq, Repr

/-- What a handler answers: the new state, and the signals it sends. -/
abbrev Handled := State × List Signal

end Sys2Proof.Machine
end

