-- ==== Sys2Proof/Machine/Chime.lean ====
section
/-! DEFINITION. The Chime Unit (sections 6.4 and 6.5): motion lanes, the notice lane, and the choice of each speaker. -/

namespace Sys2Proof.Machine

/-- A lane starts a note of a pattern: the note is read from the pattern at its start (R132). -/
def State.startNote (s : State) (pattern : Fin 8) (index : Nat) : Option Playing :=
  (s.config.patterns[pattern].notes[index]?).map fun n => { index, note := n, ends := s.now + n.duration }

/-- The motion lane of an axis is active while the axis is in PREPARING, MOVING or STOPPING (R134). -/
def AxisState.sounds : AxisState → Bool
  | .preparing => true
  | .moving => true
  | .stopping => true
  | .idle => false
  | .dwell => false
  | .hold => false
  | .fault => false

/-- The motion lane of an axis after its axis changes state: it starts the warn pattern at note 0 when it becomes active,
plays on while it stays active, and falls silent otherwise (R134). -/
def State.laneAfter (s : State) (a : Axis) (old new : AxisState) : Option Playing :=
  if new.sounds then
    if old.sounds then s.chime.lanes.get a else s.startNote (s.axisConfig a).warnPattern 0
  else none

/-- A motion lane's note ends: the next note starts, and after the last note the first again (R134). A next note beyond
a rewritten pattern's end counts the pattern as played through (R132). -/
def motionNote (a : Axis) (s : State) : State :=
  match s.chime.lanes.get a with
  | none => s
  | some p =>
    let pattern := (s.axisConfig a).warnPattern
    let next := if p.index + 1 < s.config.patterns[pattern].notes.length then p.index + 1 else 0
    { s with chime := { s.chime with lanes := s.chime.lanes.set a (s.startNote pattern next) } }

/-- The notice lane starts a note: it reads the note and the zones' speaker volumes (R132, R135; log entry 23). -/
def State.startNotice (s : State) (pattern : Fin 8) (index : Nat) : Option NoticeNote :=
  (s.startNote pattern index).map fun p => { playing := p, volumes := s.config.zones.map (·.volume) }

/-- The current notice, the oldest of a queue, starts at note 0; an empty queue is silent (R135). -/
def State.playNotices (s : State) (notices : List Notice) : State :=
  { s with chime := { s.chime with
      notices, playing := notices.head?.bind fun n => s.startNotice n.pattern 0 } }

/-- A notice joins the queue as the newest; in an empty queue it becomes current at once (R135). -/
def State.joinNotice (s : State) (n : Notice) : State :=
  if s.chime.notices.isEmpty then s.playNotices [n]
  else { s with chime := { s.chime with notices := s.chime.notices ++ [n] } }

/-- The current notice leaves the queue, and the next becomes current at once (R135). -/
def State.stopNotice (s : State) : State := s.playNotices s.chime.notices.tail

/-- The notice lane's note ends: the next note starts, or a pass is complete and the notice starts again or ends
(R135). A notice whose passes exceed its repeat count, because its pattern's loop flag was set until now, ends: DESIGN CHOICE,
log entry 38. -/
def noticeNote (s : State) : State :=
  match s.chime.playing, s.chime.notices with
  | some p, n :: rest =>
    let pattern := s.config.patterns[n.pattern]
    if p.playing.index + 1 < pattern.notes.length then
      { s with chime := { s.chime with playing := s.startNotice n.pattern (p.playing.index + 1) } }
    else if pattern.loop || decide (n.played + 1 < n.repeats) then
      s.playNotices ({ n with played := n.played + 1 } :: rest)
    else s.playNotices rest
  | _, _ => s

/-- The deny tone: a notice of pattern 7 on one zone with repeat count 1, when fewer than 4 notices are queued (R135,
R157). -/
def State.denyTone (s : State) (zone : Fin 24) : State :=
  if s.chime.notices.length < noticeCapacity then
    s.joinNotice { pattern := 7, zones := [zone.val], repeats := 1, played := 0 }
  else s

/-- What a zone's speaker plays: a pitch at a volume. A rest has pitch 0 and is heard as silence (R132, R136). -/
structure Speaker where
  pitch : Nat
  volume : Nat
  deriving DecidableEq, Repr

/-- The speaker of a zone (R136): the active motion lane of the lowest-numbered axis whose warn zone list includes it, at
volume 255; else the current notice whose zone list includes it, at the zone's volume as read at the note's start; else
silence. The choice is a view of the lanes and the notice lane, so it is made again at each of their changes. -/
def State.speaker (s : State) (zone : Fin 24) : Option Speaker :=
  let lane := allAxes.findSome? fun a =>
    if (s.axisConfig a).warnZones.contains zone.val then s.chime.lanes.get a else none
  match lane with
  | some p => some { pitch := p.note.pitch, volume := 255 }
  | none =>
    match s.chime.playing, s.chime.notices.head? with
    | some p, some n =>
      if n.zones.contains zone.val then some { pitch := p.playing.note.pitch, volume := p.volumes[zone] } else none
    | _, _ => none

end Sys2Proof.Machine
end

