-- ==== Sys2Proof/Machine/Budget.lean ====
section
/-! DEFINITION. The Budget Allocator (chapter 1): postings, the allocation pass, and the BUDGET report. -/

namespace Sys2Proof.Machine

/-- Usable supply: U = S − floor(S × R / 100) (R11). -/
def usableSupply (supply reserve : Nat) : Nat := supply - supply * reserve / 100

/-- Peak base load: the largest sample in the history (R11). -/
def peakLoad (history : List Nat) : Nat := history.foldl max 0

/-- The three stage currents of a zone's climate unit (R8). -/
def ZoneConfig.stageCurrents (c : ZoneConfig) : List Nat := [c.fan, c.stage1, c.stage2]

/-- The largest of the stage currents that is at most a limit; 0 when none is (R13). -/
def largestStage (currents : List Nat) (limit : Nat) : Nat := (currents.filter (· ≤ limit)).foldl max 0

/-- The stage currents of a STEPPED slot: those of zone `slot − 24` (R8). Other slots have none. -/
def State.slotStages (s : State) (slot : Fin 52) : List Nat :=
  match indexOf 24 (slot.val - 24) with
  | some z => s.config.zones[z].stageCurrents
  | none => []

/-- The configuration of a slot. -/
def State.slotConfig (s : State) (slot : Fin 52) : SlotConfig := s.config.slots[slot]

/-- A slot enters the walk: it is enabled and its effective demand is not 0 (R12). -/
def State.enters (s : State) (slot : Fin 52) : Bool :=
  (s.slotConfig slot).enabled && s.budget.slots[slot].effective != 0

/-- Rank order: higher priority first, then the lower slot number (R12). -/
def State.ranksBefore (s : State) (a b : Fin 52) : Bool :=
  decide ((s.slotConfig b).priority < (s.slotConfig a).priority)
    || (decide ((s.slotConfig a).priority = (s.slotConfig b).priority) && decide (a ≤ b))

/-- The slots that enter the walk, in rank order (R12). -/
def State.ranked (s : State) : List (Fin 52) :=
  (allSlots.filter s.enters).insertionSort fun a b => s.ranksBefore a b

/-- The ceiling of a slot in a NORMAL pass: the effective demand, and at most the current grant while the slot's hold-off
runs (R13). -/
def Slot.ceiling (k : Slot) : Nat := if k.holdOffEnds.isSome then min k.effective k.grant else k.effective

/-- The grant of a slot in a NORMAL pass from the remaining current `r` (R13). -/
def State.normalGrant (s : State) (slot : Fin 52) (r : Int) : Nat :=
  let k := s.budget.slots[slot]
  match slotClass slot with
  | .whole => if k.ceiling = k.effective ∧ (k.ceiling : Int) ≤ r then k.ceiling else 0
  | .stepped => largestStage (s.slotStages slot) (min k.ceiling r.toNat)
  | .divisible =>
    let g := min k.ceiling r.toNat
    if g < (s.slotConfig slot).dmin then 0 else g

/-- One slot of the walk: it takes its grant from what remains (R13). -/
def State.walkSlot (s : State) (acc : Vector Nat 52 × Int) (slot : Fin 52) : Vector Nat 52 × Int :=
  let g := s.normalGrant slot acc.2
  (acc.1.set slot g, acc.2 - g)

/-- The walk of a NORMAL pass: every grant, and the current that remains (R13). -/
def State.walk (s : State) (available : Int) : Vector Nat 52 × Int :=
  s.ranked.foldl s.walkSlot (Vector.replicate 52 0, available)

/-- The grant of a slot in a HOLD pass: no grant rises (R17). -/
def State.heldGrant (s : State) (slot : Fin 52) : Nat :=
  let k := s.budget.slots[slot]
  if s.enters slot then
    match slotClass slot with
    | .divisible => min k.grant k.effective
    | .stepped => largestStage (s.slotStages slot) (min k.grant k.effective)
    | .whole => if k.effective ≤ k.grant then k.effective else 0
  else 0

/-- The peak base load of a pass: the peak of the history in NORMAL, the held peak in HOLD (R11, R17). -/
def State.passPeak (s : State) : Nat :=
  match s.budget.mode with
  | .normal => peakLoad s.budget.history
  | .hold => s.budget.heldPeak

/-- The available current of a pass, A = U − W (R11, R17). -/
def State.passAvailable (s : State) : Int :=
  (usableSupply s.config.supply s.config.reserve : Int) - s.passPeak

/-- The grants of a pass (R13, R17). -/
def State.passGrants (s : State) : Vector Nat 52 :=
  match s.budget.mode with
  | .normal => (s.walk s.passAvailable).1
  | .hold => Vector.ofFn s.heldGrant

/-- The sum of all grants, G (R14). -/
def grantSum (grants : Vector Nat 52) : Nat := grants.toList.sum

/-- The headroom, H: what the walk leaves in NORMAL, A − G in HOLD (R14). -/
def State.passHeadroom (s : State) : Int :=
  match s.budget.mode with
  | .normal => (s.walk s.passAvailable).2
  | .hold => s.passAvailable - grantSum s.passGrants

/-- The short list: every enabled slot with a grant less than its effective demand, in rank order (R15). -/
def State.passShort (s : State) (grants : Vector Nat 52) : List (Fin 52) :=
  s.ranked.filter fun k => decide (grants[k] < s.budget.slots[k].effective)

/-- Some slot, enabled or not, has a raw demand above its cap (R15). -/
def State.saturated (s : State) : Bool :=
  allSlots.any fun k => decide ((s.slotConfig k).cap < s.budget.slots[k].raw)

/-- The number of the pass being taken: one more, wrapping from 65535 to 0 (R10). -/
def State.nextPass (s : State) : Nat := (s.budget.passNumber + 1) % 65536

/-- The pass result record (R14). -/
def State.passResult (s : State) : PassResult :=
  let grants := s.passGrants
  let short := s.passShort grants
  { number := s.nextPass, mode := s.budget.mode, usable := usableSupply s.config.supply s.config.reserve,
    peak := s.passPeak, available := s.passAvailable, total := grantSum grants, headroom := s.passHeadroom,
    flags := passFlags s.budget.mode s.passAvailable s.passHeadroom (!short.isEmpty) s.saturated,
    shortList := short.map (·.val) }

/-- A slot's hold-off after a pass: it starts or restarts when the grant of a STEPPED or WHOLE slot fell and its hold-off
length is nonzero (R9, R16). -/
def State.holdOffAfter (s : State) (slot : Fin 52) (grant : Nat) : Option Nat :=
  let k := s.budget.slots[slot]
  let seconds := (s.slotConfig slot).holdOff
  if grant < k.grant ∧ slotClass slot ≠ .divisible ∧ seconds ≠ 0 then s.ends (1000 * seconds) else k.holdOffEnds

/-- The slots after a pass: new grants, now also the grants last delivered, and hold-offs started on every fall (R9,
R16). -/
def State.passSlots (s : State) (grants : Vector Nat 52) : Vector Slot 52 :=
  Vector.ofFn fun k =>
    { s.budget.slots[k] with grant := grants[k], delivered := grants[k], holdOffEnds := s.holdOffAfter k grants[k] }

/-- The state that an allocation pass leaves: grants, pass result and hold-offs all written (R10 to R17). -/
def State.afterPass (s : State) : State :=
  { s with budget := { s.budget with
      slots := s.passSlots s.passGrants, heldPeak := s.passPeak, passNumber := s.nextPass, result := s.passResult } }

/-- The pump run output is on while the pump has an owner and the last delivered grant equals slot 48's raw demand
(R129). -/
def State.withPumpRun (s : State) : State :=
  { s with pump := { s.pump with run := s.pump.owner.isSome && s.pump.grant == s.raw pumpSlot } }

/-- A raw demand is stored, and the effective demand is min(raw, cap) (R7). -/
def State.withDemand (s : State) (slot : Fin 52) (demand : Nat) : State :=
  (s.onSlot slot fun k => { k with raw := demand, effective := min demand (s.slotConfig slot).cap }).withPumpRun

/-- A posting that differs from the raw demand stores it and takes a pass; an equal one changes nothing (R7). -/
def postDemand (slot : Fin 52) (demand : Nat) (s : State) : Handled :=
  if demand = s.raw slot then (s, []) else (s.withDemand slot demand, [.pass])

/-- The 52 grants in slot order. -/
def State.grants (s : State) : List Nat := s.budget.slots.toList.map (·.grant)

/-- The pass result record on the line (section Byte layouts): the part of BUDGET before the grants. -/
def PassResult.bytes (r : PassResult) : List Byte :=
  u16 r.number ++ u8 r.mode.code ++ u16 r.usable ++ u16 r.peak ++ i32 r.available ++ u16 r.total ++ i32 r.headroom
    ++ r.flags.byte

/-- The short list on the line: a count and the slot numbers. -/
def PassResult.shortBytes (r : PassResult) : List Byte := u8 r.shortList.length ++ r.shortList.flatMap u8

/-- The BUDGET report (R24, section Byte layouts). -/
def State.budgetContent (s : State) : List Byte :=
  s.budget.result.bytes ++ s.grants.flatMap u16 ++ s.budget.result.shortBytes

/-- What the last-posted copy holds of a pass (R24). -/
def State.passCopy (s : State) : PostedCopy :=
  { grants := s.grants, flags := s.budget.result.flags, mode := s.budget.result.mode }

/-- The slots whose new grant differs from the grant last delivered to their owner (R16). -/
def State.passChanged (s : State) : List (Fin 52) :=
  allSlots.filter fun k => s.passGrants[k] != s.budget.slots[k].delivered

/-- What an allocation pass sends on at its end, in the order of R16: the changed grants, in slot order (log entry 9), and
then the pass itself to the BUDGET report (R24). -/
def State.passOutgoing (s : State) : List Outgoing :=
  (s.passChanged.map fun k => .grant k s.passGrants[k])
    ++ [.report s.afterPass.budgetContent s.afterPass.passCopy]

/-- A pass is compared with the last-posted copy: its BUDGET report is posted when the grants, a flag or the mode differ from
the copy, or there is none, and the copy takes the values of the pass (R24). -/
def reportBudget (content : List Byte) (copy : PostedCopy) (s : State) : State :=
  if s.budget.posted = some copy then s
  else { s.post .budget content with budget := { s.budget with posted := some copy } }

end Sys2Proof.Machine
end

