-- ==== Sys2Proof/Machine/Zones.lean ====
section
/-! DEFINITION. The Zone Controller (chapter 2): fades, lighting demand and scaling, modes, setpoints and climate, and
scene recalls (R49). -/

namespace Sys2Proof.Machine

/-! ## Level changes and fades -/

/-- The target of a level change: at most 1000, and at most 600 in ECO (R30). -/
def cappedTarget (mode : ZoneMode) (target : Nat) : Nat :=
  if mode = .eco then min (clampLevel target) 600 else clampLevel target

/-- A level change on a channel (R30). -/
def Channel.changeLevel (mode : ZoneMode) (target fade : Nat) (c : Channel) : Channel :=
  let t := cappedTarget mode target
  if t = c.level then { c with target := c.level, fading := false }
  else { c with fadeStart := c.level, target := t, framesDone := 0, framesTotal := clampFade fade / 10, fading := true }

/-- The level of a fade after `done` of `total` frames: s + trunc((t − s) × k / F) (R31). -/
def fadeLevel (start target done total : Nat) : Nat :=
  ((start : Int) + (((target : Int) - start) * done).tdiv total).toNat

/-- A fading channel advances by one frame; the fade ends when k reaches F (R31). -/
def Channel.advance (c : Channel) : Channel :=
  if c.fading then
    let k := c.framesDone + 1
    if c.framesTotal ≤ k then { c with framesDone := k, level := c.target, fading := false }
    else { c with framesDone := k, level := fadeLevel c.fadeStart c.target k c.framesTotal }
  else c

/-- A fading channel completes its fade at once (R47). -/
def Channel.complete (c : Channel) : Channel :=
  if c.fading then { c with level := c.target, framesDone := c.framesTotal, fading := false } else c

/-- The four channels, each changed by its number. -/
def Zone.onChannels (z : Zone) (f : Fin 4 → Channel → Channel) : Zone :=
  { z with channels := Vector.ofFn fun i => f i z.channels[i] }

/-- Some channel of the zone is fading. -/
def Zone.isFading (z : Zone) : Bool := z.channels.toList.any (·.fading)

/-- One level change for each present level (R42, R49, R60). -/
def Zone.changeLevels (levels : Vector (Option Nat) 4) (fade : Nat) (z : Zone) : Zone :=
  z.onChannels fun i c =>
    match levels[i] with
    | some l => c.changeLevel z.mode l fade
    | none => c

/-! ## Demand and outputs -/

/-- The lighting demand: d = ceil(Σ max(level, target) × rated current / 1000) (R32). -/
def lightingDemand (rated : Vector Nat 4) (channels : Vector Channel 4) : Nat :=
  (((List.finRange 4).map fun i : Fin 4 => max channels[i].level channels[i].target * rated[i]).sum + 999) / 1000

/-- A zone is scaled while g < d (R33). -/
def Zone.scaled (z : Zone) : Bool := decide (z.lightGrant < z.demand)

/-- The output of a channel: its level, or floor(level × g / d) while g < d (R33). -/
def scaledOutput (level grant demand : Nat) : Nat := if demand ≤ grant then level else level * grant / demand

/-- The outputs of a zone follow its levels, its demand and its lighting grant (R33). -/
def Zone.rescale (z : Zone) : Zone :=
  z.onChannels fun _ c => { c with output := scaledOutput c.level z.lightGrant z.demand }

/-! ## Mode and setpoint -/

/-- The level changes of an entry to a mode: above 600 to 600 in ECO, lit to 0 in VACANT, over 3000 ms (R34). -/
def Zone.enterMode (mode : ZoneMode) (z : Zone) : Zone :=
  match mode with
  | .occupied => { z with mode }
  | .eco =>
    ({ z with mode } : Zone).onChannels fun _ c => if 600 < c.target then c.changeLevel .eco 600 3000 else c
  | .vacant =>
    ({ z with mode } : Zone).onChannels fun _ c => if c.target ≠ 0 then c.changeLevel .vacant 0 3000 else c

/-- A mode change: a value naming the mode in force, or 3..255, changes nothing (R34). -/
def Zone.changeMode (value : Nat) (z : Zone) : Zone :=
  match zoneModeOf value with
  | some mode => if mode = z.mode then z else z.enterMode mode
  | none => z

/-- A setpoint change stores the clamped and rounded value (R36). -/
def Zone.changeSetpoint (value : Nat) (z : Zone) : Zone := { z with setpoint := clampSetpoint value }

/-- The steps of a scene recall: mode, then levels, then setpoint (R49). -/
def Zone.recall (scene : Scene) (z : Zone) : Zone :=
  let z := match scene.mode with
    | some m => z.changeMode m
    | none => z
  let z := z.changeLevels scene.levels scene.fade
  match scene.setpoint with
  | some v => z.changeSetpoint v
  | none => z

/-! ## Climate -/

/-- The current of a stage (R35). -/
def ZoneConfig.stageCurrent (c : ZoneConfig) : Stage → Nat
  | .off => 0
  | .fan => c.fan
  | .stage1 => c.stage1
  | .stage2 => c.stage2

/-- The stage of a zone with nothing to correct: FAN, or OFF in VACANT (R37). -/
def restStage (mode : ZoneMode) : Stage := if mode = .vacant then .off else .fan

/-- The demanded stage for a temperature error in LIVE state (R37). -/
def errorStage (mode : ZoneMode) (error : Int) : Stage :=
  if |error| ≤ deadband mode then restStage mode
  else if |error| ≤ deadband mode + 10 then .stage1 else .stage2

/-- The direction for a temperature error (R37). -/
def errorDirection (error : Int) : ClimateDirection :=
  if 0 < error then .heat else if error < 0 then .cool else .none

/-- The running stage: the highest stage, no higher than the demanded one, whose current is at most the climate grant;
OFF when none from FAN up is (R39). -/
def runningStage (config : ZoneConfig) (demanded : Stage) (grant : Nat) : Stage :=
  (([Stage.stage2, .stage1, .fan].filter fun t =>
    decide (t.code ≤ demanded.code) && decide (config.stageCurrent t ≤ grant)).head?).getD .off

/-- The running stage is worked out afresh (R39). -/
def Zone.rerun (config : ZoneConfig) (z : Zone) : Zone :=
  { z with climate := { z.climate with running := runningStage config z.climate.demanded z.climate.grant } }

/-- Working out the climate: direction, demanded stage and running stage (R37, R39). -/
def Zone.workOut (config : ZoneConfig) (z : Zone) : Zone :=
  let error : Int := (z.setpoint : Int) - z.climate.temperature
  let climate :=
    if z.climate.live then
      { z.climate with demanded := errorStage z.mode error, direction := errorDirection error }
    else { z.climate with demanded := restStage z.mode, direction := .none }
  ({ z with climate } : Zone).rerun config

/-! ## The ZONE report -/

/-- Something that R40 names differs between two states of a zone. -/
def Zone.differs (a b : Zone) : Bool :=
  a.mode != b.mode || a.setpoint != b.setpoint || a.channels.map (·.target) != b.channels.map (·.target)
    || a.climate.demanded != b.climate.demanded || a.climate.direction != b.climate.direction
    || a.climate.running != b.climate.running || a.scaled != b.scaled

/-- The ZONE report (R40, section Byte layouts). -/
def Zone.content (number : Fin 24) (z : Zone) : List Byte :=
  u8 number.val ++ u8 z.mode.code ++ u16 z.setpoint ++ i16 z.climate.temperature
    ++ u8 (temperatureCode z.climate.live) ++ z.channels.toList.flatMap (fun c => u16 c.target)
    ++ z.channels.toList.flatMap (fun c => u16 c.level) ++ u16 z.demand ++ u16 z.lightGrant ++ flag z.scaled
    ++ u8 z.climate.demanded.code ++ u8 z.climate.direction.code ++ u8 z.climate.running.code
    ++ u16 z.climate.grant

/-- A zone posts its ZONE report under its own key (R40). -/
def State.reportZone (s : State) (z : Fin 24) : State := s.post (.zone z) (s.zones[z].content z)

/-- A zone posts its ZONE report when something R40 names differs from the zone before the event. A field changed and changed
back inside one event is no change: DESIGN CHOICE, log entry 34. -/
def reportZoneChange (z : Fin 24) (before : Zone) (s : State) : State :=
  if s.zones[z].differs before then s.reportZone z else s

/-! ## Signals of the Zone Controller -/

/-- A zone computes its lighting demand, its outputs follow, and it posts the demand to its lighting slot (R32, R33). -/
def lightDemand (z : Fin 24) (s : State) : Handled :=
  let d := lightingDemand s.config.zones[z].rated s.zones[z].channels
  (s.onZone z fun r => ({ r with demand := d } : Zone).rescale, [.post (lightSlot z) d])

/-- A zone works out its climate and posts the current of its demanded stage (R37, R38). -/
def climateWork (z : Fin 24) (s : State) : Handled :=
  let r := s.zones[z].workOut s.config.zones[z]
  (s.onZone z fun _ => r, [.post (climateSlot z) (s.config.zones[z].stageCurrent r.climate.demanded)])

/-- A lighting grant delivered to its zone: the outputs are recomputed, and a ZONE report follows when the scaled state
begins or ends (R19, R33, R40). -/
def deliverLight (z : Fin 24) (grant : Nat) (s : State) : State :=
  reportZoneChange z s.zones[z] (s.onZone z fun r => ({ r with lightGrant := grant } : Zone).rescale)

/-- A climate grant delivered to its zone: the running stage is worked out afresh, and a ZONE report follows when it
changed (R19, R39, R40). -/
def deliverClimate (z : Fin 24) (grant : Nat) (s : State) : State :=
  reportZoneChange z s.zones[z]
    (s.onZone z fun r => ({ r with climate := { r.climate with grant } } : Zone).rerun s.config.zones[z])

/-- The demands and the report of a zone after an event's changes: lighting where the event's rule computes it, climate
when the mode or the setpoint differs from before, and one report (R30, R34, R36, R49, R61). A mode or setpoint changed and
changed back inside the event works out no climate: DESIGN CHOICE, log entry 34. -/
def settleZone (lighting : Bool) (z : Fin 24) (before after : Zone) : List Signal :=
  (if lighting then [.lightDemand z] else [])
    ++ (if after.mode ≠ before.mode ∨ after.setpoint ≠ before.setpoint then [.climateWork z] else [])
    ++ [.reportZone z before]

/-- An event that changes one zone by level, mode and setpoint changes and then settles it once. -/
def changeZone (lighting : Bool) (z : Fin 24) (change : Zone → Zone) (s : State) : Handled :=
  let after := change s.zones[z]
  (s.onZone z fun _ => after, settleZone lighting z s.zones[z] after)

/-- A scene with every level, the setpoint and the mode absent; applying it changes nothing (R48). -/
def Scene.isEmpty (r : Scene) : Bool := r.levels.toList.all (·.isNone) && r.setpoint.isNone && r.mode.isNone

/-- A scene recall as one event of a zone: the record is read as it stands (R49). -/
def recallScene (z : Fin 24) (scene : Fin 32) (s : State) : Handled :=
  let record := s.config.scenes[scene]
  if record.isEmpty then (s, []) else changeZone true z (·.recall record) s

/-- A mode change as one event of a zone: the demand is recomputed on entry to a new mode (R34). -/
def modeEvent (z : Fin 24) (value : Nat) (s : State) : Handled :=
  changeZone ((s.zones[z].changeMode value).mode != s.zones[z].mode) z (·.changeMode value) s

/-- A setpoint change as one event of a zone (R36). -/
def setpointEvent (z : Fin 24) (value : Nat) (s : State) : Handled :=
  changeZone false z (·.changeSetpoint value) s

/-- A zone after one output frame: its fades advance, and its outputs are recomputed when a level changed (R29, R33). -/
def Zone.frame (z : Zone) : Zone :=
  if z.isFading then (z.onChannels fun _ c => c.advance).rescale else z

/-- A fade of the zone ended between two states of it. -/
def Zone.fadeEnded (before after : Zone) : Bool :=
  (List.finRange 4).any fun i => before.channels[i].fading && !after.channels[i].fading

/-- The output frame: every fade advances, each zone with an ended fade recomputes its demand, and the Cue Unit then sees
the frame (R29). The zones whose fades end at one frame post in ascending order, each its demand and its report before the next
zone's: DESIGN CHOICE, log entry 33. -/
def frameSignals (s : State) : Handled :=
  let zones := s.zones.map (·.frame)
  ({ s with zones, frameDeadline := s.frameDeadline + framePeriod },
   ((allZones.filter fun z => s.zones[z].fadeEnded zones[z]).flatMap fun z =>
      [.lightDemand z, .reportZone z s.zones[z]]) ++ [.cueFrame])

end Sys2Proof.Machine
end

