-- ==== Sys2Proof/Machine/Interlocks.lean ====
section
/-! DEFINITION. The Interlock Evaluator (section 6.1) and the Pump Arbiter (section 6.2). -/

namespace Sys2Proof.Machine

/-! ## Tests, terms and permits -/

/-- A test that is true or false by a condition. -/
def Reading.of (b : Bool) : Reading := if b then .isTrue else .isFalse

/-- A test on a hydraulic axis's measured position: unknown while the position is absent or its sensor is stale
(R120). -/
def Sensor.read (t : Sensor) (test : Int → Bool) : Reading :=
  match t.position with
  | some p => if t.fresh then Reading.of (test p) else .unknown
  | none => .unknown

/-- A test on the vessel data: unknown while it is absent or OLD (R120). -/
def Vessel.read (v : Vessel) (test : Bool) : Reading := if v.state = .fresh then Reading.of test else .unknown

/-- The sixteen tests (R120). -/
def State.test (s : State) (number : Fin 16) : Reading :=
  match number.val with
  | 0 => .isTrue
  | 1 => Reading.of s.inputs.hatchLatch
  | 2 => s.sensors.hatch.read fun p => decide (895 ≤ p)
  | 3 => s.sensors.platform.read fun p => decide (p ≤ 10)
  | 4 => s.sensors.platform.read fun p => decide ((s.config.deckLevel : Int) ≤ p)
  | 5 => Reading.of s.inputs.anchorHome
  | 6 => Reading.of s.inputs.garageClear
  | 7 => Reading.of s.inputs.platformClear
  | 8 => Reading.of s.inputs.anchorClear
  | 9 => Reading.of s.inputs.helmEnable
  | 10 => s.vessel.read (decide (s.vessel.speed ≤ s.config.speedLimit))
  | 11 => s.vessel.read s.vessel.shore
  | 12 => s.vessel.read s.vessel.flagA
  | 13 => s.vessel.read s.vessel.flagB
  | 14 => Reading.of s.inputs.pumpPressure
  | _ => Reading.of (decide (s.axes.windlass.state = .idle))

/-- A term holds when its test is true and not inverted, or false and inverted; an unknown test never holds (R121). -/
def Term.holds (t : Term) : Reading → Bool
  | .isTrue => !t.invert
  | .isFalse => t.invert
  | .unknown => false

/-- The permit of a term list: every term holds; an empty list is true (R121). -/
def State.permitOf (s : State) (terms : List Term) : Bool := terms.all fun t => t.holds (s.test t.test)

/-- The permit that the tests give an axis and direction now (R121). -/
def State.workedPermit (s : State) (a : Axis) (d : Direction) : Bool :=
  s.permitOf ((s.config.interlocks.get a).get d)

/-- The six permits worked out from the present inputs. -/
def State.workedPermits (s : State) : PerAxis (PerDirection Bool) :=
  { hatch := { out := s.workedPermit .hatch .out, inward := s.workedPermit .hatch .inward },
    platform := { out := s.workedPermit .platform .out, inward := s.workedPermit .platform .inward },
    windlass := { out := s.workedPermit .windlass .out, inward := s.workedPermit .windlass .inward } }

/-- The permit that the Evaluator holds for an axis and direction. -/
def State.permit (s : State) (a : Axis) (d : Direction) : Bool := (s.permits.get a).get d

/-- The six pairs of axis and direction, in axis order, OUT before IN. -/
def allPermits : List (Axis × Direction) := allAxes.flatMap fun a => [(a, .out), (a, .inward)]

/-- The permits are worked out within the event, and each that changed is delivered to its axis (R123). A permit whose
list reads none of the changed inputs keeps its value, so all six are worked out (log entry 18). -/
def evaluatePermits (s : State) : Handled :=
  ({ s with permits := s.workedPermits },
   (allPermits.filter fun p => s.workedPermit p.1 p.2 != s.permit p.1 p.2).map fun p =>
     .deliverPermit p.1 p.2 (s.workedPermit p.1 p.2))

/-- The direction of an axis's current step, when it has one that is OUT or IN. -/
def AxisRecord.stepDirection (r : AxisRecord) : Option Direction := r.current.bind fun c => c.step.direction.interlock

/-- What a delivered permit does at its axis (R123): only the direction of the current step acts, in MOVING, DWELL,
PREPARING, and in STOPPING or HOLD with INTERLOCK in the set. A value that the same event has worked out anew since is
delivered in its newer form alone (log entry 18). -/
def deliverPermit (a : Axis) (d : Direction) (value : Bool) (s : State) : Handled :=
  let r := s.axis a
  if r.stepDirection = some d ∧ s.permit a d = value then
    match r.state, value with
    | .moving, false => (s, [.addHold a .interlock])
    | .dwell, false => (s, [.addHold a .interlock])
    | .preparing, true => (s, [.testGates a])
    | .stopping, true => (s, [.removeHold a .interlock])
    | .hold, true => (s, [.removeHold a .interlock])
    | _, _ => (s, [])
  else (s, [])

/-! ## Pump Arbiter -/

/-- A pump owner and waiting axis; the run output follows (R129). -/
def State.withPump (s : State) (owner waiting : Option Hydraulic) : State :=
  ({ s with pump := { s.pump with owner, waiting } } : State).withPumpRun

/-- A hydraulic axis requests the pump (R128); becoming its owner tests the axis's gates (R131). -/
def requestPump (h : Hydraulic) (s : State) : Handled :=
  match s.pump.owner with
  | none => (s.withPump (some h) s.pump.waiting, [.post pumpSlot s.config.pumpRating, .testGates (axisOfHydraulic h)])
  | some o =>
    if o = h then (s, [])
    else if s.pump.waiting = none then (s.withPump (some o) (some h), [])
    else (s, [])

/-- The states in which a hydraulic axis keeps the pump until it has come to rest (R127, R130). -/
def AxisState.keepsPump : AxisState → Bool
  | .moving => true
  | .dwell => true
  | .stopping => true
  | .idle => false
  | .preparing => false
  | .hold => false
  | .fault => false

/-- The owner gives the pump up: the owner becomes absent, slot 48 is posted 0, and the pump then passes to a waiting
axis. A waiting axis leaves the wait (R130). An axis that still moves, dwells or stops gives nothing up. -/
def releasePump (h : Hydraulic) (s : State) : Handled :=
  if (s.axis (axisOfHydraulic h)).state.keepsPump then (s, [])
  else if s.pump.owner = some h then (s.withPump none s.pump.waiting, [.post pumpSlot 0, .handOver])
  else if s.pump.waiting = some h then (s.withPump s.pump.owner none, [])
  else (s, [])

/-- The waiting axis becomes the owner, and the rating is posted with a pass of its own (R130). -/
def handOver (s : State) : Handled :=
  match s.pump.owner, s.pump.waiting with
  | none, some w =>
    (s.withPump (some w) none, [.post pumpSlot s.config.pumpRating, .testGates (axisOfHydraulic w)])
  | _, _ => (s, [])

/-- A slot 48 grant delivered to the Pump Arbiter acts on the run output and on the owner (R129). A raw demand that falls to a
grant that stays as it was delivers none, so SHED stays on the owner while the run output goes on: DESIGN CHOICE, log
entry 50. -/
def deliverPump (grant : Nat) (s : State) : Handled :=
  let t := ({ s with pump := { s.pump with grant } } : State).withPumpRun
  match s.pump.owner with
  | none => (t, [])
  | some o =>
    let a := axisOfHydraulic o
    if grant = s.raw pumpSlot then (t, [.removeHold a .shed, .testGates a])
    else if grant < s.raw pumpSlot then (t, [.addHold a .shed])
    else (t, [])

/-- A slot 49 grant delivered to the windlass (R19, R79): equal to the raw demand it removes SHED and tests the gates,
below it adds SHED. -/
def deliverWindlass (grant : Nat) (s : State) : Handled :=
  let t := { s with gypsy := { s.gypsy with grant } }
  if grant = s.raw windlassSlot then (t, [.removeHold .windlass .shed, .testGates .windlass])
  else if grant < s.raw windlassSlot then (t, [.addHold .windlass .shed])
  else (t, [])

end Sys2Proof.Machine
end

