-- ==== Sys2Proof/Machine/Axes.lean ====
section
/-! DEFINITION. The Axis Controller (chapter 4): drive outputs, the states and their entries, holds, position checks and
faults. -/

namespace Sys2Proof.Machine

/-! ## Reports -/

/-- A step on the line: its flags with the presence bits of its optional fields, and its fields, 15 bytes (section Byte
layouts). -/
def Step.bytes (t : Step) : List Byte :=
  bits [t.first, t.legStart, t.final, false, false, false, t.speed.isSome, t.dwell.isSome] ++ u8 t.leg ++ u16 t.seq
    ++ i32 t.start ++ i32 t.target ++ u8 ((t.speed.map (·.code)).getD 0) ++ u16 (t.dwell.getD 0)

/-- The sensor state byte of an axis: 0xFF for the windlass, which has no sensor state. -/
def State.sensorByte (s : State) (a : Axis) : List Byte :=
  match hydraulicOf a with
  | some h => u8 (sensorCode (s.sensors.get h).fresh)
  | none => marker 1

/-- The AXIS report (R90, section Byte layouts). -/
def State.axisContent (s : State) (a : Axis) : List Byte :=
  let r := s.axis a
  u8 (axisNumber a) ++ u8 r.state.code ++ r.holds.byte ++ position (s.measured a) ++ s.sensorByte a
    ++ (match r.current with
        | some c => u8 c.context.val ++ u8 c.step.leg ++ u16 c.step.seq ++ i32 c.step.target
        | none => marker 1 ++ marker 1 ++ marker 2 ++ positionMarker)
    ++ (if r.state = .moving then u8 r.speed.code else marker 1)
    ++ (match a with
        | .windlass => u16 s.gypsy.count ++ flag r.drive.brakeSet
        | .hatch => u16 0 ++ flag false
        | .platform => u16 0 ++ flag false)

/-- An axis posts its AXIS report under its own key (R90). -/
def State.reportAxis (s : State) (a : Axis) : State := s.post (.axis a) (s.axisContent a)

/-- The FAULT report of one fault (R91, section Byte layouts): this fault's kind and position, and the fault record. -/
def reportFault (a : Axis) (kind : FaultKind) (at_ : Option Int) (s : State) : State :=
  match (s.axis a).fault with
  | none => s
  | some f =>
    s.post (.fault a) (u8 (axisNumber a) ++ u8 kind.code ++ position at_ ++ u8 f.kind.code ++ position f.position
      ++ orMarker 1 (fun c : Fin 16 => u8 c.val) f.context ++ u8 f.count)

/-! ## Arrival, speed and drive -/

/-- The arrival test of a step's direction (R72). An absent position arrives only at a ZERO step. -/
def Step.arrived (a : Axis) (t : Step) (p : Option Int) : Bool :=
  match t.direction, p with
  | .zero, _ => true
  | .out, some z => decide (t.target - arrivalTolerance a ≤ z)
  | .inward, some z => decide (z ≤ t.target + arrivalTolerance a)
  | _, none => false

/-- The speed class in force: NORMAL is reduced to SLOW within the approach zone of the target (R70). -/
def Step.speedInForce (a : Axis) (t : Step) (p : Option Int) : SpeedClass :=
  match t.speedClass, p with
  | .normal, some z => if |t.target - z| ≤ approachZone a then .slow else .normal
  | c, _ => c

/-- The drive of a MOVING axis: the step's direction at the speed class in force, brake released (R69, R76). -/
def moveDrive (direction : StepDirection) (speed : SpeedClass) : Drive :=
  match direction with
  | .out => { out := speedPercent speed, inward := 0, brakeSet := false }
  | .inward => { out := 0, inward := speedPercent speed, brakeSet := false }
  | .zero => { out := 0, inward := 0, brakeSet := false }

/-- Progress is measured on the position, and on the pulse count for the windlass (R77). -/
def State.progressAt (s : State) (a : Axis) : Int :=
  match a with
  | .windlass => s.gypsy.count
  | .hatch => (s.sensors.hatch.position).getD 0
  | .platform => (s.sensors.platform.position).getD 0

/-- A MOVING axis works out its speed class in force and drives with it (R70, R76). -/
def State.driveOn (s : State) (a : Axis) : State :=
  match (s.axis a).current with
  | none => s
  | some c =>
    let speed := c.step.speedInForce a (s.measured a)
    s.onAxis a fun r => { r with speed, drive := moveDrive c.step.direction speed }

/-! ## Changes of state -/

/-- An axis changes its state: its motion lane follows (R134), and its outputs are off and its stall window stopped
outside MOVING, its brake set (R69, R77). -/
def State.moveTo (s : State) (a : Axis) (new : AxisState) : State :=
  let lane := s.laneAfter a (s.axis a).state new
  let t := s.onAxis a fun r => { r with state := new, drive := driveOff, stall := none }
  { t with chime := { t.chime with lanes := t.chime.lanes.set a lane } }

/-- The windlass's entry to IDLE and its leaving IDLE re-evaluate the permits (R123). -/
def idleSignals (a : Axis) : List Signal := if a = .windlass then [.evaluatePermits] else []

/-- The windlass posts a demand to slot 49. -/
def windlassDemand (a : Axis) (demand : Nat) : List Signal :=
  if a = .windlass then [.post windlassSlot demand] else []

/-- A hydraulic axis releases the pump, or leaves the wait for it. -/
def pumpSignals (a : Axis) : List Signal :=
  match hydraulicOf a with
  | some h => [.releasePump h]
  | none => []

/-- The oldest step of the head context becomes the current step; the windlass's reverse pulse count restarts (R74,
R78, R84, R103). -/
def State.takeStep (s : State) (a : Axis) : State :=
  match s.head a with
  | none => s
  | some c =>
    match s.contexts[c].steps with
    | [] => s
    | t :: rest =>
      let s := s.onContext c fun x => { x with steps := rest }
      let s := s.onAxis a fun r => { r with current := some { context := c, step := t } }
      if a = .windlass then { s with gypsy := { s.gypsy with reverse := 0 } } else s

/-- A hydraulic sensor that is stale, or the windlass overload input that is active, found at entry to PREPARING
(R74, R84). -/
def State.entryFault (s : State) (a : Axis) : Option FaultKind :=
  match hydraulicOf a with
  | some h => if (s.sensors.get h).fresh then none else some .sensor
  | none => if s.inputs.overload then some .overload else none

/-- An axis enters PREPARING (R74): current step, timers, demand, pump, report, and then the gates. A cause found at the
entry is a fault at once, before the demand is posted (log entry 11). -/
def enterPreparing (a : Axis) (s : State) : Handled :=
  let wasIdle := (s.axis a).state = .idle
  let s := if (s.axis a).current.isNone then s.takeStep a else s
  let s := s.moveTo a .preparing
  let timeout := (s.axisConfig a).prepareTimeout
  let s := s.onAxis a fun r =>
    { r with warnStart := some s.now, warnReached := false, stopDeadline := none,
             prepareDeadline := if timeout = 0 then none else s.ends (1000 * timeout) }
  match s.entryFault a with
  | some kind => (s.reportAxis a, .fault a kind :: (if wasIdle then idleSignals a else []))
  | none =>
    (s, windlassDemand a s.config.gear.rating
      ++ (match hydraulicOf a with
          | some h => [.requestPump h]
          | none => [])
      ++ [.reportAxis a] ++ (if wasIdle then idleSignals a else []) ++ [.endEntry a])

/-- In IDLE the axis enters PREPARING when its head context is ACTIVE and holds an admitted step (R73). -/
def takeUp (a : Axis) (s : State) : Handled :=
  match s.head a with
  | some c =>
    if (s.axis a).state = .idle ∧ s.contexts[c].state = .active ∧ s.contexts[c].steps ≠ [] then
      enterPreparing a s
    else (s, [])
  | none => (s, [])

/-- The end of the entry to PREPARING: a warn time of 0 is reached at entry, and the gates are tested (R131). -/
def endEntry (a : Axis) (s : State) : Handled :=
  if (s.axis a).state = .preparing then
    (s.onAxis a fun r => { r with warnReached := decide ((s.axisConfig a).warnTime = 0) }, [.testGates a])
  else (s, [])

/-- The four gates of PREPARING (R131). -/
def State.gatesMet (s : State) (a : Axis) (t : Step) : Bool :=
  (match hydraulicOf a with
   | some h => s.pump.owner == some h && s.pump.grant == s.raw pumpSlot
   | none => s.gypsy.grant == s.raw windlassSlot)
    && (match t.direction.interlock with
        | some d => s.permit a d
        | none => true)
    && (s.axis a).warnReached

/-- Entry to MOVING: drive, stall window, travel reference and report (R76, R77). -/
def enterMoving (a : Axis) (s : State) : State :=
  let s := (s.moveTo a .moving).driveOn a
  let s := s.onAxis a fun r =>
    { r with stall := some { deadline := s.now + stallTime a, startedAt := s.progressAt a },
             travelRef := (s.measured a).getD 0, warnStart := none, warnReached := false, prepareDeadline := none }
  s.reportAxis a

/-- The axis holds the FINAL step of a hold-to-run program that has not been released, so that a release of its tag may meet
the dwell end (R163). -/
def State.releaseMayMeet (s : State) (a : Axis) : Bool :=
  (s.axis a).current.any fun c => c.step.final && (s.runs.get a).any fun r => r.context == c.context && !r.released

/-- The dwell of the current step; 0 without one (R78). -/
def AxisRecord.dwell (r : AxisRecord) : Nat :=
  match r.current with
  | some c => c.step.dwellTime
  | none => 0

/-- Entry to DWELL: outputs off, the dwell timer starts with the current step's dwell, and the report (R78). -/
def State.startDwell (s : State) (a : Axis) : State :=
  ((s.moveTo a .dwell).onAxis a fun r => { r with dwellDeadline := s.ends (s.axis a).dwell }).reportAxis a

/-- A free choice at an entry to DWELL is counted (log entry 30). -/
def State.countDwell (s : State) : State := { s with dwellIndex := s.dwellIndex + 1 }

/-- Entry to DWELL, where a dwell of 0 ends (R78). Where a release may meet that end, R163 lets either be taken first: a free
choice then leaves the end to DWELL_END (log entry 30). -/
def enterDwell (a : Axis) (s : State) : Handled :=
  let t := s.startDwell a
  if (s.axis a).dwell ≠ 0 then (t, [])
  else if s.releaseMayMeet a then
    (t.countDwell, if Config.dwellEndFirst s.dwellIndex then [.endDwell a] else [])
  else (t, [.endDwell a])

/-- An axis in PREPARING with an empty hold set and all gates met leaves it: for DWELL when its step is ZERO or already
arrived, else for MOVING. The warn and prepare timers stop (R75, R131). -/
def testGates (a : Axis) (s : State) : Handled :=
  let r := s.axis a
  match r.current with
  | some c =>
    if r.state = .preparing ∧ r.holds = noHolds ∧ s.gatesMet a c.step then
      let t := s.onAxis a fun r => { r with warnStart := none, warnReached := false, prepareDeadline := none }
      if c.step.arrived a (s.measured a) then enterDwell a t else (enterMoving a t, [])
    else (s, [])
  | none => (s, [])

/-- Entry to HOLD (R82): the outputs are off, and the timers of the state left behind are stopped. -/
def State.enterHold (s : State) (a : Axis) : State :=
  ((s.moveTo a .hold).onAxis a fun r => { r with dwellDeadline := none, stopDeadline := none }).reportAxis a

/-- Entry to STOPPING: the stop timer starts with the stop time (R81). -/
def State.enterStopping (s : State) (a : Axis) : State :=
  ((s.moveTo a .stopping).onAxis a fun r => { r with stopDeadline := s.ends (stopTime a) }).reportAxis a

/-- Entry to IDLE: every timer of the state left behind is stopped (R73, R83). -/
def State.enterIdle (s : State) (a : Axis) : State :=
  ((s.moveTo a .idle).onAxis a fun r => { r with dwellDeadline := none, stopDeadline := none }).reportAxis a

/-- A dwell end with a step queued, or with none (R78): the axis takes the next step and dwells, moves or holds with
INTERLOCK, or it holds STARVED and the head's starvation timer starts (R111). -/
def nextStep (a : Axis) (c : Fin 16) (s : State) : Handled :=
  if s.contexts[c].steps = [] then
    let s := s.onAxis a fun r => { r with current := none, holds := r.holds.put .starved true }
    let s := s.onContext c fun x => { x with starveDeadline := s.ends starvationTime }
    (s.enterHold a, [])
  else
    let s := (s.takeStep a).onAxis a fun r => { r with dwellDeadline := none }
    match (s.axis a).current with
    | none => (s, [])
    | some t =>
      if t.step.arrived a (s.measured a) then enterDwell a s
      else if (match t.step.direction.interlock with
               | some d => s.permit a d
               | none => true) then (enterMoving a s, [])
      else ((s.onAxis a fun r => { r with holds := r.holds.put .interlock true }).enterHold a, [])

/-- The dwell end (R78, R103): the step is counted, and the program ends, takes the next step or starves. -/
def endDwell (a : Axis) (s : State) : Handled :=
  match (s.axis a).state, (s.axis a).current with
  | .dwell, some cur =>
    let c := cur.context
    let s := s.onContext c fun x => { x with executed := min 65535 (x.executed + 1) }
    let x := s.contexts[c]
    match x.state, x.admission with
    | .closing, .broken => (s, [.endProgram c .broken])
    | .closing, _ => (s, [.endProgram c .cancelled])
    | _, _ => if cur.step.final then (s, [.endProgram c .complete]) else nextStep a c s
  | _, _ => (s, [])

/-! ## Holds -/

/-- The states in which an axis with a program takes a hold reason (R79). A STOPPING axis without a current step is on its
way to IDLE. -/
def AxisRecord.takesReason (r : AxisRecord) : Bool :=
  match r.state with
  | .preparing => true
  | .moving => true
  | .dwell => true
  | .hold => true
  | .stopping => r.current.isSome
  | .idle => false
  | .fault => false

/-- A reason added to the hold set acts by the state of the axis (R79, R80). -/
def addHold (a : Axis) (reason : HoldReason) (s : State) : State :=
  let r := s.axis a
  if r.takesReason && !r.holds.has reason then
    let t := s.onAxis a fun r => { r with holds := r.holds.put reason true }
    match r.state with
    | .moving => t.enterStopping a
    | .dwell => t.enterHold a
    | _ => t.reportAxis a
  else s

/-- A removed reason leaves the set; when the set becomes empty the axis resumes from HOLD through PREPARING, and its
gates are tested in PREPARING (R80, R82). -/
def removeHold (a : Axis) (reason : HoldReason) (s : State) : Handled :=
  let r := s.axis a
  if r.holds.has reason then
    let holds := r.holds.put reason false
    let t := (s.onAxis a fun r => { r with holds }).reportAxis a
    if holds = noHolds then
      match r.state with
      | .hold => enterPreparing a t
      | .preparing => (t, [.testGates a])
      | _ => (t, [])
    else (t, [])
  else (s, [])

/-! ## Position changes and faults -/

/-- The onset of OVERTRAVEL between two positions: the condition holds now and did not hold before (R84). -/
def overtravelOnset (gear : GearConfig) (a : Axis) (before after : Option Int) : Bool :=
  beyondMargin gear a after && !beyondMargin gear a before

/-- A travel report is posted when the position is a travel report step away from the travel reference, and the reference
then becomes the position (R76). -/
def State.travelReport (s : State) (a : Axis) : State :=
  match s.measured a with
  | some z =>
    if travelStep a ≤ |z - (s.axis a).travelRef| then (s.onAxis a fun r => { r with travelRef := z }).reportAxis a else s
  | none => s

/-- The checks of a position change, in the order of R65: arrival, speed class, overtravel and travel report in MOVING,
and overtravel alone in every other state (R76, R81, R84; log entry 12). Where the arrived step has a dwell of 0, all that its
dwell end does comes before the onset: DESIGN CHOICE, log entry 53. -/
def travelled (a : Axis) (before : Option Int) (s : State) : Handled :=
  let onset : List Signal :=
    if overtravelOnset s.config.gear a before (s.measured a) then [.fault a .overtravel] else []
  match (s.axis a).state, (s.axis a).current with
  | .moving, some c =>
    if c.step.arrived a (s.measured a) then
      let (t, ends) := enterDwell a s
      (t, ends ++ onset)
    else
      let t := s.driveOn a
      if onset.isEmpty then (t.travelReport a, []) else (t, onset)
  | _, _ => (s, onset)

/-- An axis executes a program: it holds one in PREPARING, MOVING, DWELL and HOLD, and in STOPPING on its way to HOLD or
PREPARING. -/
def AxisRecord.executes (r : AxisRecord) : Bool := r.takesReason

/-- Where a fault is detected: OVERTRAVEL in every state, STALL in MOVING, SENSOR and OVERLOAD in every state but IDLE
(R84). -/
def FaultKind.detectedIn (k : FaultKind) (state : AxisState) : Bool :=
  match k with
  | .overtravel => true
  | .stall => decide (state = .moving)
  | .sensor => decide (state ≠ .idle)
  | .overload => decide (state ≠ .idle)

/-- Entry to FAULT (R85): outputs off, brake set, every timer of the record stopped, the hold set emptied, the current step
absent, and the fault record made. -/
def State.enterFault (s : State) (a : Axis) (kind : FaultKind) : State :=
  let context := if (s.axis a).executes then s.head a else none
  (s.moveTo a .fault).onAxis a fun r =>
    { r with holds := noHolds, current := none, warnStart := none, warnReached := false, prepareDeadline := none,
             dwellDeadline := none, stopDeadline := none,
             fault := some { kind, position := s.measured a, context, count := 1 } }

/-- What an axis that has entered FAULT gives up: the windlass's demand, and the pump (R85, R130). -/
def faultReleases (a : Axis) : List Signal := windlassDemand a 0 ++ pumpSignals a

/-- The head context of an axis that enters FAULT: a program being executed ends FAULTED, and its end gives up demand and pump
after its report (R112, steps 1 and 2); else the axis gives them up itself, and an ACTIVE head that was not being executed
becomes QUEUED (R85, R96). -/
def faultHead (a : Axis) (executed : Bool) (s : State) : Handled :=
  match s.head a with
  | none => (s, faultReleases a)
  | some c =>
    if executed then (s, [.endProgram c .faulted])
    else if s.contexts[c].state = .active then
      (s.onContext c fun x => { x with state := .queued }, faultReleases a)
    else (s, faultReleases a)

/-- A fault of an axis (R84 to R86): a second fault in FAULT adds to the count, up to 255; a fault elsewhere, where its kind
is detected, takes the axis to FAULT. -/
def fault (a : Axis) (kind : FaultKind) (s : State) : Handled :=
  let r := s.axis a
  let report := Signal.reportFault a kind (s.measured a)
  if !kind.detectedIn r.state then (s, [])
  else if r.state = .fault then
    (s.onAxis a fun r => { r with fault := r.fault.map fun f => { f with count := min 255 (f.count + 1) } }, [report])
  else
    let (t, ends) := faultHead a r.executes (s.enterFault a kind)
    (t, ends ++ [report, .reportAxis a]
      ++ (if r.state = .idle then idleSignals a else []))

/-! ## Program ends -/

/-- The axis of a program that ends acts by its state (R83). An axis that the end finds in FAULT has entered it already, and
gives up demand and pump (R112). -/
def endAxis (a : Axis) (s : State) : Handled :=
  let r := s.axis a
  let t := s.onAxis a fun r =>
    { r with current := none, holds := noHolds, warnStart := none, warnReached := false, prepareDeadline := none,
             dwellDeadline := none }
  match r.state with
  | .preparing => (t.enterIdle a, windlassDemand a 0 ++ pumpSignals a ++ idleSignals a)
  | .dwell => (t.enterIdle a, windlassDemand a 0 ++ pumpSignals a ++ idleSignals a)
  | .hold => (t.enterIdle a, windlassDemand a 0 ++ pumpSignals a ++ idleSignals a)
  | .moving => (t.enterStopping a, windlassDemand a 0)
  | .stopping => (if r.holds = noHolds then t else t.reportAxis a, windlassDemand a 0)
  | .idle => (s, [])
  | .fault => (s, faultReleases a)

/-- The stop time's end (R81): IDLE when the program has ended, HOLD while reasons remain, else PREPARING. -/
def endStop (a : Axis) (s : State) : Handled :=
  let r := s.axis a
  if r.state ≠ .stopping then (s, [])
  else if r.current.isNone then (s.enterIdle a, pumpSignals a ++ idleSignals a ++ [.takeUp a])
  else if r.holds = noHolds then enterPreparing a s
  else (s.enterHold a, [])

end Sys2Proof.Machine
end

