-- ==== Sys2Proof/Machine/Programs.lean ====
section
/-! DEFINITION. The Program Table (chapter 5): opening, admission, program ends and panel programs. -/

namespace Sys2Proof.Machine

/-! ## Contexts and queues -/

/-- A context opened for a program on an axis (R95, R97, R115). -/
def openedContext (state : ContextState) (owner : Owner) (a : Axis) : Context :=
  { contextStart with state := state, owner := some owner, axis := some a }

/-- A context bound to an axis and appended to its queue: the head is ACTIVE, or QUEUED while the axis is in FAULT, and
every other context is QUEUED (R96, R97). -/
def State.bind (s : State) (c : Fin 16) (owner : Owner) (a : Axis) : State :=
  let state : ContextState :=
    if (s.queue a).isEmpty && decide ((s.axis a).state ≠ .fault) then .active else .queued
  { (s.onContext c fun _ => openedContext state owner a) with queues := s.queues.set a (s.queue a ++ [c]) }

/-- A QUEUED head becomes ACTIVE unless its axis is in FAULT (R96). -/
def State.activateHead (s : State) (a : Axis) : State :=
  match s.head a with
  | some c =>
    if s.contexts[c].state = .queued ∧ (s.axis a).state ≠ .fault then s.onContext c fun x => { x with state := .active }
    else s
  | none => s

/-- The context before another in a queue; the head has none (R98, R100). -/
def beforeIn (c : Fin 16) : List (Fin 16) → Option (Fin 16)
  | a :: b :: rest => if b = c then some a else beforeIn c (b :: rest)
  | _ => none

/-- The contexts behind another in a queue (R113). -/
def behindIn (c : Fin 16) (queue : List (Fin 16)) : List (Fin 16) := (queue.dropWhile (· ≠ c)).tail

/-- The position of a context in its axis's queue, 0 at the head (R97, R116). -/
def positionIn (c : Fin 16) (queue : List (Fin 16)) : Nat := queue.findIdx (· = c)

/-- The axis holds a current step of this context. -/
def State.hasCurrent (s : State) (c : Fin 16) : Bool :=
  allAxes.any fun a => (s.axis a).current.any fun t => t.context == c

/-! ## Program ends -/

/-- The PROGRAM_END report (R114, section Byte layouts). -/
def State.endContent (s : State) (c : Fin 16) (a : Axis) (status : EndStatus) : List Byte :=
  u8 c.val ++ u8 (axisNumber a) ++ orMarker 1 (fun o : Owner => u8 o.code) s.contexts[c].owner ++ u8 status.code
    ++ u16 s.contexts[c].executed ++ position (s.measured a)

/-- The end of a program (R112): the report first, then the axis when the context was the head it executes, then the
context and its successors. A QUEUED context leaves the axis as it is. -/
def endProgram (c : Fin 16) (status : EndStatus) (s : State) : Handled :=
  match s.contexts[c].axis with
  | none => (s, [])
  | some a =>
    let t := s.post (.programEnd c) (s.endContent c a status)
    let (t, acts) :=
      if s.head a = some c ∧ s.contexts[c].state ≠ .queued then endAxis a t else (t, [])
    (t, acts ++ [.freeContext c status])

/-- The run record of a program that ends is removed (R162). -/
def State.dropRuns (s : State) (c : Fin 16) : State :=
  let keep (r : Option RunRecord) : Option RunRecord := r.filter fun x => x.context != c
  { s with runs := { hatch := keep s.runs.hatch, platform := keep s.runs.platform, windlass := keep s.runs.windlass } }

/-- The context's steps are discarded, its timer stops, it leaves its queue and becomes FREE (R112). Its admission half
keeps its values, which a PROGRAM_STEP reply still shows (R98, log entry 16). -/
def State.release (s : State) (c : Fin 16) (a : Axis) : State :=
  let t := s.onContext c fun x =>
    { x with state := .free, owner := none, axis := none, steps := [], starveDeadline := none }
  ({ t with queues := t.queues.set a ((t.queue a).filter (· ≠ c)) } : State).dropRuns c

/-- Steps 3 and 4 of a program's end (R112): the context becomes FREE; after a COMPLETE end the next context becomes the
head and the axis takes up its steps; after any other end the contexts behind it end ABANDONED in queue order (R113). -/
def freeContext (c : Fin 16) (status : EndStatus) (s : State) : Handled :=
  match s.contexts[c].axis with
  | none => (s, [])
  | some a =>
    let t := s.release c a
    if status = .complete then (t.activateHead a, [.takeUp a])
    else (t, (behindIn c (s.queue a)).map fun b => .endProgram b .abandoned)

/-! ## Admission -/

/-- A step as stored: the dwell clamped, the start as received (R94). -/
def storedStep (f : StepFields) (speed : Option SpeedClass) : Step :=
  { first := f.first, legStart := f.legStart, final := f.final, leg := f.leg, seq := f.seq, start := f.start,
    target := f.target, speed := speed, dwell := f.dwell.map (min · 60000) }

/-- The ordering check fails (R99). -/
def orderingFails (x : Context) (t : Step) : Bool :=
  if !x.firstAdmitted then !t.first || t.seq != 0
  else if t.first then true
  else if t.legStart then t.leg == x.leg || t.seq != 0
  else t.leg != x.leg || t.seq != x.expectedSeq

/-- The continuity check fails (R100). -/
def State.continuityFails (s : State) (c : Fin 16) (a : Axis) (t : Step) : Bool :=
  if !t.first then s.contexts[c].expectedStart != some t.start
  else
    match beforeIn c (s.queue a) with
    | some b => s.contexts[b].expectedStart != some t.start
    | none =>
      match s.measured a with
      | some z => decide (startTolerance a < |t.start - z|)
      | none => true

/-- The highest failing check of PROGRAM_STEP, or the step to store (R98). -/
inductive Offer where
  | refuse (result : Result)
  | broken
  | accept (step : Step)
  deriving DecidableEq, Repr

/-- The six checks of PROGRAM_STEP in their order (R98). -/
def State.offer (s : State) (c : Fin 16) (f : StepFields) : Offer :=
  let x := s.contexts[c]
  match x.axis with
  | none => .refuse .state
  | some a =>
    if x.state = .free ∨ x.state = .closing ∨ x.admission ≠ .open then .refuse .state
    else
      match speedFieldOf f.speed with
      | none => .refuse .range
      | some speed =>
        let t := storedStep f speed
        if !withinLimits s.config.gear a t.target then .refuse .range
        else if stepCapacity ≤ x.steps.length then .refuse .full
        else if x.state = .queued && (beforeIn c (s.queue a)).any fun b => s.contexts[b].admission ≠ .done then
          .refuse .busy
        else if orderingFails x t then .broken
        else if s.continuityFails c a t then .broken
        else .accept t

/-- The admission half after an admitted step, and the step appended to the queue (R101). -/
def Context.accept (x : Context) (t : Step) : Context :=
  { x with
    steps := x.steps ++ [t], leg := if t.first || t.legStart then t.leg else x.leg,
    expectedSeq := (t.seq + 1) % 65536, expectedStart := some t.target,
    firstAdmitted := x.firstAdmitted || t.first, admission := if t.final then .done else x.admission }

/-- The admission reaches the axis when the context is the ACTIVE head: IDLE takes it up, and HOLD has STARVED removed and
the starvation timer stopped (R101, R111). -/
def admitStep (c : Fin 16) (t : Step) (s : State) : Handled :=
  let s := s.onContext c fun x => x.accept t
  match s.contexts[c].axis with
  | none => (s, [])
  | some a =>
    if s.head a = some c ∧ s.contexts[c].state = .active then
      (s.onContext c fun x => { x with starveDeadline := none }, [.takeUp a, .removeHold a .starved])
    else (s, [])

/-- A step failed the ordering or continuity check: the admission becomes BROKEN, and the context closes or ends (R102). -/
def breakAdmission (c : Fin 16) (s : State) : Handled :=
  let x := s.contexts[c]
  if x.state = .active && s.hasCurrent c then
    (s.onContext c fun x => { x with admission := .broken, state := .closing, steps := [] }, [])
  else (s.onContext c fun x => { x with admission := .broken }, [.endProgram c .broken])

/-! ## Cancels -/

/-- An AT_BOUNDARY cancel of a bound context (R104, R105). -/
def cancelBoundary (c : Fin 16) (s : State) : Handled :=
  match s.contexts[c].state with
  | .queued => (s, [.endProgram c .cancelled])
  | .active =>
    let t := s.onContext c fun x => { x with admission := .cancelled, state := .closing, steps := [] }
    (t, if s.hasCurrent c then [] else [.endProgram c .cancelled])
  | .closing => (s, [])
  | .free => (s, [])

/-- An IMMEDIATE cancel of a bound context (R104, R106): a CLOSING program ends with the status its closing fixed. -/
def cancelNow (c : Fin 16) (s : State) : Handled :=
  match s.contexts[c].state with
  | .queued => (s, [.endProgram c .cancelled])
  | .active => (s, [.endProgram c .cancelled])
  | .closing => (s, [.endProgram c (if s.contexts[c].admission = .broken then .broken else .cancelled)])
  | .free => (s, [])

/-! ## Panel programs -/

/-- The step of a panel program (R115). -/
def panelStep (start target : Int) : Step :=
  { first := true, legStart := false, final := true, leg := 0, seq := 0, start := start, target := target,
    speed := none, dwell := none }

/-- The lowest-numbered FREE context. -/
def State.freeOne (s : State) : Option (Fin 16) := (List.finRange 16).find? fun c => s.contexts[c].state = .free

/-- The Program Table's answer to a panel start (R115): BUSY, STATE or FULL, or the context and the measured position it
starts from. -/
def State.panelAnswer (s : State) (a : Axis) : Except Result (Fin 16 × Int) :=
  if !(s.queue a).isEmpty then .error .busy
  else if (s.axis a).state = .fault ∨ (s.axis a).state = .stopping then .error .state
  else
    match s.measured a, s.freeOne with
    | none, _ => .error .state
    | some _, none => .error .full
    | some z, some c => .ok (c, z)

/-- A started panel program: the context is bound and admits its one step, and the axis takes it up (R115). -/
def startPanel (c : Fin 16) (panel : Fin 12) (a : Axis) (start target : Int) (s : State) : Handled :=
  admitStep c (panelStep start target) (s.bind c (.panel panel) a)

end Sys2Proof.Machine
end

