-- ==== Sys2Proof/Machine/Panels.lean ====
section
/-! DEFINITION. The Panel Service (chapter 7): groups, the touch transform, tag maps and touch states. -/

namespace Sys2Proof.Machine

/-- What the Panel Service hands to the Action Dispatcher (R151). -/
inductive Handed where
  | press (tag : Nat)
  | release (tag : Nat)
  deriving DecidableEq, Repr

/-- A handed press or release as a signal. -/
def Handed.signal (panel : Fin 12) : Handed → Signal
  | .press tag => .press panel tag
  | .release tag => .release panel tag

/-! ## Tag maps and the transform -/

/-- A rectangle contains a point, both edges included; an empty entry contains none (R144). -/
def TagEntry.contains (e : TagEntry) (x y : Int) : Bool :=
  e.tag != 0 && decide ((e.x0 : Int) ≤ x ∧ x ≤ e.x1 ∧ (e.y0 : Int) ≤ y ∧ y ≤ e.y1)

/-- The tag at a point: that of the lowest-numbered entry that contains it, or 0 (R144). -/
def tagAt (map : Vector TagEntry 32) (x y : Int) : Nat :=
  match map.toList.find? fun e => e.contains x y with
  | some e => e.tag
  | none => 0

/-- The screen position of a touch group, floored (R143). -/
def PanelConfig.screen (c : PanelConfig) (meanX meanY : Nat) : Int × Int :=
  ((c.coefficients[0] * meanX + c.coefficients[1] * meanY + c.coefficients[2]).fdiv 65536,
   (c.coefficients[3] * meanX + c.coefficients[4] * meanY + c.coefficients[5]).fdiv 65536)

/-- A screen position lies on the glass (R143). -/
def PanelConfig.onGlass (c : PanelConfig) (x y : Int) : Bool :=
  decide (0 ≤ x ∧ x ≤ (c.width : Int) - 1 ∧ 0 ≤ y ∧ y ≤ (c.height : Int) - 1)

/-! ## Groups -/

/-- A touch sample at or under the pressure threshold joins the sums; a lighter one and the no-touch marker set the
no-touch flag; the count rises by 1 (R142). -/
def Group.add (threshold : Nat) (frame : PanelFrame) (g : Group) : Group :=
  match frame with
  | .touch x y z =>
    if z ≤ threshold then { g with count := g.count + 1, sumX := g.sumX + x, sumY := g.sumY + y }
    else { g with count := g.count + 1, noTouch := true }
  | .noTouch => { g with count := g.count + 1, noTouch := true }
  | .badCheck => g

/-- What a complete group is: no touch, or its averaged and screen positions, on the glass with the tag found, or off it
(R142, R143). -/
def Group.complete (c : PanelConfig) (map : Vector TagEntry 32) (g : Group) : LastGroup :=
  if g.noTouch then .noTouch
  else
    let meanX := g.sumX / c.oversample
    let meanY := g.sumY / c.oversample
    let (x, y) := c.screen meanX meanY
    if c.onGlass x y then .onGlass meanX meanY x y (tagAt map x y) else .offGlass meanX meanY x y

/-! ## Touch states -/

/-- A touch group on the glass acts on the touch state (R147). -/
def Touch.onGroup (x y : Int) (tag : Nat) : Touch → Touch × Option Handed
  | .up => if tag = 0 then (.up, none) else (.down tag x y, some (.press tag))
  | .down t _ _ => if tag = t then (.down t x y, none) else (.slid, some (.release t))
  | .slid => (.slid, none)
  | .absent => (.absent, none)

/-- A no-touch group acts on the touch state (R148). -/
def Touch.onNoTouch : Touch → Touch × Option Handed
  | .up => (.up, none)
  | .down t _ _ => (.up, some (.release t))
  | .slid => (.up, none)
  | .absent => (.absent, none)

/-- A completed group is taken by the touch state (R147, R148); an off-glass group is a no-touch group (R143). -/
def Touch.take (touch : Touch) : LastGroup → Touch × Option Handed
  | .noTouch => touch.onNoTouch
  | .offGlass _ _ _ _ => touch.onNoTouch
  | .onGlass _ _ x y tag => touch.onGroup x y tag

/-- The entry to ABSENT: the group is emptied, and a held tag is released (R149). -/
def Panel.goAbsent (p : Panel) : Panel × Option Handed :=
  ({ p with touch := .absent, silenceDeadline := none, group := groupStart },
   match p.touch with
   | .down t _ _ => some (.release t)
   | _ => none)

/-- A frame is good: its check passes and its numbers are at most 1023 (R139). -/
def frameGood : PanelFrame → Bool
  | .touch x y z => decide (x ≤ 1023 ∧ y ≤ 1023 ∧ z ≤ 1023)
  | .noTouch => true
  | .badCheck => false

/-- A good frame at a panel: it ends ABSENT or restarts the silence timer, and its sample joins the group; a complete group
is taken by the touch state (R139, R142, R149). -/
def Panel.takeFrame (c : PanelConfig) (map : Vector TagEntry 32) (now : Nat) (frame : PanelFrame) (p : Panel) :
    Panel × Option Handed :=
  let p : Panel :=
    { p with touch := if p.touch = .absent then .up else p.touch, silenceDeadline := some (now + panelSilence),
             framedAt := some now }
  let g := p.group.add c.threshold frame
  if c.oversample ≤ g.count then
    let last := g.complete c map
    let (touch, handed) := p.touch.take last
    ({ p with touch, group := groupStart, last := some last }, handed)
  else ({ p with group := g }, none)

/-- A SET_TAGMAP write on a panel in DOWN looks up the held position in the new map, and releases the pressed tag when the
tag found differs (R145, R150). -/
def Panel.remap (map : Vector TagEntry 32) (p : Panel) : Panel × Option Handed :=
  match p.touch with
  | .down t x y => if tagAt map x y = t then (p, none) else ({ p with touch := .slid }, some (.release t))
  | _ => (p, none)

/-- An event of a panel whose press or release is handed on within it (R151). -/
def panelEvent (panel : Fin 12) (f : Panel → Panel × Option Handed) (s : State) : Handled :=
  let (p, handed) := f s.panels[panel]
  (s.onPanel panel fun _ => p, (handed.map fun h => h.signal panel).toList)

/-- A frame that reaches a panel port (R139); a frame that is not good is discarded. -/
def panelFrame (panel : Fin 12) (frame : PanelFrame) (s : State) : Handled :=
  if frameGood frame then
    panelEvent panel (·.takeFrame s.config.panels[panel] s.config.tagMaps[panel] s.now frame) s
  else (s, [])

end Sys2Proof.Machine
end

