-- ==== Sys2Proof/Machine/Actions.lean ====
section
/-! DEFINITION. The Action Dispatcher (chapter 8): presses, authority, actions, run records and their releases. -/

namespace Sys2Proof.Machine

/-- The binding of a tag 1..255; tag 0 has none (R155). -/
def State.binding (s : State) (tag : Nat) : Binding :=
  match tag with
  | 0 => emptyBinding
  | n + 1 =>
    match indexOf 255 n with
    | some i => s.config.bindings[i]
    | none => emptyBinding

/-- The zone kinds (R155). -/
def BindingKind.isZone : BindingKind → Bool
  | .scene => true
  | .levelUp => true
  | .levelDown => true
  | .setpointUp => true
  | .setpointDown => true
  | .mode => true
  | .none => false
  | .axisGoto => false
  | .chimeAck => false
  | .reportOnly => false

/-- The lighting kinds (R155). -/
def BindingKind.isLighting : BindingKind → Bool
  | .scene => true
  | .levelUp => true
  | .levelDown => true
  | .setpointUp => false
  | .setpointDown => false
  | .mode => false
  | .none => false
  | .axisGoto => false
  | .chimeAck => false
  | .reportOnly => false

/-- The PANEL_ACTION report (R166, section Byte layouts). -/
def actionContent (panel : Fin 12) (tag : Nat) (kind : BindingKind) (target : Option Nat) (result : ActionResult)
    (context : Option (Fin 16)) (resume : Bool) : List Byte :=
  u8 panel.val ++ u8 tag ++ u8 kind.code ++ orMarker 1 u8 target ++ u8 result.code
    ++ orMarker 1 (fun c : Fin 16 => u8 c.val) context ++ flag resume

/-- The result of a dispatch: the PANEL_ACTION report, and the deny tone on the panel's home zone when it is denied
(R157, R166). -/
def actionResult (panel : Fin 12) (result : ActionResult) (content : List Byte) (s : State) : State :=
  let t := s.post (.panelAction panel) content
  if result = .done then t else t.denyTone s.config.panels[panel].home

/-! ## Zone actions -/

/-- The authority check of a zone kind (R158). -/
def zoneAuthority (panel : PanelConfig) (zone : ZoneConfig) (number : Fin 24) (kind : BindingKind) : ActionResult :=
  if panel.cls = .guest ∧ zone.crewOnly then .deniedAuth
  else if kind.isLighting ∧ zone.passage then .done
  else if panel.base ≤ number.val ∧ number.val ≤ panel.limit then .done
  else .deniedAuth

/-- LEVEL_UP and LEVEL_DOWN: each channel whose stepped target differs takes a level change with T = 500 ms (R159). In ECO a
LEVEL_UP at a target of 600 takes such a change, capped to 600 again, and so starts a running fade anew: DESIGN CHOICE, log
entry 40. -/
def Zone.stepLevels (step : Nat → Nat) (z : Zone) : Zone :=
  z.onChannels fun _ c => if step c.target = c.target then c else c.changeLevel z.mode (step c.target) 500

/-- A LEVEL_UP or LEVEL_DOWN event; the demand is computed when a channel took a level change (R159). -/
def stepEvent (z : Fin 24) (step : Nat → Nat) (s : State) : Handled :=
  changeZone (s.zones[z].channels.toList.any fun c => step c.target != c.target) z (·.stepLevels step) s

/-- A zone action that the check allows (R159). -/
def zoneAction (z : Fin 24) (b : Binding) (s : State) : Handled :=
  match b.kind with
  | .scene =>
    match indexOf 32 b.argument with
    | some n => recallScene z n s
    | none => (s, [])
  | .levelUp => stepEvent z (fun t => min 1000 (t + b.argument)) s
  | .levelDown => stepEvent z (fun t => t - b.argument) s
  | .setpointUp => setpointEvent z (s.zones[z].setpoint + 5) s
  | .setpointDown => setpointEvent z (s.zones[z].setpoint - 5) s
  | .mode => modeEvent z b.argument s
  | .none => (s, [])
  | .axisGoto => (s, [])
  | .chimeAck => (s, [])
  | .reportOnly => (s, [])

/-- The dispatch of a zone kind (R157 to R159): a HOME target is the panel's home zone. -/
def dispatchZone (panel : Fin 12) (tag : Nat) (b : Binding) (s : State) : Handled :=
  let c := s.config.panels[panel]
  let z := b.target.getD c.home
  let result := zoneAuthority c s.config.zones[z] z b.kind
  let content := actionContent panel tag b.kind (some z.val) result none false
  let (t, acts) := if result = .done then zoneAction z b s else (s, [])
  (t, acts ++ [.actionResult panel result content])

/-! ## Notice, report and axis actions -/

/-- The dispatch of CHIME_ACK (R160): a CREW or HELM panel stops the current notice. -/
def dispatchAck (panel : Fin 12) (tag : Nat) (s : State) : Handled :=
  let allowed := s.config.panels[panel].cls != .guest
  let result : ActionResult := if allowed then .done else .deniedAuth
  (if allowed then s.stopNotice else s,
   [.actionResult panel result (actionContent panel tag .chimeAck none result none false)])

/-- The dispatch of REPORT_ONLY (R160). -/
def dispatchReport (panel : Fin 12) (tag : Nat) (s : State) : Handled :=
  (s, [.actionResult panel .done (actionContent panel tag .reportOnly none .done none false)])

/-- A run record made at the start of a hold-to-run program (R162). -/
def State.makeRun (s : State) (a : Axis) (c : Fin 16) (panel : Fin 12) (tag : Nat) : State :=
  { s with runs := s.runs.set a (some { context := c, panel, tag, released := false, deadline := none }) }

/-- The dispatch of AXIS_GOTO (R161): class and permission, hold-to-run, and the Program Table's answer decide. -/
def dispatchGoto (panel : Fin 12) (tag : Nat) (b : Binding) (s : State) : Handled :=
  let c := s.config.panels[panel]
  let a := b.axis
  let content (result : ActionResult) (ctx : Option (Fin 16)) : Signal :=
    .actionResult panel result (actionContent panel tag .axisGoto (some (axisNumber a)) result ctx false)
  if c.cls = .guest ∨ c.permissions.get a = false then (s, [content .deniedAuth none])
  else if b.holdToRun = false ∧ c.cls ≠ .helm then (s, [content .deniedAuth none])
  else
    match s.panelAnswer a with
    | .error .full => (s, [content .deniedFull none])
    | .error _ => (s, [content .deniedState none])
    | .ok (ctx, start) =>
      let (t, acts) := startPanel ctx panel a start (s.axisConfig a).presets[b.preset] s
      (if b.holdToRun then t.makeRun a ctx panel tag else t, acts ++ [content .done (some ctx)])

/-! ## Run records -/

/-- A run record names this panel and this tag, in the given hold state. -/
def RunRecord.names (r : RunRecord) (panel : Fin 12) (tag : Nat) (released : Bool) : Bool :=
  r.panel == panel && r.tag == tag && r.released == released

/-- The axis whose run record names this panel and this tag in the given hold state, with the record. -/
def State.findRun (s : State) (panel : Fin 12) (tag : Nat) (released : Bool) : Option (Axis × RunRecord) :=
  allAxes.findSome? fun a =>
    (s.runs.get a).bind fun r => if r.names panel tag released then some (a, r) else none

/-- A resume press (R164): allowed for a CREW or HELM panel with the permission of the record's axis. The report of a denied
one carries the marker in place of the context, as R166 has it for every result but DONE: DESIGN CHOICE, log entry 41. RELEASED
leaves the hold set, with its AXIS report, before PANEL_ACTION is posted: DESIGN CHOICE, log entry 47. -/
def resumePress (panel : Fin 12) (tag : Nat) (a : Axis) (r : RunRecord) (s : State) : Handled :=
  let c := s.config.panels[panel]
  let content (result : ActionResult) (ctx : Option (Fin 16)) : Signal :=
    .actionResult panel result (actionContent panel tag .axisGoto (some (axisNumber a)) result ctx true)
  if c.cls ≠ .guest ∧ c.permissions.get a = true then
    ({ s with runs := s.runs.set a (some { r with released := false, deadline := none }) },
     [.removeHold a .released, content .done (some r.context)])
  else (s, [content .deniedAuth none])

/-- The dispatch of a press (R157). -/
def press (panel : Fin 12) (tag : Nat) (s : State) : Handled :=
  match s.findRun panel tag true with
  | some (a, r) => resumePress panel tag a r s
  | none =>
    let b := s.binding tag
    match b.kind with
    | .none => (s, [])
    | .chimeAck => dispatchAck panel tag s
    | .reportOnly => dispatchReport panel tag s
    | .axisGoto => dispatchGoto panel tag b s
    | .scene => dispatchZone panel tag b s
    | .levelUp => dispatchZone panel tag b s
    | .levelDown => dispatchZone panel tag b s
    | .setpointUp => dispatchZone panel tag b s
    | .setpointDown => dispatchZone panel tag b s
    | .mode => dispatchZone panel tag b s

/-- A release that matches a HELD run record makes it RELEASED, starts its timer and adds RELEASED to the axis; any other
release does nothing (R163). -/
def release (panel : Fin 12) (tag : Nat) (s : State) : Handled :=
  match s.findRun panel tag false with
  | some (a, r) =>
    ({ s with runs := s.runs.set a (some { r with released := true, deadline := s.ends releaseTime }) },
     [.addHold a .released])
  | none => (s, [])

end Sys2Proof.Machine
end

