-- ==== Sys2Proof/Machine/Cues.lean ====
section
/-! DEFINITION. The Cue Unit (chapter 3): the staging list, the output frame that applies a cue, and CUE_APPLIED. -/

namespace Sys2Proof.Machine

/-- The kind code of a cue entry: SCENE 0, LEVELS 1, SETPOINT 2, MODE 3 (R54). -/
def CueChange.code : CueChange → Nat
  | .scene _ => 0
  | .levels _ _ => 1
  | .setpoint _ => 2
  | .mode _ => 3

/-- Two entries stand for the same pair of zone and kind (R53). -/
def CueEntry.matches (a b : CueEntry) : Bool := a.zone == b.zone && a.change.code == b.change.code

/-- A cue entry as stored, when its zone, kind, scene number and mode value lie in range (R54, R55). -/
def storedEntry (f : CueFields) : Option CueEntry :=
  match indexOf 24 f.zone, f.kind with
  | some zone, 0 => (indexOf 32 f.value).map fun n => { zone, change := .scene n }
  | some zone, 1 => some { zone, change := .levels (f.levels.map (·.map clampLevel)) (clampFade f.fade) }
  | some zone, 2 => some { zone, change := .setpoint (clampSetpoint f.value) }
  | some zone, 3 => if f.value ≤ 255 then some { zone, change := .mode f.value } else none
  | _, _ => none

/-- The effect of an entry on its zone, with the scene records as they stand (R60). -/
def CueChange.apply (scenes : Vector Scene 32) (change : CueChange) (z : Zone) : Zone :=
  match change with
  | .scene n => z.recall scenes[n]
  | .levels ls fade => z.changeLevels ls fade
  | .setpoint v => z.changeSetpoint v
  | .mode v => z.changeMode v

/-- The entries act on their zones in list order (R60). -/
def applyEntries (scenes : Vector Scene 32) (entries : List CueEntry) (zones : Vector Zone 24) : Vector Zone 24 :=
  entries.foldl (fun zs e => zs.set e.zone (e.change.apply scenes zs[e.zone])) zones

/-- The zones named in a list, in ascending zone number (R61). -/
def namedZones (entries : List CueEntry) : List (Fin 24) :=
  allZones.filter fun z => entries.any fun e => e.zone == z

/-- Some channel of some named zone is fading (R58). -/
def State.cueFading (s : State) : Bool := (namedZones s.cue.entries).any fun z => s.zones[z].isFading

/-- A cue is applied: every entry acts, the named zones settle one after another, and the Cue Unit then empties its list
and reports (R60, R61, R62). A zone whose entries change nothing settles with the others, and so computes and posts its lighting
demand: DESIGN CHOICE, log entry 49. -/
def applyCue (mode : CommitMode) (late : Bool) (s : State) : Handled :=
  let entries := s.cue.entries
  let zones := applyEntries s.config.scenes entries s.zones
  ({ s with zones },
   ((namedZones entries).flatMap fun z => settleZone true z s.zones[z] zones[z])
     ++ [.cueApplied mode entries.length late])

/-- The Cue Unit sees an output frame: while PENDING, frames waited rises by 1 and the commit mode decides (R58). The
counter stays within its range 0..3100 (R53, log entry 17). -/
def cueFrame (s : State) : Handled :=
  match s.cue.commit with
  | none => (s, [])
  | some mode =>
    let t := { s with cue := { s.cue with framesWaited := min 3100 (s.cue.framesWaited + 1) } }
    match mode with
    | .atFrame => applyCue mode false t
    | .afterFades => if s.cue.lateDue then applyCue mode true t else if s.cueFading then (t, []) else applyCue mode false t

/-- The list empties, the commit state becomes IDLE and CUE_APPLIED is posted (R60, R62). -/
def cueApplied (mode : CommitMode) (count : Nat) (late : Bool) (s : State) : State :=
  { s.post .cueApplied (u8 mode.code ++ u8 count ++ flag late ++ u16 s.cue.framesWaited) with
    cue := { s.cue with entries := [], commit := none, capDeadline := none, lateDue := false } }

/-- Optional levels on the line: a presence byte with bits 0..3 for the channels, and four numbers of two bytes, an
absent one sent as zero (section Byte layouts). The presence bits of the record's other fields follow. -/
def levelBytes (levels : Vector (Option Nat) 4) (more : List Bool) : List Byte :=
  bits (levels.toList.map (·.isSome) ++ more) ++ levels.toList.flatMap fun l => u16 (l.getD 0)

/-- A scene record on the line, 14 bytes (section Byte layouts). -/
def Scene.bytes (r : Scene) : List Byte :=
  levelBytes r.levels [r.setpoint.isSome, r.mode.isSome] ++ u16 r.fade ++ u16 (r.setpoint.getD 0) ++ u8 (r.mode.getD 0)

/-- A cue entry on the line, 15 bytes; fields that the kind does not read are sent as 0 (section Byte layouts). -/
def CueEntry.bytes (e : CueEntry) : List Byte :=
  let none4 : Vector (Option Nat) 4 := Vector.replicate 4 none
  u8 e.zone.val ++ u8 e.change.code ++
    (match e.change with
     | .scene n => levelBytes none4 [] ++ u16 0 ++ u16 n.val
     | .levels ls fade => levelBytes ls [] ++ u16 fade ++ u16 0
     | .setpoint v => levelBytes none4 [] ++ u16 0 ++ u16 v
     | .mode v => levelBytes none4 [] ++ u16 0 ++ u16 v)

end Sys2Proof.Machine
end

