-- ==== Sys2Proof/Machine/Cascade.lean ====
section
/-! DEFINITION. What happens inside one step: each signal goes to its block's handler, and the signals that the handler
sends are taken before those already waiting (log entry 8). -/

namespace Sys2Proof.Machine

/-- A changed grant goes to the slot's owner (R5, R16, R19). The AUX slots have no owner inside the part. -/
def deliverTo (slot : Fin 52) (grant : Nat) (s : State) : Handled :=
  match indexOf 24 slot.val, indexOf 24 (slot.val - 24) with
  | some z, _ => (deliverLight z grant s, [])
  | none, some z => (deliverClimate z grant s, [])
  | none, none =>
    if slot = pumpSlot then deliverPump grant s
    else if slot = windlassSlot then deliverWindlass grant s
    else (s, [])

/-- One thing that a pass has sent on (R16): its owner takes the grant as an event of its own, or the pass goes to its
report (R19, R24). -/
def sendOn (item : Outgoing) (s : State) : Handled :=
  match item with
  | .grant slot grant => deliverTo slot grant s
  | .report content copy => (reportBudget content copy s, [])

/-- The handler of each signal. What a pass sends on, and its taking, is the part of `run`. -/
def handle (signal : Signal) (s : State) : Handled :=
  match signal with
  | .post slot demand => postDemand slot demand s
  | .pass => (s.afterPass, [.passEnd])
  | .passEnd => (s, [])
  | .lightDemand z => lightDemand z s
  | .climateWork z => climateWork z s
  | .reportZone z before => (reportZoneChange z before s, [])
  | .cueFrame => cueFrame s
  | .cueApplied mode count late => (cueApplied mode count late s, [])
  | .takeUp a => takeUp a s
  | .endEntry a => endEntry a s
  | .testGates a => testGates a s
  | .endDwell a => endDwell a s
  | .addHold a reason => (addHold a reason s, [])
  | .removeHold a reason => removeHold a reason s
  | .travelled a before => travelled a before s
  | .fault a kind => fault a kind s
  | .reportFault a kind at_ => (reportFault a kind at_ s, [])
  | .reportAxis a => (s.reportAxis a, [])
  | .endProgram c status => endProgram c status s
  | .freeContext c status => freeContext c status s
  | .evaluatePermits => evaluatePermits s
  | .deliverPermit a d value => deliverPermit a d value s
  | .requestPump h => requestPump h s
  | .releasePump h => releasePump h s
  | .handOver => handOver s
  | .press panel tag => press panel tag s
  | .release panel tag => release panel tag s
  | .actionResult panel result content => (actionResult panel result content s, [])

/-- What a signal sends on besides its own signals: a pass its changed grants and its report (R16). -/
def Signal.outgoing (signal : Signal) (s : State) : List Outgoing :=
  match signal with
  | .pass => s.passOutgoing
  | _ => []

/-- One turn: the next signal is taken, or, at the end of a pass, the oldest thing that the passes of this event have sent on.
Answered are what is still on its way, the signals still waiting, and the state. -/
def turn (sent : List Outgoing) (signal : Signal) (rest : List Signal) (s : State) :
    List Outgoing × List Signal × State :=
  match signal, sent with
  | .passEnd, [] => ([], rest, s)
  | .passEnd, item :: later =>
    let (t, more) := sendOn item s
    (later, more ++ .passEnd :: rest, t)
  | _, _ =>
    let (t, more) := handle signal s
    (sent ++ signal.outgoing s, more ++ rest, t)

/-- The waiting signals are taken one at a time, up to a bound; a step that outruns the bound leaves `unsettled` set (log
entry 8). What a pass sends on goes behind what earlier passes of the same event have sent on, so a pass that is taken while
the grants of another are being delivered delivers its own after them, and none is lost (R16, log entry 9). -/
def run : Nat → List Outgoing → List Signal → State → State
  | _, _, [], s => s
  | 0, _, _ :: _, s => { s with unsettled := true }
  | n + 1, sent, signal :: rest, s =>
    match turn sent signal rest s with
    | (sent', signals, t) => run n sent' signals t

/-- The bound on the signals of one step. DESIGN CHOICE, log entry 8. -/
def signalBound : Nat := 100000

/-- An event is carried out to its end. -/
def settle (h : Handled) : State := run signalBound [] h.2 h.1

/-- One signal carried out to its end. -/
def State.send (s : State) (signal : Signal) : State := settle (s, [signal])

end Sys2Proof.Machine
end

