-- ==== Sys2Proof/Machine/Line.lean ====
section
/-! DEFINITION. The transmit side of the Link Interface (sections 9.1, 9.4 and 9.6): frames on the line, and the choice
of the next frame. -/

namespace Sys2Proof.Machine

/-- The bytes that the CRC covers: length, kind, tag and payload (R167). -/
def Frame.covered (f : Frame) : List Byte := u8 f.payload.length ++ [f.kind, f.tag] ++ f.payload

/-- A frame on the line: the start pair, the covered bytes, and the CRC-16 (R167). -/
def Frame.line (f : Frame) : List Byte := [0x5A, 0xC3] ++ f.covered ++ u16 (crc16 f.covered)

/-- A frame begins on the transmit line. -/
def State.transmit (s : State) (f : Frame) : State :=
  { s with link := { s.link with sending := some { frame := f, line := f.line } } }

/-- The report that the transmitter takes: the START entry when one waits, else the first urgent entry, else the first
non-urgent entry (R177). -/
def chooseReport (queue : List ReportEntry) : Option ReportEntry :=
  (queue.find? (·.key = .start)).or ((queue.find? (·.key.urgent)).or queue.head?)

/-- A chosen entry leaves the queue (R177). -/
def takeReport (key : ReportKey) (queue : List ReportEntry) : List ReportEntry := queue.filter (·.key ≠ key)

/-- The report number of the next report; that of START is 0 (R177). -/
def State.nextNumber (s : State) (e : ReportEntry) : Nat := if e.key = .start then 0 else s.link.reportNumber

/-- The idle transmitter chooses its next frame: the oldest reply, else a report; no report goes while an accepted reset
waits (R173, R177, R180). It chooses at the end of an event (log entry 3). -/
def State.kick (s : State) : State :=
  match s.link.sending, s.link.replies with
  | some _, _ => s
  | none, r :: rest => ({ s with link := { s.link with replies := rest } } : State).transmit r.frame
  | none, [] =>
    if s.link.resetPending.isSome then s
    else
      match chooseReport s.link.reports with
      | none => s
      | some e =>
        let number := s.nextNumber e
        ({ s with link := { s.link with reports := takeReport e.key s.link.reports,
                                        reportNumber := (number + 1) % 256 } } : State).transmit
          { kind := e.key.code, tag := BitVec.ofNat 8 number, payload := e.content }

/-- The replies that count toward the capacity of the reply list: the delayed one does not (R169, R172). -/
def Link.counted (l : Link) : Nat := (l.replies.filter (!·.delayed)).length

/-- The Link Interface may take a request from the input buffer (R169, R180). -/
def Link.takes (l : Link) : Bool := decide (l.counted < lineCapacity) && l.resetPending.isNone

/-- What a step answers. -/
abbrev Outcome := Host.Outcome State Fault Refusal

/-- A command carried out: the idle transmitter then chooses its next frame (R173, log entry 3). -/
def carried (s : State) : Outcome := .next s.kick

end Sys2Proof.Machine
end

