-- ==== Sys2Proof/Machine/AxisCommands.lean ====
section
/-! DEFINITION. The commands of the Axis Controller (chapter 4): its requests, its sensors and pulses, and its timers. -/

namespace Sys2Proof.Machine

/-! ## SET_AXIS (R88) -/

/-- The windlass's configuration as SET_AXIS stores it (R88). -/
def storedGear (f : AxisFields) : GearConfig :=
  { maxRode := clampInto 10000 150000 f.maxRode, pulses := clampInto 1 64 f.pulses, chain := clampInto 100 2000 f.chain,
    rating := min f.rating 4000 }

/-- The gear that a SET_AXIS of an axis leaves in force: that of the request for the windlass, else the one held. -/
def gearAfter (a : Axis) (f : AxisFields) (gear : GearConfig) : GearConfig :=
  match a with
  | .windlass => storedGear f
  | .hatch => gear
  | .platform => gear

/-- The configuration that every axis has, as SET_AXIS stores it; a warn pattern above 7, a zone above 23, more than 24
zones, or a preset outside the soft limits is out of range (R88). -/
def storedAxis (a : Axis) (gear : GearConfig) (f : AxisFields) : Option AxisConfig :=
  if f.warnZones.any (fun z => decide (23 < z)) ∨ 24 < f.warnZones.length then none
  else if f.presets.toList.all (withinLimits gear a) then
    (indexOf 8 f.warnPattern).map fun k =>
      { presets := f.presets, warnTime := min f.warnTime 10000, prepareTimeout := min f.prepareTimeout 120,
        warnPattern := k, warnZones := sortZones f.warnZones }
  else none

/-- The configuration of an axis is written: the deck level on PLATFORM, the gear on WINDLASS (R88). -/
def storeAxis (a : Axis) (c : AxisConfig) (f : AxisFields) (s : State) : State :=
  { s with config := { s.config with
      axes := s.config.axes.set a c,
      deckLevel := if a = .platform then min f.deckLevel 1500 else s.config.deckLevel,
      gear := gearAfter a f s.config.gear } }

/-- What SET_AXIS does after storing: a changed deck level re-evaluates the permits (R123), and a position that now lies
beyond its margin is the onset of OVERTRAVEL (R84). -/
def axisWritten (a : Axis) (before s : State) : Handled :=
  (s, (if before.config.deckLevel = s.config.deckLevel then [] else [.evaluatePermits])
    ++ (if beyondMargin s.config.gear a (s.measured a) && !beyondMargin before.config.gear a (before.measured a) then
          [.fault a .overtravel]
        else []))

/-- The fields of SET_AXIS after the axis number and before the zone list, in its widths (R182); an axis without a deck
level or a gear has 0 there. -/
def Configuration.axisFieldBytes (c : Configuration) (a : Axis) : List Byte :=
  let x := c.axes.get a
  x.presets.toList.flatMap i32 ++ u16 x.warnTime ++ u8 x.prepareTimeout ++ u8 x.warnPattern.val
    ++ (match a with
        | .hatch => u16 0 ++ u32 0 ++ u8 0 ++ u16 0 ++ u16 0
        | .platform => u16 c.deckLevel ++ u32 0 ++ u8 0 ++ u16 0 ++ u16 0
        | .windlass => u16 0 ++ u32 c.gear.maxRode ++ u8 c.gear.pulses ++ u16 c.gear.chain ++ u16 c.gear.rating)

/-- The configuration of an axis in the SET_AXIS reply (R88). -/
def State.axisSetBytes (s : State) (a : Axis) : List Byte :=
  s.config.axisFieldBytes a ++ u8 (s.axisConfig a).warnZones.length ++ (s.axisConfig a).warnZones.flatMap u8

/-- SET_AXIS: RANGE for an axis above 2, BUSY during a save or while the axis is not IDLE, RANGE for its other fields; else
every field is stored (R88). -/
def takeSetAxis (tag : Byte) (axis : Nat) (f : AxisFields) (s : State) : State :=
  match axisOf axis with
  | none => s.refuse 0x30 tag .range
  | some a =>
    if s.isSaving || decide ((s.axis a).state ≠ .idle) then s.refuse 0x30 tag .busy
    else
      match storedAxis a (gearAfter a f s.config.gear) f with
      | none => s.refuse 0x30 tag .range
      | some c =>
        let t := settle (axisWritten a s (storeAxis a c f s))
        t.reply 0x30 tag .ok (u8 (axisNumber a) ++ t.axisSetBytes a)

/-- SET_AXIS as a command. -/
def execSetAxis (tag : Byte) (axis : Nat) (fields : AxisFields) (s : State) : Outcome :=
  carried (takeSetAxis tag axis fields s)

/-! ## GET_AXIS (R89) -/

/-- A fault record on the line, or its marker of 7 bytes (log entry 15). -/
def faultBytes (r : Option FaultRecord) : List Byte :=
  orMarker 7 (fun f => u8 f.kind.code ++ position f.position ++ orMarker 1 (fun c : Fin 16 => u8 c.val) f.context
    ++ u8 f.count) r

/-- A current step on the line, its context first, or its marker of 16 bytes (log entry 15). -/
def currentBytes (c : Option CurrentStep) : List Byte := orMarker 16 (fun c => u8 c.context.val ++ c.step.bytes) c

/-- The fields of R67 that one axis alone has, in the GET_AXIS reply. -/
def State.ownConfigBytes (s : State) (a : Axis) : List Byte :=
  match a with
  | .hatch => []
  | .platform => u16 s.config.deckLevel
  | .windlass => u32 s.config.gear.maxRode ++ u8 s.config.gear.pulses ++ u16 s.config.gear.chain
      ++ u16 s.config.gear.rating

/-- The sensor of a hydraulic axis, or the counters and inputs of the windlass, in the GET_AXIS reply (R89). Before the first
sample the age is its marker: DESIGN CHOICE, log entry 51. -/
def State.inputBytes (s : State) (a : Axis) : List Byte :=
  match hydraulicOf a with
  | some h =>
    u8 (sensorCode (s.sensors.get h).fresh)
      ++ orMarker 4 (fun ms => u32 (min 65535 ms)) (s.age (s.sensors.get h).sampledAt)
  | none => u16 s.gypsy.count ++ flag s.inputs.anchorHome ++ flag s.inputs.payingOut ++ flag s.inputs.overload
      ++ u16 s.gypsy.reverse

/-- The drive outputs in the GET_AXIS reply: two valve openings, or the motor's direction and speed; the code of the
direction is free, and a motor that is off has none (R89, log entry 14). A hydraulic axis has no brake. -/
def driveBytes (a : Axis) (d : Drive) : List Byte :=
  match a with
  | .windlass =>
    (if d.out = 0 ∧ d.inward = 0 then marker 1 else [Config.motorDirectionCode (decide (d.out ≠ 0))])
      ++ u8 (max d.out d.inward) ++ flag d.brakeSet
  | .hatch => u8 d.out ++ u8 d.inward ++ flag false
  | .platform => u8 d.out ++ u8 d.inward ++ flag false

/-- The GET_AXIS reply (R89). -/
def State.axisBytes (s : State) (a : Axis) : List Byte :=
  let c := s.axisConfig a
  let r := s.axis a
  c.presets.toList.flatMap i32 ++ u32 c.warnTime ++ u32 c.prepareTimeout ++ u8 c.warnPattern.val
    ++ u8 c.warnZones.length ++ c.warnZones.flatMap u8 ++ s.ownConfigBytes a ++ position (s.measured a)
    ++ s.inputBytes a ++ u8 r.state.code ++ r.holds.byte ++ orMarker 1 (fun x : Fin 16 => u8 x.val) (s.head a)
    ++ currentBytes r.current ++ (if r.state = .moving then u8 r.speed.code else marker 1) ++ driveBytes a r.drive
    ++ orMarker 4 u32 (s.age r.warnStart) ++ orMarker 4 u32 (s.timeLeft r.prepareDeadline)
    ++ orMarker 4 u32 (s.timeLeft r.dwellDeadline) ++ orMarker 4 u32 (s.timeLeft r.stopDeadline)
    ++ orMarker 4 u32 (s.timeLeft (r.stall.map (·.deadline))) ++ faultBytes r.fault

/-- GET_AXIS reads one axis and changes nothing (R89). -/
def takeGetAxis (tag : Byte) (axis : Nat) (s : State) : State :=
  match axisOf axis with
  | none => s.refuse 0x31 tag .range
  | some a => s.reply 0x31 tag .ok (s.axisBytes a)

/-- GET_AXIS as a command. -/
def execGetAxis (tag : Byte) (axis : Nat) (s : State) : Outcome := carried (takeGetAxis tag axis s)

/-! ## ACK_FAULT (R87) -/

/-- The conditions still present: OVERTRAVEL, SENSOR and OVERLOAD (R87). -/
def State.causes (s : State) (a : Axis) : List Bool :=
  [beyondMargin s.config.gear a (s.measured a),
   match hydraulicOf a with
   | some h => !(s.sensors.get h).fresh
   | none => false,
   decide (a = .windlass) && s.inputs.overload]

/-- An acknowledged axis: its record is removed, it enters IDLE, and its head context is ACTIVE again and is taken up
(R87, R96). -/
def acknowledge (a : Axis) (s : State) : Handled :=
  let t := (s.onAxis a fun r => { r with fault := none }).enterIdle a
  (t.activateHead a, idleSignals a ++ [.takeUp a])

/-- ACK_FAULT: RANGE for an axis above 2, STATE outside FAULT, STATE with the condition bits while a cause is present; else
the axis returns to IDLE and the record is answered as it stood (R87). -/
def takeAckFault (tag : Byte) (axis : Nat) (s : State) : State :=
  match axisOf axis with
  | none => s.refuse 0x32 tag .range
  | some a =>
    if (s.axis a).state ≠ .fault then s.refuse 0x32 tag .state
    else if (s.causes a).any id then s.reply 0x32 tag .state (bits (s.causes a))
    else (settle (acknowledge a s)).reply 0x32 tag .ok (u8 (axisNumber a) ++ faultBytes (s.axis a).fault)

/-- ACK_FAULT as a command. -/
def execAckFault (tag : Byte) (axis : Nat) (s : State) : Outcome := carried (takeAckFault tag axis s)

/-! ## Positions -/

/-- An axis is in MOVING with a current step that the new position has arrived at, while the permit of its own direction
falls by the same change: R76 lets either be taken first. -/
def State.arrivalMeetsLoss (s : State) (a : Axis) : Bool :=
  match (s.axis a).state, (s.axis a).current with
  | .moving, some c =>
    c.step.arrived a (s.measured a)
      && (match c.step.direction.interlock with
          | some d => s.permit a d && !s.workedPermit a d
          | none => false)
  | _, _ => false

/-- A position change that an interlock test may read: the permits are worked out and delivered, then the axis makes its
checks; where an arrival meets the loss of a permit the order is free (R76, log entry 10). -/
def positionEvent (a : Axis) (before : Option Int) (s : State) : Handled :=
  if s.arrivalMeetsLoss a then
    ({ s with freeIndex := s.freeIndex + 1 },
     if Config.arrivalFirst s.freeIndex then [.travelled a before, .evaluatePermits]
     else [.evaluatePermits, .travelled a before])
  else (s, [.evaluatePermits, .travelled a before])

/-- A sample stored by its sensor (R65). -/
def State.withSample (s : State) (h : Hydraulic) (position : Int) : State :=
  let sample : Sensor :=
    { position := some position, sampledAt := some s.now, fresh := true, staleDeadline := s.ends staleTime }
  { s with sensors := s.sensors.set h sample }

/-- POSITION_SAMPLE: the sample is the measured position, the sensor is fresh, its stale timer restarts, and the checks
follow (R65). -/
def execPositionSample (axis : Hydraulic) (position : Int) (s : State) : Outcome :=
  let a := axisOfHydraulic axis
  carried (settle (positionEvent a (s.measured a) (s.withSample axis position)))

/-- STALE_TIMER_EXPIRY: the sensor is stale, which is a SENSOR fault where it is detected, and the permits are worked out
again (R65, R84, R123). -/
def execStaleTimerExpiry (axis : Hydraulic) (s : State) : Outcome :=
  let r := s.sensors.get axis
  carried (if r.staleDeadline.isSome then
    settle ({ s with sensors := s.sensors.set axis { r with fresh := false, staleDeadline := none } },
      [.fault (axisOfHydraulic axis) .sensor, .evaluatePermits])
  else s)

/-- The pulse count after a pulse (R66). -/
def pulsedCount (home payingOut : Bool) (count : Nat) : Nat :=
  if home then 0 else if payingOut then min 65535 (count + 1) else count - 1

/-- A pulse is against the direction of the windlass's current step (R84). -/
def Step.against (t : Step) (payingOut : Bool) : Bool :=
  match t.direction with
  | .out => !payingOut
  | .inward => payingOut
  | .zero => false

/-- The reverse pulse count after a pulse (R84). -/
def State.reverseAfter (s : State) (payingOut : Bool) : Nat :=
  match s.axes.windlass.current with
  | some c => if c.step.against payingOut then min 65535 (s.gypsy.reverse + 1) else s.gypsy.reverse
  | none => s.gypsy.reverse

/-- The windlass's checks after a change that may have moved the rode: only a changed rode makes them (R66). -/
def rodeSignals (before after : State) : List Signal :=
  if before.measured .windlass = after.measured .windlass then [] else [.travelled .windlass (before.measured .windlass)]

/-- WINDLASS_PULSE: the count changes by the direction input, the fourth reverse pulse of a step is a SENSOR fault, and a
changed rode makes the checks of a position change (R66, R84; log entry 13). -/
def execWindlassPulse (payingOut : Bool) (s : State) : Outcome :=
  let reverse := s.reverseAfter payingOut
  let t : State :=
    { s with
      inputs := { s.inputs with payingOut },
      gypsy := { s.gypsy with count := pulsedCount s.inputs.anchorHome payingOut s.gypsy.count, reverse } }
  carried (settle (t, (if reverse = 4 ∧ s.gypsy.reverse = 3 then [.fault .windlass .sensor] else []) ++ rodeSignals s t))

/-- ANCHOR_HOME_CHANGE: an active switch makes the count 0; the permits are worked out again, and a changed rode makes the
checks of a position change (R66, R119, R123). -/
def execAnchorHomeChange (active : Bool) (s : State) : Outcome :=
  let t : State :=
    { s with
      inputs := { s.inputs with anchorHome := active },
      gypsy := { s.gypsy with count := if active then 0 else s.gypsy.count } }
  carried (settle (if rodeSignals s t = [] then (t, [.evaluatePermits])
    else positionEvent .windlass (s.measured .windlass) t))

/-- OVERLOAD_INPUT: the level is stored, and becoming active is an OVERLOAD fault where it is detected (R84). -/
def execOverloadInput (active : Bool) (s : State) : Outcome :=
  carried (settle ({ s with inputs := { s.inputs with overload := active } },
    if active && !s.inputs.overload then [.fault .windlass .overload] else []))

/-! ## Timers -/

/-- WARN_TIME_REACHED: the warn gate is met, and the gates are tested (R131). -/
def execWarnTimeReached (axis : Axis) (s : State) : Outcome :=
  carried (if (s.axis axis).warnStart.isSome then
    (s.onAxis axis fun r => { r with warnReached := true }).send (.testGates axis)
  else s)

/-- PREPARE_TIMER_EXPIRY: the program ends NOT_READY (R75). -/
def execPrepareTimerExpiry (axis : Axis) (s : State) : Outcome :=
  carried (if (s.axis axis).prepareDeadline.isSome then
    settle (s.onAxis axis fun r => { r with prepareDeadline := none },
      ((s.head axis).map fun c => Signal.endProgram c .notReady).toList)
  else s)

/-- The progress of a MOVING axis since its stall window began, in the direction of its step (R77). -/
def State.progress (s : State) (a : Axis) (w : StallWindow) (t : Step) : Int :=
  match t.direction with
  | .inward => w.startedAt - s.progressAt a
  | .out => s.progressAt a - w.startedAt
  | .zero => s.progressAt a - w.startedAt

/-- STALL_WINDOW_EXPIRY: enough progress starts the window again; too little is a STALL fault (R77). -/
def execStallWindowExpiry (axis : Axis) (s : State) : Outcome :=
  carried (match (s.axis axis).stall, (s.axis axis).current with
  | some w, some c =>
    if minimumProgress axis ≤ s.progress axis w c.step then
      s.onAxis axis fun r => { r with stall := some { deadline := s.now + stallTime axis,
                                                      startedAt := s.progressAt axis } }
    else s.send (.fault axis .stall)
  | _, _ => s)

/-- DWELL_END: the current step is finished (R78, R103). -/
def execDwellEnd (axis : Axis) (s : State) : Outcome :=
  carried (if (s.axis axis).dwellDeadline.isSome then s.send (.endDwell axis) else s)

/-- STOP_TIMER_EXPIRY: the axis goes to IDLE, HOLD or PREPARING (R81). -/
def execStopTimerExpiry (axis : Axis) (s : State) : Outcome :=
  carried (if (s.axis axis).stopDeadline.isSome then settle (endStop axis s) else s)

end Sys2Proof.Machine
end

