-- ==== Sys2Proof/Machine/BudgetCommands.lean ====
section
/-! DEFINITION. The commands of the Budget Allocator (sections 1.2, 1.3 and 1.6). -/

namespace Sys2Proof.Machine

/-! ## SET_SUPPLY (R20) -/

/-- The supply rating and the reserve as stored. -/
def storeSupply (supply reserve : Nat) (s : State) : State :=
  { s with config := { s.config with supply := min supply 40000, reserve := min reserve 50 } }

/-- SET_SUPPLY: BUSY during a save; else the clamped values are stored, one pass is taken, and they are answered (R20). -/
def takeSetSupply (tag : Byte) (supply reserve : Nat) (s : State) : State :=
  if s.isSaving then s.refuse 0x10 tag .busy
  else
    let t := (storeSupply supply reserve s).send .pass
    t.reply 0x10 tag .ok (u16 t.config.supply ++ u8 t.config.reserve)

/-- SET_SUPPLY as a command. -/
def execSetSupply (tag : Byte) (supply reserve : Nat) (s : State) : Outcome :=
  carried (takeSetSupply tag supply reserve s)

/-! ## SET_SLOT (R21) -/

/-- The five configuration fields of a slot as stored: clamped, with no minimum useful grant outside DIVISIBLE and no
hold-off on DIVISIBLE (R21). -/
def storedSlot (cls : SlotClass) (enabled priority cap dmin holdOff : Nat) : SlotConfig :=
  { enabled := flagOf enabled, priority := min priority 31, cap := min cap 4000,
    dmin := if cls = .divisible then min dmin 4000 else 0,
    holdOff := if cls = .divisible then 0 else min holdOff 600 }

/-- The configuration of a slot is written, and its effective demand is recomputed with the new cap (R21). -/
def storeSlot (slot : Fin 52) (c : SlotConfig) (s : State) : State :=
  ({ s with config := { s.config with slots := s.config.slots.set slot c } } : State).onSlot slot fun k =>
    { k with effective := min k.raw c.cap }

/-- The five configuration fields of a slot on the line. -/
def SlotConfig.bytes (c : SlotConfig) : List Byte :=
  flag c.enabled ++ u8 c.priority ++ u16 c.cap ++ u16 c.dmin ++ u16 c.holdOff

/-- SET_SLOT: RANGE for a slot above 51, then BUSY during a save; else the fields are stored and one pass is taken
(R21). -/
def takeSetSlot (tag : Byte) (slot enabled priority cap dmin holdOff : Nat) (s : State) : State :=
  match indexOf 52 slot with
  | none => s.refuse 0x11 tag .range
  | some k =>
    if s.isSaving then s.refuse 0x11 tag .busy
    else
      let t := (storeSlot k (storedSlot (slotClass k) enabled priority cap dmin holdOff) s).send .pass
      t.reply 0x11 tag .ok (u8 k.val ++ (t.slotConfig k).bytes)

/-- SET_SLOT as a command. -/
def execSetSlot (tag : Byte) (slot enabled priority cap dmin holdOff : Nat) (s : State) : Outcome :=
  carried (takeSetSlot tag slot enabled priority cap dmin holdOff s)

/-! ## SET_AUX_DEMAND (R22) -/

/-- SET_AUX_DEMAND: RANGE for a slot other than 50 and 51; else the clamped demand is posted (R22). -/
def takeSetAuxDemand (tag : Byte) (slot demand : Nat) (s : State) : State :=
  match indexOf 52 slot with
  | none => s.refuse 0x12 tag .range
  | some k =>
    if k.val < 50 then s.refuse 0x12 tag .range
    else
      let t := s.send (.post k (min demand 4000))
      let r := t.budget.slots[k]
      t.reply 0x12 tag .ok (u8 k.val ++ u16 r.raw ++ u16 r.effective ++ u16 r.grant)

/-- SET_AUX_DEMAND as a command. -/
def execSetAuxDemand (tag : Byte) (slot demand : Nat) (s : State) : Outcome :=
  carried (takeSetAuxDemand tag slot demand s)

/-! ## GET_BUDGET (R23) -/

/-- The summary form of the GET_BUDGET reply (R23). -/
def State.budgetSummary (s : State) : List Byte :=
  u16 s.config.supply ++ u8 s.config.reserve ++ u8 s.budget.mode.code ++ u8 s.budget.history.length
    ++ s.budget.history.flatMap u16 ++ u16 s.budget.heldPeak ++ s.budget.result.bytes ++ s.budget.result.shortBytes

/-- The number of a slot class, in the order in which R5 lists the classes. -/
def SlotClass.order : SlotClass → Nat
  | .divisible => 0
  | .stepped => 1
  | .whole => 2

/-- The slot form of the GET_BUDGET reply (R23). The code of the class is free (log entry 14). -/
def State.slotBytes (s : State) (k : Fin 52) : List Byte :=
  let r := s.budget.slots[k]
  let c := s.slotConfig k
  u8 k.val ++ [Config.slotClassCode (slotClass k).order] ++ flag c.enabled ++ u8 c.priority ++ u16 c.cap ++ u16 c.dmin
    ++ u32 c.holdOff ++ u16 r.raw ++ u16 r.effective ++ u16 r.grant ++ orMarker 4 u32 (s.timeLeft r.holdOffEnds)

/-- GET_BUDGET reads and changes nothing (R23). -/
def takeGetBudget (tag : Byte) (slot : Option Nat) (s : State) : State :=
  match slot with
  | none => s.reply 0x13 tag .ok s.budgetSummary
  | some n =>
    match indexOf 52 n with
    | none => s.refuse 0x13 tag .range
    | some k => s.reply 0x13 tag .ok (s.slotBytes k)

/-- GET_BUDGET as a command. -/
def execGetBudget (tag : Byte) (slot : Option Nat) (s : State) : Outcome := carried (takeGetBudget tag slot s)

/-! ## The meter and the hold-offs -/

/-- A sample joins the history: in NORMAL the oldest of 8 leaves first; in HOLD the sample is the whole history and the
mode becomes NORMAL (R3). The meter-silence timer starts or restarts. -/
def sampleBudget (load : Nat) (now : Nat) (b : Budget) : Budget :=
  let kept := match b.mode with
    | .normal => b.history.drop (b.history.length + 1 - historyCapacity)
    | .hold => []
  { b with mode := .normal, history := kept ++ [load], meterDeadline := some (now + meterSilence) }

/-- BASE_LOAD_SAMPLE: the sample is taken and causes one pass (R3). -/
def execBaseLoadSample (load : Nat) (s : State) : Outcome :=
  carried (({ s with budget := sampleBudget load s.now s.budget } : State).send .pass)

/-- METER_SILENCE_EXPIRY: the mode becomes HOLD, the history is emptied, and one HOLD pass is taken (R4). -/
def execMeterSilenceExpiry (s : State) : Outcome :=
  carried (if s.budget.meterDeadline.isSome then
    ({ s with budget := { s.budget with mode := .hold, history := [], meterDeadline := none } } : State).send .pass
  else s)

/-- HOLD_OFF_EXPIRY: the expiry time is removed and one pass is taken (R9). -/
def execHoldOffExpiry (slot : Fin 52) (s : State) : Outcome :=
  carried (if s.budget.slots[slot].holdOffEnds.isSome then
    (s.onSlot slot fun k => { k with holdOffEnds := none }).send .pass
  else s)

end Sys2Proof.Machine
end

