-- ==== Sys2Proof/Machine/ChimeCommands.lean ====
section
/-! DEFINITION. The commands of the Chime Unit (section 6.4). -/

namespace Sys2Proof.Machine

/-! ## SET_PATTERN (R133) -/

/-- The notes of a pattern on the line: a pitch and a duration each (R182). -/
def noteBytes (notes : List Note) : List Byte := notes.flatMap fun n => u8 n.pitch ++ u16 n.duration

/-- The reply of SET_PATTERN: the pattern number, the loop flag and the notes (R133). -/
def patternReply (tag : Byte) (k : Fin 8) (s : State) : State :=
  let p := s.config.patterns[k]
  s.reply 0x35 tag .ok (u8 k.val ++ flag p.loop ++ u8 p.notes.length ++ noteBytes p.notes)

/-- A pattern as stored, each duration clamped into 10..2000, when it has 1..8 notes with pitch indexes up to 96 (R133). -/
def storedPattern (loop : Nat) (notes : List (Nat × Nat)) : Option Pattern :=
  if notes = [] ∨ 8 < notes.length ∨ notes.any (fun n => decide (96 < n.1)) then none
  else some { loop := flagOf loop, notes := notes.map fun n => ⟨n.1, clampInto 10 2000 n.2⟩ }

/-- SET_PATTERN: RANGE for a pattern above 7; the write form is BUSY during a save, RANGE for its notes, and else replaces
the pattern whole; the read form reads it (R133). -/
def takeSetPattern (tag : Byte) (pattern : Nat) (record : Option (Nat × List (Nat × Nat))) (s : State) : State :=
  match indexOf 8 pattern with
  | none => s.refuse 0x35 tag .range
  | some k =>
    match record with
    | none => patternReply tag k s
    | some (loop, notes) =>
      if s.isSaving then s.refuse 0x35 tag .busy
      else
        match storedPattern loop notes with
        | none => s.refuse 0x35 tag .range
        | some p => patternReply tag k { s with config := { s.config with patterns := s.config.patterns.set k p } }

/-- SET_PATTERN as a command. -/
def execSetPattern (tag : Byte) (pattern : Nat) (record : Option (Nat × List (Nat × Nat))) (s : State) : Outcome :=
  carried (takeSetPattern tag pattern record s)

/-! ## CHIME (R137) -/

/-- A PLAY request as a notice, when its pattern, its zones and its repeat count lie in range (R137). -/
def storedNotice (pattern repeats : Nat) (zones : List Nat) : Option Notice :=
  if zones.any (fun z => decide (23 < z)) ∨ 24 < zones.length ∨ repeats = 0 ∨ 8 < repeats then none
  else (indexOf 8 pattern).map fun k => { pattern := k, zones := sortZones zones, repeats, played := 0 }

/-- CHIME with PLAY: RANGE, then FULL in a queue of 4; else the notice joins as the newest (R137). -/
def takeChimePlay (tag : Byte) (pattern repeats : Nat) (zones : List Nat) (s : State) : State :=
  match storedNotice pattern repeats zones with
  | none => s.refuse 0x36 tag .range
  | some n =>
    if noticeCapacity ≤ s.chime.notices.length then s.refuse 0x36 tag .full
    else
      let t := s.joinNotice n
      t.reply 0x36 tag .ok (u8 s.chime.notices.length ++ u8 t.chime.notices.length)

/-- CHIME with PLAY as a command. -/
def execChimePlay (tag : Byte) (pattern repeats : Nat) (zones : List Nat) (s : State) : Outcome :=
  carried (takeChimePlay tag pattern repeats zones s)

/-- CHIME with STOP: the current notice is stopped, and the count after it is answered (R137). -/
def takeChimeStop (tag : Byte) (s : State) : State :=
  let t := s.stopNotice
  t.reply 0x36 tag .ok (u8 t.chime.notices.length)

/-- CHIME with STOP as a command. -/
def execChimeStop (tag : Byte) (s : State) : Outcome := carried (takeChimeStop tag s)

/-- CHIME with CLEAR: every notice leaves the queue, and the number removed is answered (R137). -/
def takeChimeClear (tag : Byte) (s : State) : State :=
  (s.playNotices []).reply 0x36 tag .ok (u8 s.chime.notices.length)

/-- CHIME with CLEAR as a command. -/
def execChimeClear (tag : Byte) (s : State) : Outcome := carried (takeChimeClear tag s)

/-! ## Note ends -/

/-- MOTION_NOTE_END: the axis's motion lane starts its next note (R134). -/
def execMotionNoteEnd (axis : Axis) (s : State) : Outcome := carried (motionNote axis s)

/-- NOTICE_NOTE_END: the notice lane starts its next note, or its notice ends (R135). -/
def execNoticeNoteEnd (s : State) : Outcome := carried (noticeNote s)

end Sys2Proof.Machine
end

