-- ==== Sys2Proof/Machine/CueCommands.lean ====
section
/-! DEFINITION. The commands of the Cue Unit (sections 3.1, 3.3 and 3.6). -/

namespace Sys2Proof.Machine

/-! ## Scenes (R50, R51) -/

/-- The reply of STORE_SCENE: the scene number and the record (R50). -/
def sceneReply (tag : Byte) (k : Fin 32) (s : State) : State :=
  s.reply 0x28 tag .ok (u8 k.val ++ s.config.scenes[k].bytes)

/-- STORE_SCENE: RANGE for a scene above 31; the write form is BUSY during a save, and else replaces the record whole; the
read form reads it (R50). -/
def takeStoreScene (tag : Byte) (scene : Nat) (record : Option SceneFields) (s : State) : State :=
  match indexOf 32 scene with
  | none => s.refuse 0x28 tag .range
  | some k =>
    match record with
    | none => sceneReply tag k s
    | some f =>
      if s.isSaving then s.refuse 0x28 tag .busy
      else sceneReply tag k { s with config := { s.config with scenes := s.config.scenes.set k (storedScene f) } }

/-- STORE_SCENE as a command. -/
def execStoreScene (tag : Byte) (scene : Nat) (record : Option SceneFields) (s : State) : Outcome :=
  carried (takeStoreScene tag scene record s)

/-- RECALL_SCENE: one scene recall of the zone, answered with its targets, mode and setpoint (R51). -/
def takeRecallScene (tag : Byte) (zone scene : Nat) (s : State) : State :=
  match indexOf 24 zone, indexOf 32 scene with
  | some z, some k =>
    let t := settle (recallScene z k s)
    let r := t.zones[z]
    t.reply 0x29 tag .ok (u8 z.val ++ u8 k.val ++ r.channels.toList.flatMap (fun c => u16 c.target)
      ++ u8 r.mode.code ++ u16 r.setpoint)
  | _, _ => s.refuse 0x29 tag .range

/-- RECALL_SCENE as a command. -/
def execRecallScene (tag : Byte) (zone scene : Nat) (s : State) : Outcome := carried (takeRecallScene tag zone scene s)

/-! ## The staging list (R55 to R57) -/

/-- An entry replaces the entry of its pair, or is appended (R55). -/
def stage (e : CueEntry) (entries : List CueEntry) : List CueEntry :=
  if entries.any e.matches then entries.map fun x => if e.matches x then e else x else entries ++ [e]

/-- CUE_ADD: BUSY while PENDING, RANGE, FULL for a new pair in a full list; else the entry is stored (R55). -/
def takeCueAdd (tag : Byte) (f : CueFields) (s : State) : State :=
  if s.cue.commit.isSome then s.refuse 0x2B tag .busy
  else
    match storedEntry f with
    | none => s.refuse 0x2B tag .range
    | some e =>
      let old := s.cue.entries
      let replaces := old.any e.matches
      if !replaces && decide (cueCapacity ≤ old.length) then s.refuse 0x2B tag .full
      else
        let new := stage e old
        ({ s with cue := { s.cue with entries := new } } : State).reply 0x2B tag .ok
          (u8 (new.findIdx e.matches) ++ flag replaces ++ u8 new.length ++ e.bytes)

/-- CUE_ADD as a command. -/
def execCueAdd (tag : Byte) (entry : CueFields) (s : State) : Outcome := carried (takeCueAdd tag entry s)

/-- CUE_CLEAR: BUSY while PENDING; else every entry is removed and the number is answered (R56). -/
def takeCueClear (tag : Byte) (s : State) : State :=
  if s.cue.commit.isSome then s.refuse 0x2A tag .busy
  else ({ s with cue := { s.cue with entries := [] } } : State).reply 0x2A tag .ok (u8 s.cue.entries.length)

/-- CUE_CLEAR as a command. -/
def execCueClear (tag : Byte) (s : State) : Outcome := carried (takeCueClear tag s)

/-- The commit state becomes PENDING; the cap timer starts for AFTER_FADES (R57). -/
def commitCue (mode : CommitMode) (s : State) : State :=
  { s with cue := { s.cue with
      commit := some mode, framesWaited := 0, lateDue := false,
      capDeadline := match mode with
        | .atFrame => none
        | .afterFades => s.ends capTime } }

/-- CUE_COMMIT: BUSY while PENDING, RANGE for a mode above 1; else the staged cue is pending (R57). -/
def takeCueCommit (tag : Byte) (mode : Nat) (s : State) : State :=
  if s.cue.commit.isSome then s.refuse 0x2C tag .busy
  else
    match commitModeOf mode with
    | none => s.refuse 0x2C tag .range
    | some m => (commitCue m s).reply 0x2C tag .ok (u8 m.code ++ u8 s.cue.entries.length)

/-- CUE_COMMIT as a command. -/
def execCueCommit (tag : Byte) (mode : Nat) (s : State) : Outcome := carried (takeCueCommit tag mode s)

/-! ## Status and the cap timer (R59, R63) -/

/-- The summary form of the CUE_STATUS reply (R63). -/
def State.cueSummary (s : State) : List Byte :=
  flag s.cue.commit.isSome ++ orMarker 1 (fun m : CommitMode => u8 m.code) s.cue.commit ++ u8 s.cue.entries.length
    ++ u16 s.cue.framesWaited ++ flag s.cue.lateDue ++ orMarker 4 u32 (s.timeLeft s.cue.capDeadline)

/-- CUE_STATUS reads and changes nothing; a position at or above the count is RANGE (R63). -/
def takeCueStatus (tag : Byte) (position : Option Nat) (s : State) : State :=
  match position with
  | none => s.reply 0x2D tag .ok s.cueSummary
  | some p =>
    match s.cue.entries[p]? with
    | none => s.refuse 0x2D tag .range
    | some e => s.reply 0x2D tag .ok (u8 p ++ e.bytes)

/-- CUE_STATUS as a command. -/
def execCueStatus (tag : Byte) (position : Option Nat) (s : State) : Outcome := carried (takeCueStatus tag position s)

/-- CAP_TIMER_EXPIRY: late due is set (R59). -/
def execCapTimerExpiry (s : State) : Outcome :=
  carried (if s.cue.capDeadline.isSome then { s with cue := { s.cue with lateDue := true, capDeadline := none } } else s)

end Sys2Proof.Machine
end

