-- ==== Sys2Proof/Machine/InterlockCommands.lean ====
section
/-! DEFINITION. The commands of the Interlock Evaluator (section 6.1) but for the anchor-home switch, which the windlass
also counts from. -/

namespace Sys2Proof.Machine

/-! ## SET_INTERLOCK (R124, R125) -/

/-- A term list on the line (R182). -/
def termBytes (terms : List Term) : List Byte := terms.flatMap fun t => u8 t.test.val ++ flag t.invert

/-- The reply of SET_INTERLOCK for axes 0 to 2 (R124). -/
def interlockReply (tag : Byte) (a : Axis) (d : Direction) (s : State) : State :=
  let terms := (s.config.interlocks.get a).get d
  s.reply 0x33 tag .ok (u8 (axisNumber a) ++ u8 d.code ++ u8 terms.length
    ++ terms.flatMap (fun t => u8 t.test.val ++ flag t.invert ++ u8 (s.test t.test).code) ++ flag (s.permit a d))

/-- The terms as stored, when there are at most 4 and every test number is at most 15 (R124). -/
def storedTerms (terms : List (Nat × Nat)) : Option (List Term) :=
  if 4 < terms.length then none
  else terms.mapM fun t => (indexOf 16 t.1).map fun k => { test := k, invert := flagOf t.2 }

/-- A term list is replaced whole, and the permits are worked out again (R123, R124). -/
def storeTerms (a : Axis) (d : Direction) (terms : List Term) (s : State) : State :=
  ({ s with config := { s.config with
      interlocks := s.config.interlocks.set a ((s.config.interlocks.get a).set d terms) } } : State).send
    .evaluatePermits

/-- SET_INTERLOCK for axes 0 to 2: RANGE for an axis above 3 or a direction above 1, then in the write form BUSY during a
save or while the axis is not IDLE, and RANGE for too many terms or a test above 15 (R124). -/
def takeSetInterlock (tag : Byte) (axis direction : Nat) (terms : Option (List (Nat × Nat))) (s : State) : State :=
  match axisOf axis, directionOf direction with
  | some a, some d =>
    match terms with
    | none => interlockReply tag a d s
    | some l =>
      if s.isSaving || decide ((s.axis a).state ≠ .idle) then s.refuse 0x33 tag .busy
      else
        match storedTerms l with
        | none => s.refuse 0x33 tag .range
        | some ts => interlockReply tag a d (storeTerms a d ts s)
  | _, _ => s.refuse 0x33 tag .range

/-- SET_INTERLOCK for axes 0 to 2 as a command. -/
def execSetInterlock (tag : Byte) (axis direction : Nat) (terms : Option (List (Nat × Nat))) (s : State) : Outcome :=
  carried (takeSetInterlock tag axis direction terms s)

/-- The reply of the common form (R125): the settings, the pump, and the vessel data with its age in seconds. A part of a second
is dropped, and the ageing timer of R122 is not sent: DESIGN CHOICE, log entries 48 and 52. -/
def commonReply (tag : Byte) (s : State) : State :=
  let v := s.vessel
  s.reply 0x33 tag .ok (u16 s.config.speedLimit ++ u16 s.config.pumpRating ++ hydraulicByte s.pump.owner
    ++ hydraulicByte s.pump.waiting ++ (if s.pump.run then flag true else marker 1) ++ u16 v.speed ++ flag v.shore
    ++ flag v.flagA ++ flag v.flagB ++ u8 v.state.code
    ++ orMarker 4 (fun ms => u32 (min 65535 (ms / 1000))) (s.age v.setAt))

/-- A pump with an owner has the pump rating posted to slot 48 (R125, R128). -/
def State.postRating (s : State) : State :=
  if s.pump.owner.isSome then s.send (.post pumpSlot s.config.pumpRating) else s

/-- The common settings are stored with their clamps, the permits are worked out again, and a pump that then has an owner has
the new rating posted at once (R125). R125 does not order the two effects: that the permits come first is the model's choice
(log entry 31). A rating above slot 48's cap is delivered only when the grant changes (log entry 32). -/
def storeCommon (speedLimit rating : Nat) (s : State) : State :=
  let t : State :=
    { s with config := { s.config with speedLimit := min speedLimit 500, pumpRating := min rating 4000 } }
  (t.send .evaluatePermits).postRating

/-- SET_INTERLOCK with axis number 3: the write form is BUSY during a save (R125). -/
def takeSetInterlockCommon (tag : Byte) (settings : Option (Nat × Nat)) (s : State) : State :=
  match settings with
  | none => commonReply tag s
  | some c => if s.isSaving then s.refuse 0x33 tag .busy else commonReply tag (storeCommon c.1 c.2 s)

/-- SET_INTERLOCK with axis number 3 as a command. -/
def execSetInterlockCommon (tag : Byte) (settings : Option (Nat × Nat)) (s : State) : Outcome :=
  carried (takeSetInterlockCommon tag settings s)

/-! ## Vessel data (R122, R126) -/

/-- Fresh vessel data (R122, R126). -/
def freshVessel (speed shore flagA flagB : Nat) (s : State) : Vessel :=
  { speed := min speed 500, shore := flagOf shore, flagA := flagOf flagA, flagB := flagOf flagB, state := .fresh,
    setAt := some s.now, ageDeadline := s.ends vesselTime }

/-- SET_VESSEL: the record is FRESH, and the permits are worked out again (R126). -/
def takeSetVessel (tag : Byte) (speed shore flagA flagB : Nat) (s : State) : State :=
  let t := ({ s with vessel := freshVessel speed shore flagA flagB s } : State).send .evaluatePermits
  t.reply 0x34 tag .ok (u16 t.vessel.speed ++ flag t.vessel.shore ++ flag t.vessel.flagA ++ flag t.vessel.flagB)

/-- SET_VESSEL as a command. -/
def execSetVessel (tag : Byte) (speed shore flagA flagB : Nat) (s : State) : Outcome :=
  carried (takeSetVessel tag speed shore flagA flagB s)

/-- VESSEL_AGEING_EXPIRY: the data is OLD, and the permits are worked out again (R122). -/
def execVesselAgeingExpiry (s : State) : Outcome :=
  carried (if s.vessel.ageDeadline.isSome then
    ({ s with vessel := { s.vessel with state := .old, ageDeadline := none } } : State).send .evaluatePermits
  else s)

/-! ## The field inputs (R119) -/

/-- A new level of one field input (R119). -/
def putInput (i : Inputs) (active : Bool) : FieldInput → Inputs
  | .hatchLatch => { i with hatchLatch := active }
  | .garageClear => { i with garageClear := active }
  | .platformClear => { i with platformClear := active }
  | .anchorClear => { i with anchorClear := active }
  | .helmEnable => { i with helmEnable := active }
  | .pumpPressure => { i with pumpPressure := active }

/-- FIELD_INPUT_CHANGE: the level is stored, and the permits are worked out again (R119, R123). -/
def execFieldInputChange (input : FieldInput) (active : Bool) (s : State) : Outcome :=
  carried (({ s with inputs := putInput s.inputs active input } : State).send .evaluatePermits)

end Sys2Proof.Machine
end

