-- ==== Sys2Proof/Machine/ProgramCommands.lean ====
section
/-! DEFINITION. The commands of the Program Table (chapter 5). -/

namespace Sys2Proof.Machine

/-- A context's state byte. -/
def State.contextByte (s : State) (c : Fin 16) : List Byte := u8 s.contexts[c].state.code

/-- The position of a context in its axis's queue, 0 at the head. -/
def State.place (s : State) (c : Fin 16) : Option Nat := s.contexts[c].axis.map fun a => positionIn c (s.queue a)

/-! ## OPEN_PROGRAM (R97) -/

/-- OPEN_PROGRAM: RANGE, then STATE for a context that is not FREE; else the context is bound to the axis for LINK (R97). -/
def takeOpenProgram (tag : Byte) (context axis : Nat) (s : State) : State :=
  match indexOf 16 context, axisOf axis with
  | some c, some a =>
    if s.contexts[c].state ≠ .free then s.refuse 0x38 tag .state
    else
      let t := s.bind c .link a
      t.reply 0x38 tag .ok (u8 c.val ++ u8 (axisNumber a) ++ t.contextByte c ++ u8 (positionIn c (t.queue a)))
  | _, _ => s.refuse 0x38 tag .range

/-- OPEN_PROGRAM as a command. -/
def execOpenProgram (tag : Byte) (context axis : Nat) (s : State) : Outcome :=
  carried (takeOpenProgram tag context axis s)

/-! ## PROGRAM_STEP (R98) -/

/-- The fields of a PROGRAM_STEP reply after the result code (R98). -/
def State.stepReplyBytes (s : State) (c : Fin 16) : List Byte :=
  let x := s.contexts[c]
  u8 c.val ++ u8 x.state.code ++ u8 x.admission.code ++ u8 x.leg ++ u16 x.expectedSeq ++ position x.expectedStart
    ++ u8 x.steps.length

/-- PROGRAM_STEP: RANGE for a context above 15; else the highest failing check is answered, or the step is admitted
(R98). -/
def takeProgramStep (tag : Byte) (context : Nat) (f : StepFields) (s : State) : State :=
  match indexOf 16 context with
  | none => s.reply 0x39 tag .range (u8 context)
  | some c =>
    match s.offer c f with
    | .refuse result => s.reply 0x39 tag result (s.stepReplyBytes c)
    | .broken =>
      let t := settle (breakAdmission c s)
      t.reply 0x39 tag .order (t.stepReplyBytes c)
    | .accept step =>
      let t := settle (admitStep c step s)
      t.reply 0x39 tag .ok (t.stepReplyBytes c)

/-- PROGRAM_STEP as a command. -/
def execProgramStep (tag : Byte) (context : Nat) (step : StepFields) (s : State) : Outcome :=
  carried (takeProgramStep tag context step s)

/-! ## CANCEL_PROGRAM (R104 to R106) -/

/-- CANCEL_PROGRAM with the given effect: RANGE for a context above 15, then STATE for a FREE context (R104). -/
def takeCancel (mode : Nat) (cancel : Fin 16 → State → Handled) (tag : Byte) (context : Nat) (s : State) : State :=
  match indexOf 16 context with
  | none => s.refuse 0x3A tag .range
  | some c =>
    if s.contexts[c].state = .free then s.refuse 0x3A tag .state
    else
      let t := settle (cancel c s)
      t.reply 0x3A tag .ok (u8 c.val ++ u8 mode ++ t.contextByte c)

/-- CANCEL_PROGRAM with AT_BOUNDARY (R105). -/
def takeCancelAtBoundary (tag : Byte) (context : Nat) (s : State) : State := takeCancel 0 cancelBoundary tag context s

/-- CANCEL_PROGRAM with AT_BOUNDARY as a command. -/
def execCancelAtBoundary (tag : Byte) (context : Nat) (s : State) : Outcome :=
  carried (takeCancelAtBoundary tag context s)

/-- CANCEL_PROGRAM with IMMEDIATE (R106). -/
def takeCancelImmediate (tag : Byte) (context : Nat) (s : State) : State := takeCancel 1 cancelNow tag context s

/-- CANCEL_PROGRAM with IMMEDIATE as a command. -/
def execCancelImmediate (tag : Byte) (context : Nat) (s : State) : Outcome :=
  carried (takeCancelImmediate tag context s)

/-! ## PAUSE_PROGRAM and RESUME_PROGRAM (R108, R109) -/

/-- The axis whose head is this context while it is ACTIVE or CLOSING. -/
def State.headAxis (s : State) (c : Fin 16) : Option Axis :=
  match s.contexts[c].state with
  | .active => s.contexts[c].axis
  | .closing => s.contexts[c].axis
  | .free => none
  | .queued => none

/-- The reply of a pause or a resume: context, axis and hold set (R108, R109). -/
def holdReply (kind tag : Byte) (c : Fin 16) (a : Axis) (s : State) : State :=
  s.reply kind tag .ok (u8 c.val ++ u8 (axisNumber a) ++ (s.axis a).holds.byte)

/-- PAUSE_PROGRAM: RANGE, STATE for a FREE or QUEUED context, STATE where the axis takes no reason; else LINK_PAUSE is added
(R108). -/
def takePauseProgram (tag : Byte) (context : Nat) (s : State) : State :=
  match indexOf 16 context with
  | none => s.refuse 0x3B tag .range
  | some c =>
    match s.headAxis c with
    | none => s.refuse 0x3B tag .state
    | some a =>
      if (s.axis a).takesReason then holdReply 0x3B tag c a (s.send (.addHold a .linkPause))
      else s.refuse 0x3B tag .state

/-- PAUSE_PROGRAM as a command. -/
def execPauseProgram (tag : Byte) (context : Nat) (s : State) : Outcome := carried (takePauseProgram tag context s)

/-- LINK_PAUSE and LINK_SILENT leave the hold set of an axis together, as one removal (R109, R80). -/
def resumeHolds (a : Axis) (s : State) : Handled :=
  let r := s.axis a
  let holds := (r.holds.put .linkPause false).put .linkSilent false
  if holds = r.holds then (s, [])
  else
    let t := (s.onAxis a fun r => { r with holds }).reportAxis a
    if holds = noHolds then
      match r.state with
      | .hold => enterPreparing a t
      | .preparing => (t, [.testGates a])
      | _ => (t, [])
    else (t, [])

/-- RESUME_PROGRAM: RANGE, STATE for a FREE or QUEUED context; else LINK_PAUSE and LINK_SILENT are removed (R109). -/
def takeResumeProgram (tag : Byte) (context : Nat) (s : State) : State :=
  match indexOf 16 context with
  | none => s.refuse 0x3C tag .range
  | some c =>
    match s.headAxis c with
    | none => s.refuse 0x3C tag .state
    | some a => holdReply 0x3C tag c a (settle (resumeHolds a s))

/-- RESUME_PROGRAM as a command. -/
def execResumeProgram (tag : Byte) (context : Nat) (s : State) : Outcome := carried (takeResumeProgram tag context s)

/-! ## GET_PROGRAM (R116) -/

/-- An owner byte, or its marker. -/
def ownerByte (o : Option Owner) : List Byte := orMarker 1 (fun x : Owner => u8 x.code) o

/-- The summary form of the GET_PROGRAM reply (R116). -/
def State.programSummary (s : State) : List Byte :=
  s.contexts.toList.flatMap (fun x => u8 x.state.code ++ ownerByte x.owner ++ axisByte x.axis)
    ++ allAxes.flatMap fun a => u8 (s.queue a).length ++ (s.queue a).flatMap fun c => u8 c.val

/-- The current step of a context: that of its axis record while the context is the head (R95). -/
def State.currentOf (s : State) (c : Fin 16) : Option Step :=
  s.contexts[c].axis.bind fun a => (s.axis a).current.bind fun t => if t.context = c then some t.step else none

/-- The context form of the GET_PROGRAM reply; a FREE context has markers in every field but its state
(R116). -/
def State.programBytes (s : State) (c : Fin 16) : List Byte :=
  let x := s.contexts[c]
  if x.state = .free then
    marker 1 ++ u8 x.state.code ++ marker 1 ++ marker 1 ++ marker 1 ++ marker 1 ++ marker 1 ++ marker 2
      ++ positionMarker ++ marker 1 ++ marker 1 ++ marker 15 ++ marker 2 ++ marker 4
  else
    u8 c.val ++ u8 x.state.code ++ ownerByte x.owner ++ axisByte x.axis ++ orMarker 1 u8 (s.place c)
      ++ u8 x.admission.code ++ u8 x.leg ++ u16 x.expectedSeq ++ position x.expectedStart ++ flag x.firstAdmitted
      ++ u8 x.steps.length ++ x.steps.flatMap Step.bytes ++ orMarker 15 Step.bytes (s.currentOf c) ++ u16 x.executed
      ++ orMarker 4 u32 (s.timeLeft x.starveDeadline)

/-- GET_PROGRAM reads and changes nothing (R116). -/
def takeGetProgram (tag : Byte) (context : Option Nat) (s : State) : State :=
  match context with
  | none => s.reply 0x3D tag .ok s.programSummary
  | some n =>
    match indexOf 16 n with
    | none => s.refuse 0x3D tag .range
    | some c => s.reply 0x3D tag .ok (s.programBytes c)

/-- GET_PROGRAM as a command. -/
def execGetProgram (tag : Byte) (context : Option Nat) (s : State) : Outcome := carried (takeGetProgram tag context s)

/-! ## Starvation (R111) -/

/-- STARVATION_TIMER_EXPIRY: the program ends STARVED (R111). -/
def execStarvationTimerExpiry (context : Fin 16) (s : State) : Outcome :=
  carried (if s.contexts[context].starveDeadline.isSome then s.send (.endProgram context .starved) else s)

end Sys2Proof.Machine
end

