-- ==== Sys2Proof/Machine/Fields.lean ====
section
/-! DEFINITION. The fields of the longer requests, read from and written to their bytes (R182, section Byte layouts). The
stored image carries the same fields in the same form (R183). -/

namespace Sys2Proof.Machine

/-- Optional levels: bits 0..3 of a presence byte say which of four numbers of two bytes are present. -/
def levelsAt (b : List Byte) (presence off : Nat) : Vector (Option Nat) 4 :=
  Vector.ofFn fun i : Fin 4 => if bitAt b presence i.val then some (natAt b (off + 2 * i.val) 2) else none

/-- The fields of SET_ZONE, 18 bytes. -/
def zoneFieldsAt (b : List Byte) : ZoneFields :=
  { rated := Vector.ofFn fun i : Fin 4 => natAt b (2 * i.val) 2, fan := natAt b 8 2, stage1 := natAt b 10 2,
    stage2 := natAt b 12 2, crewOnly := natAt b 14 1, passage := natAt b 15 1, volume := natAt b 16 1,
    startScene := natAt b 17 1 }

/-- A scene record, 14 bytes; an absent field is read as absent. -/
def sceneFieldsAt (b : List Byte) : SceneFields :=
  { levels := levelsAt b 0 1, fade := natAt b 9 2, setpoint := if bitAt b 0 4 then some (natAt b 11 2) else none,
    mode := if bitAt b 0 5 then some (natAt b 13 1) else none }

/-- A cue entry, 15 bytes; fields that the kind does not read are ignored. -/
def cueFieldsAt (b : List Byte) : CueFields :=
  let kind := natAt b 1 1
  let levels := decide (kind = 1)
  { zone := natAt b 0 1, kind, levels := if levels then levelsAt b 2 3 else Vector.replicate 4 none,
    fade := if levels then natAt b 11 2 else 0, value := if levels || decide (3 < kind) then 0 else natAt b 13 2 }

/-- The zone numbers of a list of `n` bytes. -/
def zonesAt (b : List Byte) (off n : Nat) : List Nat := ((b.drop off).take n).map (·.toNat)

/-- The fields of SET_AXIS after the axis number, 32 bytes and the zone list. -/
def axisFieldsAt (b : List Byte) : AxisFields :=
  { presets := Vector.ofFn fun i : Fin 4 => intAt b (4 * i.val), warnTime := natAt b 16 2,
    prepareTimeout := natAt b 18 1, warnPattern := natAt b 19 1, deckLevel := natAt b 20 2, maxRode := natAt b 22 4,
    pulses := natAt b 26 1, chain := natAt b 27 2, rating := natAt b 29 2, warnZones := zonesAt b 32 (natAt b 31 1) }

/-- A step record, 15 bytes. -/
def stepFieldsAt (b : List Byte) : StepFields :=
  { first := bitAt b 0 0, legStart := bitAt b 0 1, final := bitAt b 0 2, leg := natAt b 1 1, seq := natAt b 2 2,
    start := intAt b 4, target := intAt b 8, speed := if bitAt b 0 6 then some (natAt b 12 1) else none,
    dwell := if bitAt b 0 7 then some (natAt b 13 2) else none }

/-- Pairs of numbers of one byte, as an interlock's terms. -/
def pairsAt (b : List Byte) (off n : Nat) : List (Nat × Nat) :=
  (List.range n).map fun i => (natAt b (off + 2 * i) 1, natAt b (off + 2 * i + 1) 1)

/-- Notes: a pitch of one byte and a duration of two. -/
def notesAt (b : List Byte) (off n : Nat) : List (Nat × Nat) :=
  (List.range n).map fun i => (natAt b (off + 3 * i) 1, natAt b (off + 3 * i + 1) 2)

/-- The fields of SET_PANEL after the panel number, 38 bytes. -/
def panelFieldsAt (b : List Byte) : PanelFields :=
  { cls := natAt b 0 1, home := natAt b 1 1, base := natAt b 2 1, limit := natAt b 3 1,
    permissions := Vector.ofFn fun i : Fin 3 => natAt b (4 + i.val) 1, oversample := natAt b 7 1,
    threshold := natAt b 8 2, coefficients := Vector.ofFn fun i : Fin 6 => intAt b (10 + 4 * i.val),
    width := natAt b 34 2, height := natAt b 36 2 }

/-- A tag map entry, 9 bytes. -/
def tagFieldsAt (b : List Byte) : TagFields :=
  { x0 := natAt b 0 2, y0 := natAt b 2 2, x1 := natAt b 4 2, y1 := natAt b 6 2, tag := natAt b 8 1 }

/-- A binding record, 7 bytes. -/
def bindingFieldsAt (b : List Byte) : BindingFields :=
  { kind := natAt b 0 1, target := natAt b 1 1, argument := natAt b 2 2, axis := natAt b 4 1, preset := natAt b 5 1,
    holdToRun := natAt b 6 1 }

/-! ## Writing the fields -/

/-- The bytes of optional levels: an absent one is sent as 0. -/
def levelFieldBytes (levels : Vector (Option Nat) 4) : List Byte := levels.toList.flatMap fun l => u16 (l.getD 0)

/-- The presence flags of optional levels. -/
def presence (levels : Vector (Option Nat) 4) : List Bool := levels.toList.map (·.isSome)

/-- The fields of SET_ZONE in bytes. -/
def ZoneFields.bytes (f : ZoneFields) : List Byte :=
  f.rated.toList.flatMap u16 ++ u16 f.fan ++ u16 f.stage1 ++ u16 f.stage2 ++ u8 f.crewOnly ++ u8 f.passage
    ++ u8 f.volume ++ u8 f.startScene

/-- A scene record in bytes. -/
def SceneFields.bytes (f : SceneFields) : List Byte :=
  bits (presence f.levels ++ [f.setpoint.isSome, f.mode.isSome]) ++ levelFieldBytes f.levels ++ u16 f.fade
    ++ u16 (f.setpoint.getD 0) ++ u8 (f.mode.getD 0)

/-- A cue entry in bytes. -/
def CueFields.bytes (f : CueFields) : List Byte :=
  u8 f.zone ++ u8 f.kind ++ bits (presence f.levels) ++ levelFieldBytes f.levels ++ u16 f.fade ++ u16 f.value

/-- The fields of SET_AXIS in bytes. -/
def AxisFields.bytes (f : AxisFields) : List Byte :=
  f.presets.toList.flatMap i32 ++ u16 f.warnTime ++ u8 f.prepareTimeout ++ u8 f.warnPattern ++ u16 f.deckLevel
    ++ u32 f.maxRode ++ u8 f.pulses ++ u16 f.chain ++ u16 f.rating ++ u8 f.warnZones.length ++ f.warnZones.flatMap u8

/-- A step record in bytes. -/
def StepFields.bytes (f : StepFields) : List Byte :=
  bits [f.first, f.legStart, f.final, false, false, false, f.speed.isSome, f.dwell.isSome] ++ u8 f.leg ++ u16 f.seq
    ++ i32 f.start ++ i32 f.target ++ u8 (f.speed.getD 0) ++ u16 (f.dwell.getD 0)

/-- The fields of SET_PANEL in bytes. -/
def PanelFields.bytes (f : PanelFields) : List Byte :=
  u8 f.cls ++ u8 f.home ++ u8 f.base ++ u8 f.limit ++ f.permissions.toList.flatMap u8 ++ u8 f.oversample
    ++ u16 f.threshold ++ f.coefficients.toList.flatMap i32 ++ u16 f.width ++ u16 f.height

/-- A tag map entry in bytes. -/
def TagFields.bytes (f : TagFields) : List Byte := u16 f.x0 ++ u16 f.y0 ++ u16 f.x1 ++ u16 f.y1 ++ u8 f.tag

/-- A binding record in bytes. -/
def BindingFields.bytes (f : BindingFields) : List Byte :=
  u8 f.kind ++ u8 f.target ++ u16 f.argument ++ u8 f.axis ++ u8 f.preset ++ u8 f.holdToRun

end Sys2Proof.Machine
end

