-- ==== Sys2Proof/WellFormed.lean ====
section
/-! DEFINITION. Well-formed commands: every operand fits the field that carries it (R182, section Byte layouts), and
a sample lies in the range its rule gives. A well-formed command may still be refused by its owner: the ranges that
the owners check are not checked here. -/

namespace Sys2Proof

/-- A number that one byte carries. -/
abbrev fits8 (n : Nat) : Bool := decide (n < 256)

/-- A number that two bytes carry. -/
abbrev fits16 (n : Nat) : Bool := decide (n < 65536)

/-- A number that four bytes carry. -/
abbrev fits32 (n : Nat) : Bool := decide (n < 4294967296)

/-- A signed number that four bytes carry in two's complement. -/
abbrev fitsSigned32 (z : Int) : Bool := decide (-2147483648 ≤ z ∧ z < 2147483648)

/-- The request kinds of R182. A kind byte outside this list is answered UNKNOWN (R170). -/
def requestKinds : List Byte :=
  [0x01, 0x02, 0x03, 0x04, 0x10, 0x11, 0x12, 0x13, 0x20, 0x21, 0x22, 0x23, 0x24, 0x28, 0x29, 0x2A, 0x2B, 0x2C, 0x2D,
   0x30, 0x31, 0x32, 0x33, 0x34, 0x35, 0x36, 0x38, 0x39, 0x3A, 0x3B, 0x3C, 0x3D, 0x40, 0x41, 0x42, 0x43, 0x50]

/-- The fields of SET_ZONE fit their widths. -/
def ZoneFields.wellFormed (f : ZoneFields) : Bool :=
  f.rated.toList.all (fits16 ·) && fits16 f.fan && fits16 f.stage1 && fits16 f.stage2 && fits8 f.crewOnly
    && fits8 f.passage && fits8 f.volume && fits8 f.startScene

/-- Optional levels that two bytes carry each. -/
def levelsFit (levels : Vector (Option Nat) 4) : Bool :=
  levels.toList.all fun l => l.all (fits16 ·)

/-- The fields of a scene record fit their widths. -/
def SceneFields.wellFormed (f : SceneFields) : Bool :=
  levelsFit f.levels && fits16 f.fade && f.setpoint.all (fits16 ·) && f.mode.all (fits8 ·)

/-- The fields of a cue entry fit their widths, and fields that the kind does not read are zero (R182 ignores them).
An entry of an unknown kind carries no field. -/
def CueFields.wellFormed (f : CueFields) : Bool :=
  fits8 f.zone && fits8 f.kind && fits16 f.fade && fits16 f.value && levelsFit f.levels
    && (f.kind == 1 || (f.levels == Vector.replicate 4 none && f.fade == 0)) && (f.kind != 1 || f.value == 0)
    && (f.kind ≤ 3 || f.value == 0)

/-- The fields of SET_AXIS fit their widths, and the zone list fits the payload (R167). -/
def AxisFields.wellFormed (f : AxisFields) : Bool :=
  f.presets.toList.all (fitsSigned32 ·) && fits16 f.warnTime && fits8 f.prepareTimeout && fits8 f.warnPattern
    && fits16 f.deckLevel && fits32 f.maxRode && fits8 f.pulses && fits16 f.chain && fits16 f.rating
    && decide (f.warnZones.length ≤ 207) && f.warnZones.all (fits8 ·)

/-- The fields of a step record fit their widths. -/
def StepFields.wellFormed (f : StepFields) : Bool :=
  fits8 f.leg && fits16 f.seq && fitsSigned32 f.start && fitsSigned32 f.target && f.speed.all (fits8 ·)
    && f.dwell.all (fits16 ·)

/-- The fields of SET_PANEL fit their widths. -/
def PanelFields.wellFormed (f : PanelFields) : Bool :=
  fits8 f.cls && fits8 f.home && fits8 f.base && fits8 f.limit && f.permissions.toList.all (fits8 ·)
    && fits8 f.oversample && fits16 f.threshold && f.coefficients.toList.all (fitsSigned32 ·) && fits16 f.width
    && fits16 f.height

/-- The fields of a tag map entry fit their widths. -/
def TagFields.wellFormed (f : TagFields) : Bool :=
  fits16 f.x0 && fits16 f.y0 && fits16 f.x1 && fits16 f.y1 && fits8 f.tag

/-- The fields of a binding record fit their widths. -/
def BindingFields.wellFormed (f : BindingFields) : Bool :=
  fits8 f.kind && fits8 f.target && fits16 f.argument && fits8 f.axis && fits8 f.preset && fits8 f.holdToRun

/-- What a panel port carries: three numbers of two bytes; numbers above 1023 are carried and discarded (R139). -/
def PanelFrame.wellFormed : PanelFrame → Bool
  | .touch x y z => fits16 x && fits16 y && fits16 z
  | .noTouch => true
  | .badCheck => true

/-- A command's operands fit the fields that carry them. -/
def Instr.wellFormed : Instr → Bool
  | .powerOn _ _ => true
  | .coldReset _ _ => true
  | .warmReset => true
  | .frameReceived bytes => !bytes.isEmpty
  | .byteGapExpiry => true
  | .unknownRequest _ kind => !requestKinds.contains kind
  | .frameSent => true
  | .linkSilenceExpiry => true
  | .getInfo _ => true
  | .getStatus _ => true
  | .reset _ kind => fits8 kind
  | .setLink _ length => fits16 length
  | .setSupply _ supply reserve => fits16 supply && fits8 reserve
  | .setSlot _ slot enabled priority cap dmin holdOff =>
    fits8 slot && fits8 enabled && fits8 priority && fits16 cap && fits16 dmin && fits16 holdOff
  | .setAuxDemand _ slot demand => fits8 slot && fits16 demand
  | .getBudget _ slot => slot.all (fits8 ·)
  | .baseLoadSample load => fits16 load
  | .meterSilenceExpiry => true
  | .holdOffExpiry _ => true
  | .setZone _ zone fields => fits8 zone && fields.wellFormed
  | .setLevels _ zone levels fade => fits8 zone && levelsFit levels && fits16 fade
  | .setSetpoint _ zone setpoint => fits8 zone && fits16 setpoint
  | .setMode _ zone mode => fits8 zone && fits8 mode
  | .getZone _ zone => fits8 zone
  | .outputFrame => true
  | .temperatureSample _ temperature => decide (-400 ≤ temperature ∧ temperature ≤ 1000)
  | .lossTimerExpiry _ => true
  | .storeScene _ scene record => fits8 scene && record.all (·.wellFormed)
  | .recallScene _ zone scene => fits8 zone && fits8 scene
  | .cueAdd _ entry => entry.wellFormed
  | .cueClear _ => true
  | .cueCommit _ mode => fits8 mode
  | .cueStatus _ position => position.all (fits8 ·)
  | .capTimerExpiry => true
  | .setAxis _ axis fields => fits8 axis && fields.wellFormed
  | .getAxis _ axis => fits8 axis
  | .ackFault _ axis => fits8 axis
  | .positionSample _ position => decide (-32768 ≤ position ∧ position ≤ 32767)
  | .staleTimerExpiry _ => true
  | .windlassPulse _ => true
  | .anchorHomeChange _ => true
  | .overloadInput _ => true
  | .warnTimeReached _ => true
  | .prepareTimerExpiry _ => true
  | .stallWindowExpiry _ => true
  | .dwellEnd _ => true
  | .stopTimerExpiry _ => true
  | .openProgram _ context axis => fits8 context && fits8 axis
  | .programStep _ context step => fits8 context && step.wellFormed
  | .cancelAtBoundary _ context => fits8 context
  | .cancelImmediate _ context => fits8 context
  | .pauseProgram _ context => fits8 context
  | .resumeProgram _ context => fits8 context
  | .getProgram _ context => context.all (fits8 ·)
  | .starvationTimerExpiry _ => true
  | .setInterlock _ axis direction terms =>
    fits8 axis && axis != 3 && fits8 direction
      && terms.all (fun l => decide (l.length ≤ 118) && l.all fun t => fits8 t.1 && fits8 t.2)
      && (axis ≤ 2 || (direction == 0 && terms.isNone))
  | .setInterlockCommon _ settings => settings.all fun s => fits16 s.1 && fits16 s.2
  | .setVessel _ speed shore flagA flagB => fits16 speed && fits8 shore && fits8 flagA && fits8 flagB
  | .fieldInputChange _ _ => true
  | .vesselAgeingExpiry => true
  | .setPattern _ pattern record =>
    fits8 pattern && record.all fun r => fits8 r.1 && decide (r.2.length ≤ 79)
      && r.2.all fun n => fits8 n.1 && fits16 n.2
  | .chimePlay _ pattern repeats zones =>
    fits8 pattern && fits8 repeats && decide (zones.length ≤ 236) && zones.all (fits8 ·)
  | .chimeStop _ => true
  | .chimeClear _ => true
  | .motionNoteEnd _ => true
  | .noticeNoteEnd => true
  | .setPanel _ panel record => fits8 panel && record.all (·.wellFormed)
  | .setTagmap _ panel entry record => fits8 panel && fits8 entry && record.wellFormed
  | .getPanel _ panel part => fits8 panel && fits8 part
  | .panelFrame _ frame => frame.wellFormed
  | .panelSilenceExpiry _ => true
  | .setBinding _ bound record => fits8 bound && record.all (·.wellFormed)
  | .releaseTimerExpiry _ => true
  | .saveConfig _ => true
  | .saveComplete _ => true
  | .saveTimerExpiry => true

end Sys2Proof
end

