-- ==== Sys2Proof/Machine/Requests.lean ====
section
/-! DEFINITION. The request kinds (R170, R182): the examination of a frame taken from the input buffer, and the frame of
each request. -/

namespace Sys2Proof.Machine

/-- What the Link Interface finds in a frame (R170): an unknown kind, a payload length that does not suit the kind, an
operation that its owner refuses RANGE at any length (R182), or a request. -/
inductive Examined where
  | unknown
  | length
  | range
  | request (i : Instr)
  deriving DecidableEq, Repr

/-- A request of one fixed payload length. -/
def ofLength (n : Nat) (p : List Byte) (i : Instr) : Examined := if p.length = n then .request i else .length

/-- A request with a read form and a write form of fixed lengths. -/
def ofForms {α : Type} (short long : Nat) (p : List Byte) (make : Option α → Instr) (write : α) : Examined :=
  if p.length = short then .request (make none)
  else if p.length = long then .request (make (some write))
  else .length

/-- SET_INTERLOCK takes its form from its first byte (R182). -/
def examineInterlock (tag : Byte) (p : List Byte) : Examined :=
  let axis := natAt p 0 1
  if p = [] then .length
  else if 3 < axis then .request (.setInterlock tag axis 0 none)
  else if axis = 3 then
    ofForms 1 5 p (fun w => .setInterlockCommon tag w) (natAt p 1 2, natAt p 3 2)
  else if p.length = 2 then .request (.setInterlock tag axis (natAt p 1 1) none)
  else if 3 ≤ p.length ∧ p.length = 3 + 2 * natAt p 2 1 then
    .request (.setInterlock tag axis (natAt p 1 1) (some (pairsAt p 3 (natAt p 2 1))))
  else .length

/-- CHIME takes its form from its operation byte (R182): PLAY, STOP, CLEAR, or an operation refused RANGE. -/
def examineChime (tag : Byte) (p : List Byte) : Examined :=
  if p = [] then .length
  else
    match natAt p 0 1 with
    | 0 =>
      if 4 ≤ p.length ∧ p.length = 4 + natAt p 3 1 then
        .request (.chimePlay tag (natAt p 1 1) (natAt p 2 1) (zonesAt p 4 (natAt p 3 1)))
      else .length
    | 1 => ofLength 1 p (.chimeStop tag)
    | 2 => ofLength 1 p (.chimeClear tag)
    | _ => .range

/-- CANCEL_PROGRAM takes its mode from its second byte: AT_BOUNDARY, IMMEDIATE, or a mode refused RANGE (R104). -/
def examineCancel (tag : Byte) (p : List Byte) : Examined :=
  match natAt p 1 1 with
  | 0 => ofLength 2 p (.cancelAtBoundary tag (natAt p 0 1))
  | 1 => ofLength 2 p (.cancelImmediate tag (natAt p 0 1))
  | _ => if p.length = 2 then .range else .length

/-- A request whose length follows from a count byte at an offset (R170). -/
def ofCount (base size off : Nat) (p : List Byte) (i : Instr) : Examined :=
  if off < p.length ∧ p.length = base + size * natAt p off 1 then .request i else .length

/-- The examination of a frame: its kind, then its length (R170, R182). -/
def examine (f : Frame) : Examined :=
  let p := f.payload
  let t := f.tag
  match f.kind.toNat with
  | 0x01 => ofLength 0 p (.getInfo t)
  | 0x02 => ofLength 0 p (.getStatus t)
  | 0x03 => ofLength 1 p (.reset t (natAt p 0 1))
  | 0x04 => ofLength 2 p (.setLink t (natAt p 0 2))
  | 0x10 => ofLength 3 p (.setSupply t (natAt p 0 2) (natAt p 2 1))
  | 0x11 => ofLength 9 p
      (.setSlot t (natAt p 0 1) (natAt p 1 1) (natAt p 2 1) (natAt p 3 2) (natAt p 5 2) (natAt p 7 2))
  | 0x12 => ofLength 3 p (.setAuxDemand t (natAt p 0 1) (natAt p 1 2))
  | 0x13 => ofForms 0 1 p (.getBudget t) (natAt p 0 1)
  | 0x20 => ofLength 19 p (.setZone t (natAt p 0 1) (zoneFieldsAt (p.drop 1)))
  | 0x21 => ofLength 12 p (.setLevels t (natAt p 0 1) (levelsAt p 1 2) (natAt p 10 2))
  | 0x22 => ofLength 3 p (.setSetpoint t (natAt p 0 1) (natAt p 1 2))
  | 0x23 => ofLength 2 p (.setMode t (natAt p 0 1) (natAt p 1 1))
  | 0x24 => ofLength 1 p (.getZone t (natAt p 0 1))
  | 0x28 => ofForms 1 15 p (.storeScene t (natAt p 0 1)) (sceneFieldsAt (p.drop 1))
  | 0x29 => ofLength 2 p (.recallScene t (natAt p 0 1) (natAt p 1 1))
  | 0x2A => ofLength 0 p (.cueClear t)
  | 0x2B => ofLength 15 p (.cueAdd t (cueFieldsAt p))
  | 0x2C => ofLength 1 p (.cueCommit t (natAt p 0 1))
  | 0x2D => ofForms 0 1 p (.cueStatus t) (natAt p 0 1)
  | 0x30 => ofCount 33 1 32 p (.setAxis t (natAt p 0 1) (axisFieldsAt (p.drop 1)))
  | 0x31 => ofLength 1 p (.getAxis t (natAt p 0 1))
  | 0x32 => ofLength 1 p (.ackFault t (natAt p 0 1))
  | 0x33 => examineInterlock t p
  | 0x34 => ofLength 5 p (.setVessel t (natAt p 0 2) (natAt p 2 1) (natAt p 3 1) (natAt p 4 1))
  | 0x35 =>
    if p.length = 1 then .request (.setPattern t (natAt p 0 1) none)
    else ofCount 3 3 2 p (.setPattern t (natAt p 0 1) (some (natAt p 1 1, notesAt p 3 (natAt p 2 1))))
  | 0x36 => examineChime t p
  | 0x38 => ofLength 2 p (.openProgram t (natAt p 0 1) (natAt p 1 1))
  | 0x39 => ofLength 16 p (.programStep t (natAt p 0 1) (stepFieldsAt (p.drop 1)))
  | 0x3A => examineCancel t p
  | 0x3B => ofLength 1 p (.pauseProgram t (natAt p 0 1))
  | 0x3C => ofLength 1 p (.resumeProgram t (natAt p 0 1))
  | 0x3D => ofForms 0 1 p (.getProgram t) (natAt p 0 1)
  | 0x40 => ofForms 1 39 p (.setPanel t (natAt p 0 1)) (panelFieldsAt (p.drop 1))
  | 0x41 => ofLength 11 p (.setTagmap t (natAt p 0 1) (natAt p 1 1) (tagFieldsAt (p.drop 2)))
  | 0x42 => ofForms 1 8 p (.setBinding t (natAt p 0 1)) (bindingFieldsAt (p.drop 1))
  | 0x43 => ofLength 2 p (.getPanel t (natAt p 0 1) (natAt p 1 1))
  | 0x50 => ofLength 0 p (.saveConfig t)
  | _ => .unknown

/-- An optional payload of one byte. -/
def optional8 (n : Option Nat) : List Byte := (n.map u8).getD []

/-- The frame of a request (R182); a command that is not a request has none. -/
def requestFrame : Instr → Option Frame
  | .getInfo t => some ⟨0x01, t, []⟩
  | .getStatus t => some ⟨0x02, t, []⟩
  | .reset t kind => some ⟨0x03, t, u8 kind⟩
  | .setLink t length => some ⟨0x04, t, u16 length⟩
  | .setSupply t supply reserve => some ⟨0x10, t, u16 supply ++ u8 reserve⟩
  | .setSlot t slot enabled priority cap dmin holdOff =>
    some ⟨0x11, t, u8 slot ++ u8 enabled ++ u8 priority ++ u16 cap ++ u16 dmin ++ u16 holdOff⟩
  | .setAuxDemand t slot demand => some ⟨0x12, t, u8 slot ++ u16 demand⟩
  | .getBudget t slot => some ⟨0x13, t, optional8 slot⟩
  | .setZone t zone fields => some ⟨0x20, t, u8 zone ++ ZoneFields.bytes fields⟩
  | .setLevels t zone levels fade =>
    some ⟨0x21, t, u8 zone ++ bits (presence levels) ++ levelFieldBytes levels ++ u16 fade⟩
  | .setSetpoint t zone setpoint => some ⟨0x22, t, u8 zone ++ u16 setpoint⟩
  | .setMode t zone mode => some ⟨0x23, t, u8 zone ++ u8 mode⟩
  | .getZone t zone => some ⟨0x24, t, u8 zone⟩
  | .storeScene t scene record => some ⟨0x28, t, u8 scene ++ (record.map SceneFields.bytes).getD []⟩
  | .recallScene t zone scene => some ⟨0x29, t, u8 zone ++ u8 scene⟩
  | .cueAdd t entry => some ⟨0x2B, t, CueFields.bytes entry⟩
  | .cueClear t => some ⟨0x2A, t, []⟩
  | .cueCommit t mode => some ⟨0x2C, t, u8 mode⟩
  | .cueStatus t position => some ⟨0x2D, t, optional8 position⟩
  | .setAxis t axis fields => some ⟨0x30, t, u8 axis ++ AxisFields.bytes fields⟩
  | .getAxis t axis => some ⟨0x31, t, u8 axis⟩
  | .ackFault t axis => some ⟨0x32, t, u8 axis⟩
  | .openProgram t context axis => some ⟨0x38, t, u8 context ++ u8 axis⟩
  | .programStep t context step => some ⟨0x39, t, u8 context ++ StepFields.bytes step⟩
  | .cancelAtBoundary t context => some ⟨0x3A, t, u8 context ++ u8 0⟩
  | .cancelImmediate t context => some ⟨0x3A, t, u8 context ++ u8 1⟩
  | .pauseProgram t context => some ⟨0x3B, t, u8 context⟩
  | .resumeProgram t context => some ⟨0x3C, t, u8 context⟩
  | .getProgram t context => some ⟨0x3D, t, optional8 context⟩
  | .setInterlock t axis direction terms =>
    if 3 < axis then some ⟨0x33, t, u8 axis⟩
    else
      match terms with
      | none => some ⟨0x33, t, u8 axis ++ u8 direction⟩
      | some l => some ⟨0x33, t, u8 axis ++ u8 direction ++ u8 l.length ++ l.flatMap fun x => u8 x.1 ++ u8 x.2⟩
  | .setInterlockCommon t settings =>
    match settings with
    | none => some ⟨0x33, t, u8 3⟩
    | some c => some ⟨0x33, t, u8 3 ++ u16 c.1 ++ u16 c.2⟩
  | .setVessel t speed shore flagA flagB => some ⟨0x34, t, u16 speed ++ u8 shore ++ u8 flagA ++ u8 flagB⟩
  | .setPattern t pattern record =>
    match record with
    | none => some ⟨0x35, t, u8 pattern⟩
    | some r => some ⟨0x35, t, u8 pattern ++ u8 r.1 ++ u8 r.2.length ++ r.2.flatMap fun n => u8 n.1 ++ u16 n.2⟩
  | .chimePlay t pattern repeats zones =>
    some ⟨0x36, t, u8 0 ++ u8 pattern ++ u8 repeats ++ u8 zones.length ++ zones.flatMap u8⟩
  | .chimeStop t => some ⟨0x36, t, u8 1⟩
  | .chimeClear t => some ⟨0x36, t, u8 2⟩
  | .setPanel t panel record => some ⟨0x40, t, u8 panel ++ (record.map PanelFields.bytes).getD []⟩
  | .setTagmap t panel entry record => some ⟨0x41, t, u8 panel ++ u8 entry ++ TagFields.bytes record⟩
  | .getPanel t panel part => some ⟨0x43, t, u8 panel ++ u8 part⟩
  | .setBinding t bound record => some ⟨0x42, t, u8 bound ++ (record.map BindingFields.bytes).getD []⟩
  | .saveConfig t => some ⟨0x50, t, []⟩
  | .powerOn _ _ => none
  | .coldReset _ _ => none
  | .warmReset => none
  | .frameReceived _ => none
  | .byteGapExpiry => none
  | .unknownRequest _ _ => none
  | .frameSent => none
  | .linkSilenceExpiry => none
  | .baseLoadSample _ => none
  | .meterSilenceExpiry => none
  | .holdOffExpiry _ => none
  | .outputFrame => none
  | .temperatureSample _ _ => none
  | .lossTimerExpiry _ => none
  | .capTimerExpiry => none
  | .positionSample _ _ => none
  | .staleTimerExpiry _ => none
  | .windlassPulse _ => none
  | .anchorHomeChange _ => none
  | .overloadInput _ => none
  | .warnTimeReached _ => none
  | .prepareTimerExpiry _ => none
  | .stallWindowExpiry _ => none
  | .dwellEnd _ => none
  | .stopTimerExpiry _ => none
  | .starvationTimerExpiry _ => none
  | .fieldInputChange _ _ => none
  | .vesselAgeingExpiry => none
  | .motionNoteEnd _ => none
  | .noticeNoteEnd => none
  | .panelFrame _ _ => none
  | .panelSilenceExpiry _ => none
  | .releaseTimerExpiry _ => none
  | .saveComplete _ => none
  | .saveTimerExpiry => none

end Sys2Proof.Machine
end

