-- ==== Sys2Proof/Machine/PanelCommands.lean ====
section
/-! DEFINITION. The commands of the Panel Service and the Action Dispatcher (chapters 7 and 8). -/

namespace Sys2Proof.Machine

/-! ## SET_PANEL (R141) -/

/-- A panel record on the line, 38 bytes (R182). -/
def PanelConfig.bytes (c : PanelConfig) : List Byte :=
  u8 c.cls.code ++ u8 c.home.val ++ u8 c.base ++ u8 c.limit ++ c.permissions.toList.flatMap flag ++ u8 c.oversample
    ++ u16 c.threshold ++ c.coefficients.toList.flatMap i32 ++ u16 c.width ++ u16 c.height

/-- The axis permissions as stored: clear for GUEST (R141). -/
def storedPermissions (cls : PanelClass) (p : Vector Nat 3) : PerAxis Bool :=
  if cls = .guest then { hatch := false, platform := false, windlass := false }
  else { hatch := flagOf p[0], platform := flagOf p[1], windlass := flagOf p[2] }

/-- A panel record as stored, with its clamps, when its class, home zone and window lie in range (R141). -/
def storedPanel (f : PanelFields) : Option PanelConfig :=
  match panelClassOf f.cls, indexOf 24 f.home with
  | some cls, some home =>
    if 23 < f.base ∨ 23 < f.limit then none
    else some
      { cls, home, base := f.base, limit := f.limit, permissions := storedPermissions cls f.permissions,
        oversample := clampInto 1 8 f.oversample, threshold := min f.threshold 1023, coefficients := f.coefficients,
        width := clampInto 1 2047 f.width, height := clampInto 1 2047 f.height }
  | _, _ => none

/-- A panel record is written, which empties the group accumulator (R141, R142). -/
def storePanel (k : Fin 12) (c : PanelConfig) (s : State) : State :=
  ({ s with config := { s.config with panels := s.config.panels.set k c } } : State).onPanel k fun p =>
    { p with group := groupStart }

/-- The reply of SET_PANEL (R141). -/
def panelReply (tag : Byte) (k : Fin 12) (s : State) : State :=
  s.reply 0x40 tag .ok (u8 k.val ++ s.config.panels[k].bytes)

/-- SET_PANEL: RANGE for a panel above 11; the write form is BUSY during a save, RANGE for its class and zones, and else
stores the record; the read form reads it (R141). -/
def takeSetPanel (tag : Byte) (panel : Nat) (record : Option PanelFields) (s : State) : State :=
  match indexOf 12 panel with
  | none => s.refuse 0x40 tag .range
  | some k =>
    match record with
    | none => panelReply tag k s
    | some f =>
      if s.isSaving then s.refuse 0x40 tag .busy
      else
        match storedPanel f with
        | none => s.refuse 0x40 tag .range
        | some c => panelReply tag k (storePanel k c s)

/-- SET_PANEL as a command. -/
def execSetPanel (tag : Byte) (panel : Nat) (record : Option PanelFields) (s : State) : Outcome :=
  carried (takeSetPanel tag panel record s)

/-! ## SET_TAGMAP (R145) -/

/-- A tag map entry on the line, 9 bytes (R182). -/
def TagEntry.bytes (e : TagEntry) : List Byte := u16 e.x0 ++ u16 e.y0 ++ u16 e.x1 ++ u16 e.y1 ++ u8 e.tag

/-- A tag map entry as stored, when its corners lie in range (R145). -/
def storedTag (f : TagFields) : Option TagEntry :=
  if 2047 < f.x0 ∨ 2047 < f.y0 ∨ 2047 < f.x1 ∨ 2047 < f.y1 then none
  else some { x0 := f.x0, y0 := f.y0, x1 := f.x1, y1 := f.y1, tag := f.tag }

/-- A tag map entry is written. -/
def storeTag (k : Fin 12) (i : Fin 32) (e : TagEntry) (s : State) : State :=
  { s with config := { s.config with tagMaps := s.config.tagMaps.set k (s.config.tagMaps[k].set i e) } }

/-- SET_TAGMAP: RANGE for a panel or an entry, BUSY during a save, RANGE for a corner; else the entry is replaced whole, and
a panel in DOWN looks up its held position (R145, R150). The reply says whether the write released a press. -/
def takeSetTagmap (tag : Byte) (panel entry : Nat) (f : TagFields) (s : State) : State :=
  match indexOf 12 panel, indexOf 32 entry with
  | some k, some i =>
    if s.isSaving then s.refuse 0x41 tag .busy
    else
      match storedTag f with
      | none => s.refuse 0x41 tag .range
      | some e =>
        let stored := storeTag k i e s
        let released := (stored.panels[k].remap stored.config.tagMaps[k]).2.isSome
        let t := settle (panelEvent k (·.remap stored.config.tagMaps[k]) stored)
        t.reply 0x41 tag .ok (u8 k.val ++ u8 i.val ++ e.bytes ++ flag released)
  | _, _ => s.refuse 0x41 tag .range

/-- SET_TAGMAP as a command. -/
def execSetTagmap (tag : Byte) (panel entry : Nat) (record : TagFields) (s : State) : Outcome :=
  carried (takeSetTagmap tag panel entry record s)

/-! ## GET_PANEL (R152) -/

/-- The pressed tag and the held position, or their markers (R152). -/
def Touch.heldBytes : Touch → List Byte
  | .down t x y => u8 t ++ u16 x.toNat ++ u16 y.toNat
  | .absent => marker 1 ++ marker 2 ++ marker 2
  | .up => marker 1 ++ marker 2 ++ marker 2
  | .slid => marker 1 ++ marker 2 ++ marker 2

/-- The last completed group, or its marker; the code of its kind is free (R152, log entry 14). The record has no fixed width,
and its marker is one byte: DESIGN CHOICE, log entry 39. -/
def lastGroupBytes : Option LastGroup → List Byte
  | none => marker 1
  | some .noTouch => [Config.groupKindCode 0]
  | some (.onGlass mx my x y t) => [Config.groupKindCode 1] ++ u16 mx ++ u16 my ++ i32 x ++ i32 y ++ u8 t
  | some (.offGlass mx my x y) => [Config.groupKindCode 2] ++ u16 mx ++ u16 my ++ i32 x ++ i32 y

/-- The RECORD part of the GET_PANEL reply (R152). -/
def State.panelBytes (s : State) (k : Fin 12) : List Byte :=
  let p := s.panels[k]
  s.config.panels[k].bytes ++ u8 p.touch.code ++ p.touch.heldBytes ++ u8 p.group.count ++ flag p.group.noTouch
    ++ orMarker 4 (fun ms => u32 (min 65535 ms)) (s.age p.framedAt) ++ lastGroupBytes p.last

/-- Sixteen entries of a tag map from an entry on (R152). -/
def State.mapBytes (s : State) (k : Fin 12) (start : Nat) : List Byte :=
  ((s.config.tagMaps[k].toList.drop start).take 16).flatMap TagEntry.bytes

/-- GET_PANEL reads one part of one panel and changes nothing (R152). -/
def takeGetPanel (tag : Byte) (panel part : Nat) (s : State) : State :=
  match indexOf 12 panel, part with
  | some k, 0 => s.reply 0x43 tag .ok (s.panelBytes k)
  | some k, 1 => s.reply 0x43 tag .ok (s.mapBytes k 0)
  | some k, 2 => s.reply 0x43 tag .ok (s.mapBytes k 16)
  | _, _ => s.refuse 0x43 tag .range

/-- GET_PANEL as a command. -/
def execGetPanel (tag : Byte) (panel part : Nat) (s : State) : Outcome := carried (takeGetPanel tag panel part s)

/-! ## The panel port -/

/-- PANEL_FRAME: a good frame joins the panel's group, and a complete group acts on the touch state (R139, R142). -/
def execPanelFrame (panel : Fin 12) (frame : PanelFrame) (s : State) : Outcome :=
  carried (settle (panelFrame panel frame s))

/-- PANEL_SILENCE_EXPIRY: the panel enters ABSENT, and a held tag is released (R149). -/
def execPanelSilenceExpiry (panel : Fin 12) (s : State) : Outcome :=
  carried (if s.panels[panel].silenceDeadline.isSome then settle (panelEvent panel (·.goAbsent) s) else s)

/-! ## SET_BINDING (R156) -/

/-- A binding record in the form in which its request carries it, 7 bytes, as the stored image holds it (R182, R183). The target
of a kind that reads none is the HOME that R155 stores: DEDUCED, log entry 46. -/
def Binding.bytes (b : Binding) : List Byte :=
  u8 b.kind.code ++ orMarker 1 (fun z : Fin 24 => u8 z.val) b.target ++ u16 b.argument ++ u8 (axisNumber b.axis)
    ++ u8 b.preset.val ++ flag b.holdToRun

/-- A binding record in a reply: the target of a kind that reads none is sent as 0 (R156, R182, log entry 46). -/
def Binding.replyBytes (b : Binding) : List Byte :=
  u8 b.kind.code ++ (if b.kind.isZone then orMarker 1 (fun z : Fin 24 => u8 z.val) b.target else u8 0) ++ u16 b.argument
    ++ u8 (axisNumber b.axis) ++ u8 b.preset.val ++ flag b.holdToRun

/-- The argument of a binding as stored: a scene number, a step up to 1000, a mode value, or 0 (R155, R156). -/
def storedArgument (kind : BindingKind) (argument : Nat) : Option Nat :=
  match kind with
  | .scene => if 31 < argument then none else some argument
  | .mode => if 255 < argument then none else some argument
  | .levelUp => some (min argument 1000)
  | .levelDown => some (min argument 1000)
  | .setpointUp => some 0
  | .setpointDown => some 0
  | .none => some 0
  | .axisGoto => some 0
  | .chimeAck => some 0
  | .reportOnly => some 0

/-- The target of a zone kind as stored: a zone, or HOME for the marker (R156). -/
def storedTarget (target : Nat) : Option (Option (Fin 24)) :=
  if target = 255 then some none else (indexOf 24 target).map some

/-- A binding record as stored: fields that the kind does not read are 0, HOME or clear; fields that it reads must lie in
range (R155, R156). -/
def storedBinding (f : BindingFields) : Option Binding :=
  match bindingKindOf f.kind with
  | none => none
  | some kind =>
    if kind.isZone then
      match storedTarget f.target, storedArgument kind f.argument with
      | some target, some argument => some { emptyBinding with kind, target, argument }
      | _, _ => none
    else if kind = .axisGoto then
      match axisOf f.axis, indexOf 4 f.preset with
      | some axis, some preset => some { emptyBinding with kind, axis, preset, holdToRun := flagOf f.holdToRun }
      | _, _ => none
    else some { emptyBinding with kind }

/-- The reply of SET_BINDING (R156). -/
def bindingReply (tag : Byte) (k : Fin 255) (s : State) : State :=
  s.reply 0x42 tag .ok (u8 (k.val + 1) ++ s.config.bindings[k].replyBytes)

/-- A run record in the reply, or its marker of 8 bytes; the code of the hold state is free (R156, log entries 14, 15). -/
def State.runBytes (s : State) (r : Option RunRecord) : List Byte :=
  orMarker 8 (fun r : RunRecord => u8 r.context.val ++ u8 r.panel.val ++ u8 r.tag ++ [Config.runHoldCode r.released]
    ++ orMarker 4 u32 (s.timeLeft r.deadline)) r

/-- SET_BINDING: the write form is RANGE for tag 0, BUSY during a save, RANGE for its fields, and else replaces the record
whole; the read form of tag 0 reads the run records (R156). -/
def takeSetBinding (tag : Byte) (bound : Nat) (record : Option BindingFields) (s : State) : State :=
  match record, (if bound = 0 then none else indexOf 255 (bound - 1)) with
  | none, none => s.reply 0x42 tag .ok (u8 0 ++ s.runs.toList.flatMap s.runBytes)
  | none, some k => bindingReply tag k s
  | some _, none => s.refuse 0x42 tag .range
  | some f, some k =>
    if s.isSaving then s.refuse 0x42 tag .busy
    else
      match storedBinding f with
      | none => s.refuse 0x42 tag .range
      | some b => bindingReply tag k { s with config := { s.config with bindings := s.config.bindings.set k b } }

/-- SET_BINDING as a command. -/
def execSetBinding (tag : Byte) (bound : Nat) (record : Option BindingFields) (s : State) : Outcome :=
  carried (takeSetBinding tag bound record s)

/-- RELEASE_TIMER_EXPIRY: the record's program ends RELEASED (R165). -/
def execReleaseTimerExpiry (axis : Axis) (s : State) : Outcome :=
  carried (match s.runs.get axis with
  | some r => if r.deadline.isSome then s.send (.endProgram r.context .released) else s
  | none => s)

end Sys2Proof.Machine
end

