-- ==== Sys2Proof/Machine/ZoneCommands.lean ====
section
/-! DEFINITION. The commands of the Zone Controller (sections 2.2, 2.5 and 2.7). -/

namespace Sys2Proof.Machine

/-! ## SET_ZONE (R41) -/

/-- The configuration of a zone on the line, 18 bytes (R182). -/
def ZoneConfig.bytes (c : ZoneConfig) : List Byte :=
  c.rated.toList.flatMap u16 ++ u16 c.fan ++ u16 c.stage1 ++ u16 c.stage2 ++ flag c.crewOnly ++ flag c.passage
    ++ u8 c.volume ++ orMarker 1 u8 c.startScene

/-- A field of SET_ZONE lies outside its range (R41). -/
def zoneOutOfRange (f : ZoneFields) : Bool :=
  f.rated.toList.any (fun r => decide (160 < r)) || decide (400 < f.fan) || decide (400 < f.stage1)
    || decide (400 < f.stage2) || !decide (f.fan ≤ f.stage1 ∧ f.stage1 ≤ f.stage2)
    || (decide (31 < f.startScene) && f.startScene != 255)

/-- The fields of SET_ZONE as stored (R41). -/
def storedZone (f : ZoneFields) : ZoneConfig :=
  { rated := f.rated, fan := f.fan, stage1 := f.stage1, stage2 := f.stage2, crewOnly := flagOf f.crewOnly,
    passage := flagOf f.passage, volume := f.volume,
    startScene := if f.startScene = 255 then none else some f.startScene }

/-- What SET_ZONE does after storing, by what changed (R41): new rated currents recompute the lighting demand; new stage
currents take a pass in any case and set the running stage (R38); and a ZONE report follows a change of R40. Where both changed,
the lighting demand with its pass comes before the climate demand: DESIGN CHOICE, log entry 43. -/
def zoneWritten (z : Fin 24) (before : ZoneConfig) (s : State) : Handled :=
  let c := s.config.zones[z]
  let was := s.zones[z]
  let light : List Signal := if before.rated = c.rated then [] else [.lightDemand z]
  if before.stageCurrents = c.stageCurrents then (s, light ++ [.reportZone z was])
  else
    let t := s.onZone z fun r => r.rerun c
    let demand := c.stageCurrent was.climate.demanded
    (t, light ++ [if demand = s.raw (climateSlot z) then .pass else .post (climateSlot z) demand]
      ++ [.reportZone z was])

/-- SET_ZONE: RANGE for a zone above 23, BUSY during a save, RANGE for the other cases; else every field is stored (R41). -/
def takeSetZone (tag : Byte) (zone : Nat) (f : ZoneFields) (s : State) : State :=
  match indexOf 24 zone with
  | none => s.refuse 0x20 tag .range
  | some z =>
    if s.isSaving then s.refuse 0x20 tag .busy
    else if zoneOutOfRange f then s.refuse 0x20 tag .range
    else
      let stored := { s with config := { s.config with zones := s.config.zones.set z (storedZone f) } }
      let t := settle (zoneWritten z s.config.zones[z] stored)
      t.reply 0x20 tag .ok (u8 z.val ++ t.config.zones[z].bytes)

/-- SET_ZONE as a command. -/
def execSetZone (tag : Byte) (zone : Nat) (fields : ZoneFields) (s : State) : Outcome :=
  carried (takeSetZone tag zone fields s)

/-! ## SET_LEVELS, SET_SETPOINT, SET_MODE and GET_ZONE (R42 to R45) -/

/-- The level changes of SET_LEVELS as one event of the zone (R42). -/
def levelsEvent (z : Fin 24) (levels : Vector (Option Nat) 4) (fade : Nat) (s : State) : Handled :=
  if levels.toList.all (·.isNone) then (s, []) else changeZone true z (·.changeLevels levels fade) s

/-- SET_LEVELS: each present level makes one level change; the targets in force and the stored fade time are answered
(R42). -/
def takeSetLevels (tag : Byte) (zone : Nat) (levels : Vector (Option Nat) 4) (fade : Nat) (s : State) : State :=
  match indexOf 24 zone with
  | none => s.refuse 0x21 tag .range
  | some z =>
    let t := settle (levelsEvent z levels fade s)
    t.reply 0x21 tag .ok (u8 z.val ++ t.zones[z].channels.toList.flatMap (fun c => u16 c.target)
      ++ u16 (clampFade fade))

/-- SET_LEVELS as a command. -/
def execSetLevels (tag : Byte) (zone : Nat) (levels : Vector (Option Nat) 4) (fade : Nat) (s : State) : Outcome :=
  carried (takeSetLevels tag zone levels fade s)

/-- SET_SETPOINT: a setpoint change, answered with the stored setpoint (R43). -/
def takeSetSetpoint (tag : Byte) (zone setpoint : Nat) (s : State) : State :=
  match indexOf 24 zone with
  | none => s.refuse 0x22 tag .range
  | some z =>
    let t := settle (setpointEvent z setpoint s)
    t.reply 0x22 tag .ok (u8 z.val ++ u16 t.zones[z].setpoint)

/-- SET_SETPOINT as a command. -/
def execSetSetpoint (tag : Byte) (zone setpoint : Nat) (s : State) : Outcome :=
  carried (takeSetSetpoint tag zone setpoint s)

/-- SET_MODE: a mode change, answered with the mode in force; an unsupported value is answered OK (R44). -/
def takeSetMode (tag : Byte) (zone mode : Nat) (s : State) : State :=
  match indexOf 24 zone with
  | none => s.refuse 0x23 tag .range
  | some z =>
    let t := settle (modeEvent z mode s)
    t.reply 0x23 tag .ok (u8 z.val ++ u8 t.zones[z].mode.code)

/-- SET_MODE as a command. -/
def execSetMode (tag : Byte) (zone mode : Nat) (s : State) : Outcome := carried (takeSetMode tag zone mode s)

/-- A channel record on the line (R28, R45). -/
def Channel.bytes (c : Channel) : List Byte :=
  u16 c.level ++ u16 c.target ++ u16 c.fadeStart ++ u16 c.framesDone ++ u16 c.framesTotal ++ flag c.fading
    ++ u16 c.output

/-- The configuration of a zone in the GET_ZONE reply, each field in the fewest bytes that hold its range (R171). -/
def ZoneConfig.readBytes (c : ZoneConfig) : List Byte :=
  c.rated.toList.flatMap u8 ++ u16 c.fan ++ u16 c.stage1 ++ u16 c.stage2 ++ flag c.crewOnly ++ flag c.passage
    ++ u8 c.volume ++ orMarker 1 u8 c.startScene

/-- The GET_ZONE reply (R45); the temperature age is in seconds and saturates at 65535. A part of a second is dropped: DESIGN
CHOICE, log entry 48. -/
def State.zoneBytes (s : State) (z : Fin 24) : List Byte :=
  let r := s.zones[z]
  let k := r.climate
  s.config.zones[z].readBytes ++ u8 r.mode.code ++ u16 r.setpoint ++ u16 r.demand ++ u16 r.lightGrant
    ++ flag r.scaled ++ r.channels.toList.flatMap Channel.bytes ++ i16 k.temperature ++ u8 (temperatureCode k.live)
    ++ orMarker 4 (fun ms => u32 (min 65535 (ms / 1000))) (s.age k.sampledAt) ++ u8 k.direction.code
    ++ u8 k.demanded.code ++ u8 k.running.code ++ u16 k.grant

/-- GET_ZONE reads one zone and changes nothing (R45). -/
def takeGetZone (tag : Byte) (zone : Nat) (s : State) : State :=
  match indexOf 24 zone with
  | none => s.refuse 0x24 tag .range
  | some z => s.reply 0x24 tag .ok (s.zoneBytes z)

/-- GET_ZONE as a command. -/
def execGetZone (tag : Byte) (zone : Nat) (s : State) : Outcome := carried (takeGetZone tag zone s)

/-! ## The output frame and the temperature inputs -/

/-- OUTPUT_FRAME: fades advance, zones with an ended fade recompute their demand, and the Cue Unit sees the frame (R29). -/
def execOutputFrame (s : State) : Outcome := carried (settle (frameSignals s))

/-- A climate event of a zone: the record changes, the climate is worked out, and a ZONE report follows a change. -/
def climateEvent (z : Fin 24) (change : Climate → Climate) (s : State) : Handled :=
  (s.onZone z fun r => { r with climate := change r.climate }, [.climateWork z, .reportZone z s.zones[z]])

/-- TEMPERATURE_SAMPLE: the sample is stored, the zone is LIVE, the loss timer restarts, and the climate is worked out
(R37). -/
def execTemperatureSample (zone : Fin 24) (temperature : Int) (s : State) : Outcome :=
  carried (settle (climateEvent zone (fun k =>
    { k with temperature, live := true, sampledAt := some s.now, lossDeadline := s.ends lossTime }) s))

/-- LOSS_TIMER_EXPIRY: the zone is LOST and its climate is worked out (R37). -/
def execLossTimerExpiry (zone : Fin 24) (s : State) : Outcome :=
  carried (if s.zones[zone].climate.lossDeadline.isSome then
    settle (climateEvent zone (fun k => { k with live := false, lossDeadline := none }) s)
  else s)

end Sys2Proof.Machine
end

