-- ==== Sys2Proof/Machine/Image.lean ====
section
/-! DEFINITION. The stored image (R183): how a configuration is written as bytes, and how an image is read and checked. A
record of the image is read as its configuration request would be, and lies in range when storing it changes nothing. -/

namespace Sys2Proof.Machine

/-! ## Writing -/

/-- Bytes filled up with zeros to a length. -/
def padTo (n : Nat) (b : List Byte) : List Byte := b ++ List.replicate (n - b.length) 0

/-- An axis in the image, 56 bytes. -/
def Configuration.axisImage (c : Configuration) (a : Axis) : List Byte :=
  let zones := (c.axes.get a).warnZones
  c.axisFieldBytes a ++ u8 zones.length ++ padTo 24 (zones.flatMap u8)

/-- A term list in the image, 9 bytes. -/
def termImage (terms : List Term) : List Byte := u8 terms.length ++ padTo 8 (termBytes terms)

/-- A pattern in the image, 26 bytes. -/
def Pattern.image (p : Pattern) : List Byte := flag p.loop ++ u8 p.notes.length ++ padTo 24 (noteBytes p.notes)

/-- The body of format 1, 7432 bytes (R183). -/
def Configuration.body (c : Configuration) : List Byte :=
  u16 c.supply ++ u8 c.reserve ++ c.slots.toList.flatMap SlotConfig.bytes
    ++ c.zones.toList.flatMap ZoneConfig.bytes ++ c.scenes.toList.flatMap Scene.bytes
    ++ allAxes.flatMap c.axisImage ++ allPermits.flatMap (fun p => termImage ((c.interlocks.get p.1).get p.2))
    ++ u16 c.speedLimit ++ u16 c.pumpRating ++ c.patterns.toList.flatMap Pattern.image
    ++ c.panels.toList.flatMap PanelConfig.bytes ++ c.tagMaps.toList.flatMap (fun m => m.toList.flatMap TagEntry.bytes)
    ++ c.bindings.toList.flatMap Binding.bytes ++ u16 c.linkSilence

/-- An image without its CRC: format number, body length and body. -/
def imageCovered (body : List Byte) : List Byte := u16 imageFormat ++ u16 body.length ++ body

/-- The stored image of a configuration (R183). -/
def Configuration.image (c : Configuration) : List Byte :=
  imageCovered c.body ++ u16 (crc16 (imageCovered c.body))

/-! ## Reading -/

/-- A record lies in range when the form in which it is stored is the form in which it was read. -/
def inRange {α : Type} (bytes : α → List Byte) (b : List Byte) (stored : Option α) : Option α :=
  stored.filter fun a => bytes a = b

/-- A load slot of the image. -/
def readSlot (k : Fin 52) (b : List Byte) : Option SlotConfig :=
  inRange SlotConfig.bytes b
    (some (storedSlot (slotClass k) (natAt b 0 1) (natAt b 1 1) (natAt b 2 2) (natAt b 4 2) (natAt b 6 2)))

/-- A zone of the image. -/
def readZone (b : List Byte) : Option ZoneConfig :=
  inRange ZoneConfig.bytes b (if zoneOutOfRange (zoneFieldsAt b) then none else some (storedZone (zoneFieldsAt b)))

/-- A scene record of the image. -/
def readScene (b : List Byte) : Option Scene := inRange Scene.bytes b (some (storedScene (sceneFieldsAt b)))

/-- A term list of the image. -/
def readTerms (b : List Byte) : Option (List Term) := inRange termImage b (storedTerms (pairsAt b 1 (natAt b 0 1)))

/-- A pattern of the image. -/
def readPattern (b : List Byte) : Option Pattern :=
  inRange Pattern.image b (storedPattern (natAt b 0 1) (notesAt b 2 (natAt b 1 1)))

/-- A panel record of the image. -/
def readPanel (b : List Byte) : Option PanelConfig := inRange PanelConfig.bytes b (storedPanel (panelFieldsAt b))

/-- A tag map entry of the image. -/
def readTag (b : List Byte) : Option TagEntry := inRange TagEntry.bytes b (storedTag (tagFieldsAt b))

/-- A binding record of the image. -/
def readBinding (b : List Byte) : Option Binding := inRange Binding.bytes b (storedBinding (bindingFieldsAt b))

/-- A number of two bytes within a range. -/
def readNumber (low high n : Nat) : Option Nat := if low ≤ n ∧ n ≤ high then some n else none

/-- `n` bytes from an offset on. -/
def slice (b : List Byte) (off n : Nat) : List Byte := (b.drop off).take n

/-- A list of the right length as a vector. -/
def vectorOf {α : Type} (n : Nat) (l : List α) : Option (Vector α n) :=
  if h : l.length = n then some ⟨l.toArray, by simpa using h⟩ else none

/-- `n` records of one size from an offset on, each read in its turn. -/
def readRecords {α : Type} (n size : Nat) (read : Fin n → List Byte → Option α) (b : List Byte) (off : Nat) :
    Option (Vector α n) :=
  let part := slice b off (n * size)
  ((List.finRange n).mapM fun i => read i (slice part (i.val * size) size)).bind (vectorOf n)

/-- The configuration of an axis in the image, 56 bytes, with the gear that the image gives the windlass. -/
def readAxis (a : Axis) (gear : GearConfig) (b : List Byte) : Option AxisConfig := storedAxis a gear (axisFieldsAt b)

/-- Every axis of the image, re-written, is what was read. -/
def axesInRange (c : Configuration) (b : List Byte) : Bool := allAxes.flatMap c.axisImage = b

/-- The body of format 1 read as a configuration, when every field lies in its range (R183). -/
def readBody (b : List Byte) : Option Configuration := do
  let supply ← readNumber 0 40000 (natAt b 0 2)
  let reserve ← readNumber 0 50 (natAt b 2 1)
  let slots ← readRecords 52 8 readSlot b 3
  let zones ← readRecords 24 18 (fun _ => readZone) b 419
  let scenes ← readRecords 32 14 (fun _ => readScene) b 851
  let gear := storedGear (axisFieldsAt (slice b 1411 56))
  let hatch ← readAxis .hatch gear (slice b 1299 56)
  let platform ← readAxis .platform gear (slice b 1355 56)
  let windlass ← readAxis .windlass gear (slice b 1411 56)
  let hatchOut ← readTerms (slice b 1467 9)
  let hatchIn ← readTerms (slice b 1476 9)
  let platformOut ← readTerms (slice b 1485 9)
  let platformIn ← readTerms (slice b 1494 9)
  let windlassOut ← readTerms (slice b 1503 9)
  let windlassIn ← readTerms (slice b 1512 9)
  let speedLimit ← readNumber 0 500 (natAt b 1521 2)
  let pumpRating ← readNumber 0 4000 (natAt b 1523 2)
  let patterns ← readRecords 8 26 (fun _ => readPattern) b 1525
  let panels ← readRecords 12 38 (fun _ => readPanel) b 1733
  let tagMaps ← readRecords 12 288 (fun _ m => readRecords 32 9 (fun _ => readTag) m 0) b 2189
  let bindings ← readRecords 255 7 (fun _ => readBinding) b 5645
  let linkSilence ← readNumber 500 10000 (natAt b 7430 2)
  let config : Configuration :=
    { supply, reserve, slots, zones, scenes, axes := { hatch, platform, windlass },
      deckLevel := min (natAt b 1375 2) 1500, gear,
      interlocks := { hatch := { out := hatchOut, inward := hatchIn },
                      platform := { out := platformOut, inward := platformIn },
                      windlass := { out := windlassOut, inward := windlassIn } },
      speedLimit, pumpRating, patterns, panels, tagMaps, bindings, linkSilence }
  if axesInRange config (slice b 1299 168) then some config else none

/-- An image is good when its format, its length and its CRC are right and every field lies in its range; the configuration
it holds (R183). -/
def readImage (image : List Byte) : Option Configuration :=
  let covered := image.take (4 + imageBodyLength)
  if image.length = 6 + imageBodyLength ∧ natAt image 0 2 = imageFormat ∧ natAt image 2 2 = imageBodyLength
      ∧ natAt image (4 + imageBodyLength) 2 = crc16 covered then
    readBody (covered.drop 4)
  else none

end Sys2Proof.Machine
end

