-- ==== Sys2Proof/Machine/StoreCommands.lean ====
section
/-! DEFINITION. The commands of the Configuration Store (section 10.3). -/

namespace Sys2Proof.Machine

/-- The EEPROM after a write that did not succeed: at each byte the new image where it was reached, else what stood there.
Which bytes were reached is free, and so is what stands where no save has written (R186, log entry 7). -/
def mixedImage (reached : Nat → Bool) (old new : List Byte) : List Byte :=
  (List.range (max old.length new.length)).map fun i =>
    ((if reached i then new[i]? else old[i]?)).getD (Config.unwrittenByte i)

/-- A save in flight ends without success: the state is IDLE, and the EEPROM may be old, new or mixed (R184, R186). -/
def State.failSave (s : State) : State :=
  match s.store.saving with
  | none => s
  | some w =>
    { s with
      freeIndex := s.freeIndex + 1,
      store := { s.store with
        saving := none, eeprom := mixedImage (Config.saveReached s.freeIndex) s.store.eeprom w.image } }

/-- The delayed reply of SAVE_CONFIG is made with the held tag (R172). -/
def State.saveReply (s : State) (result : Result) (fields : List Byte) : State :=
  let frame := replyFrame 0x50 (s.link.saveTag.getD 0) result fields
  { s with link := { s.link with saveTag := none, replies := s.link.replies ++ [{ frame, delayed := true }] } }

/-- SAVE_CONFIG: BUSY in SAVING; else the image is built, the save timer starts, and the tag is held (R172, R186). -/
def takeSaveConfig (tag : Byte) (s : State) : State :=
  if s.isSaving then s.refuse 0x50 tag .busy
  else
    { s with
      store := { s.store with saving := some { image := s.config.image, deadline := s.now + saveTime } },
      link := { s.link with saveTag := some tag } }

/-- SAVE_CONFIG as a command. -/
def execSaveConfig (tag : Byte) (s : State) : Outcome := carried (takeSaveConfig tag s)

/-- The end of a save that did not succeed: FAILED (R186). -/
def State.saveFailed (s : State) : State := s.failSave.saveReply .failed []

/-- SAVE_COMPLETE: a matching read-back is answered OK with the format number, the body length and the CRC; a write error or
a mismatch is answered FAILED (R186). -/
def execSaveComplete (result : SaveResult) (s : State) : Outcome :=
  carried (match s.store.saving, result with
  | none, _ => s
  | some w, .matching =>
    ({ s with store := { s.store with saving := none, eeprom := w.image } } : State).saveReply .ok
      (u16 imageFormat ++ u16 imageBodyLength ++ w.image.drop (4 + imageBodyLength))
  | some _, .mismatch => s.saveFailed
  | some _, .writeError => s.saveFailed)

/-- SAVE_TIMER_EXPIRY: the save ends FAILED (R186). -/
def execSaveTimerExpiry (s : State) : Outcome := carried (if s.isSaving then s.saveFailed else s)

end Sys2Proof.Machine
end

