-- ==== Sys2Proof/Machine/LinkCommands.lean ====
section
/-! DEFINITION. The commands of the Link Interface (chapter 9): the receiver, the input buffer, the transmitter's end of
frame, the link-silence timer and the device requests. -/

namespace Sys2Proof.Machine

/-! ## Device requests -/

/-- GET_INFO reads the fixed facts of the part (R178). -/
def takeGetInfo (tag : Byte) (s : State) : State :=
  s.reply 0x01 tag .ok (u16 partCode ++ u8 familyCode ++ u16 imageFormat ++ u8 largestPayload ++ u8 lineCapacity
    ++ u8 lineCapacity ++ u8 reportKeys ++ u32 s.config.linkSilence)

/-- GET_INFO as a command. -/
def execGetInfo (tag : Byte) (s : State) : Outcome := carried (takeGetInfo tag s)

/-- The set of axes that hold a fault record, as bits. -/
def State.faultSet (s : State) : List Byte := bits (s.axes.toList.map (·.fault.isSome))

/-- The GET_STATUS reply (R179). -/
def State.statusBytes (s : State) : List Byte :=
  u8 s.store.lastReset.code ++ flag s.store.defaulted ++ flag s.isSaving ++ u8 s.budget.mode.code
    ++ s.axes.toList.flatMap (fun r => u8 r.state.code) ++ s.faultSet ++ hydraulicByte s.pump.owner
    ++ hydraulicByte s.pump.waiting ++ flag s.cue.commit.isSome ++ u8 s.cue.entries.length
    ++ u8 s.chime.notices.length ++ u8 s.link.buffer.length ++ u8 s.link.replies.length ++ u8 s.link.reports.length
    ++ orMarker 4 u32 (s.timeLeft s.link.silenceDeadline)

/-- GET_STATUS reads the state of the part as a whole (R179). -/
def takeGetStatus (tag : Byte) (s : State) : State := s.reply 0x02 tag .ok s.statusBytes

/-- GET_STATUS as a command. -/
def execGetStatus (tag : Byte) (s : State) : Outcome := carried (takeGetStatus tag s)

/-- The reset kind that a RESET may ask for (R180). -/
def resetKindOf : Nat → Option ResetKind
  | 1 => some .cold
  | 2 => some .warm
  | _ => none

/-- RESET: RANGE for a kind other than COLD and WARM, BUSY during a save; else it is answered, the input buffer is
discarded, no further byte is taken, and the reset waits for the replies to be sent (R180). -/
def takeReset (tag : Byte) (kind : Nat) (s : State) : State :=
  match resetKindOf kind with
  | none => s.refuse 0x03 tag .range
  | some k =>
    if s.isSaving then s.refuse 0x03 tag .busy
    else
      let t := s.reply 0x03 tag .ok (u8 kind)
      { t with link := { t.link with
          buffer := [], receiving := false, gathered := [], gapDeadline := none, resetPending := some k } }

/-- RESET as a command. -/
def execReset (tag : Byte) (kind : Nat) (s : State) : Outcome := carried (takeReset tag kind s)

/-- The link-silence timer starts or restarts at its length (R174). -/
def State.startSilence (s : State) : State :=
  { s with link := { s.link with silenceDeadline := s.ends s.config.linkSilence } }

/-- SET_LINK: BUSY during a save; else the clamped length is stored, and the timer restarts at it (R175). -/
def takeSetLink (tag : Byte) (length : Nat) (s : State) : State :=
  if s.isSaving then s.refuse 0x04 tag .busy
  else
    let stored := clampInto 500 10000 length
    (({ s with config := { s.config with linkSilence := stored } } : State).startSilence).reply 0x04 tag .ok
      (u16 stored)

/-- SET_LINK as a command. -/
def execSetLink (tag : Byte) (length : Nat) (s : State) : Outcome := carried (takeSetLink tag length s)

/-- A request of a kind that the part does not know is answered UNKNOWN (R170). -/
def takeUnknownRequest (tag kind : Byte) (s : State) : State := s.refuse kind tag .unknown

/-- UNKNOWN_REQUEST as a command. -/
def execUnknownRequest (tag kind : Byte) (s : State) : Outcome := carried (takeUnknownRequest tag kind s)

/-! ## Requests from the input buffer -/

/-- The owner of a request carries it out (R170); a command that is not a request has no owner. -/
def carryOut (i : Instr) (s : State) : State :=
  match i with
  | .unknownRequest tag kind => takeUnknownRequest tag kind s
  | .getInfo tag => takeGetInfo tag s
  | .getStatus tag => takeGetStatus tag s
  | .reset tag kind => takeReset tag kind s
  | .setLink tag length => takeSetLink tag length s
  | .setSupply tag supply reserve => takeSetSupply tag supply reserve s
  | .setSlot tag slot enabled priority cap dmin holdOff => takeSetSlot tag slot enabled priority cap dmin holdOff s
  | .setAuxDemand tag slot demand => takeSetAuxDemand tag slot demand s
  | .getBudget tag slot => takeGetBudget tag slot s
  | .setZone tag zone fields => takeSetZone tag zone fields s
  | .setLevels tag zone levels fade => takeSetLevels tag zone levels fade s
  | .setSetpoint tag zone setpoint => takeSetSetpoint tag zone setpoint s
  | .setMode tag zone mode => takeSetMode tag zone mode s
  | .getZone tag zone => takeGetZone tag zone s
  | .storeScene tag scene record => takeStoreScene tag scene record s
  | .recallScene tag zone scene => takeRecallScene tag zone scene s
  | .cueAdd tag entry => takeCueAdd tag entry s
  | .cueClear tag => takeCueClear tag s
  | .cueCommit tag mode => takeCueCommit tag mode s
  | .cueStatus tag position => takeCueStatus tag position s
  | .setAxis tag axis fields => takeSetAxis tag axis fields s
  | .getAxis tag axis => takeGetAxis tag axis s
  | .ackFault tag axis => takeAckFault tag axis s
  | .openProgram tag context axis => takeOpenProgram tag context axis s
  | .programStep tag context step => takeProgramStep tag context step s
  | .cancelAtBoundary tag context => takeCancelAtBoundary tag context s
  | .cancelImmediate tag context => takeCancelImmediate tag context s
  | .pauseProgram tag context => takePauseProgram tag context s
  | .resumeProgram tag context => takeResumeProgram tag context s
  | .getProgram tag context => takeGetProgram tag context s
  | .setInterlock tag axis direction terms => takeSetInterlock tag axis direction terms s
  | .setInterlockCommon tag settings => takeSetInterlockCommon tag settings s
  | .setVessel tag speed shore flagA flagB => takeSetVessel tag speed shore flagA flagB s
  | .setPattern tag pattern record => takeSetPattern tag pattern record s
  | .chimePlay tag pattern repeats zones => takeChimePlay tag pattern repeats zones s
  | .chimeStop tag => takeChimeStop tag s
  | .chimeClear tag => takeChimeClear tag s
  | .setPanel tag panel record => takeSetPanel tag panel record s
  | .setTagmap tag panel entry record => takeSetTagmap tag panel entry record s
  | .getPanel tag panel part => takeGetPanel tag panel part s
  | .setBinding tag bound record => takeSetBinding tag bound record s
  | .saveConfig tag => takeSaveConfig tag s
  | .powerOn _ _ => s
  | .coldReset _ _ => s
  | .warmReset => s
  | .frameReceived _ => s
  | .byteGapExpiry => s
  | .frameSent => s
  | .linkSilenceExpiry => s
  | .baseLoadSample _ => s
  | .meterSilenceExpiry => s
  | .holdOffExpiry _ => s
  | .outputFrame => s
  | .temperatureSample _ _ => s
  | .lossTimerExpiry _ => s
  | .capTimerExpiry => s
  | .positionSample _ _ => s
  | .staleTimerExpiry _ => s
  | .windlassPulse _ => s
  | .anchorHomeChange _ => s
  | .overloadInput _ => s
  | .warnTimeReached _ => s
  | .prepareTimerExpiry _ => s
  | .stallWindowExpiry _ => s
  | .dwellEnd _ => s
  | .stopTimerExpiry _ => s
  | .starvationTimerExpiry _ => s
  | .fieldInputChange _ _ => s
  | .vesselAgeingExpiry => s
  | .motionNoteEnd _ => s
  | .noticeNoteEnd => s
  | .panelFrame _ _ => s
  | .panelSilenceExpiry _ => s
  | .releaseTimerExpiry _ => s
  | .saveComplete _ => s
  | .saveTimerExpiry => s

/-- A frame taken from the input buffer is examined, and its request carried out or refused (R170). -/
def carryFrame (f : Frame) (s : State) : State :=
  match examine f with
  | .unknown => takeUnknownRequest f.tag f.kind s
  | .length => s.refuse f.kind f.tag .length
  | .range => s.refuse f.kind f.tag .range
  | .request i => carryOut i s

/-- The Link Interface takes frames from the input buffer, oldest first, while it may, one request at a time; the
transmitter chooses after each (R169, R173). The bound is the number of waiting frames. -/
def serve : Nat → State → State
  | 0, s => s
  | n + 1, s =>
    match s.link.buffer with
    | [] => s
    | f :: rest =>
      if s.link.takes then
        serve n (carryFrame f { s with link := { s.link with buffer := rest } }).kick
      else s

/-- The Link Interface serves its input buffer (R169). -/
def State.serveBuffer (s : State) : State := serve s.link.buffer.length s

/-! ## The receiver (R168) -/

/-- What the gathered bytes are: not yet a whole frame; no frame that starts at the first byte, or one to discard; or a good
frame with the bytes after it. -/
inductive Scan where
  | wait
  | discard
  | good (f : Frame) (rest : List LineByte)
  deriving DecidableEq, Repr

/-- A whole frame's bytes after the start pair: good when the CRC is right (R167, R168). -/
def checkFrame (body : List Byte) (rest : List LineByte) : Scan :=
  let n := natAt body 0 1
  if natAt body (3 + n) 2 = crc16 (body.take (3 + n)) then
    .good { kind := body.getD 1 0, tag := body.getD 2 0, payload := (body.drop 3).take n } rest
  else .discard

/-- The bytes after a start pair (R168): a length above 240, a bad stop bit within the frame, or a wrong CRC discards the
frame. -/
def scanBody (b : List LineByte) : Scan :=
  match b with
  | [] => .wait
  | first :: _ =>
    let size := first.value.toNat + 5
    if (b.take size).any (!·.stopGood) || decide (largestPayload < first.value.toNat) then .discard
    else if b.length < size then .wait
    else checkFrame ((b.take size).map (·.value)) (b.drop size)

/-- The gathered bytes scanned from their first byte (R168). -/
def scan (b : List LineByte) : Scan :=
  match b with
  | [] => .wait
  | [x] => if x.value = 0x5A && x.stopGood then .wait else .discard
  | x :: y :: rest =>
    if x.value = 0x5A && x.stopGood && decide (y.value = 0xC3) && y.stopGood then scanBody rest else .discard

/-- A start pair has been gathered, so the byte gap timer runs (R168). -/
def inFrame (b : List LineByte) : Bool := decide (2 ≤ b.length)

/-- The gathered bytes change, and the byte gap timer runs while a frame is being gathered. -/
def State.withGathered (s : State) (b : List LineByte) : State :=
  { s with link := { s.link with gathered := b, gapDeadline := if inFrame b then s.ends byteGap else none } }

/-- A good frame restarts the link-silence timer, is offered to the input buffer, and the buffer is served; a full buffer
discards it (R168, R169, R174). -/
def goodFrame (f : Frame) (s : State) : State :=
  let t := s.startSilence
  if t.link.buffer.length < lineCapacity then
    ({ t with link := { t.link with buffer := t.link.buffer ++ [f] } } : State).serveBuffer
  else t

/-- The receiver works through the gathered bytes: after a discard it hunts again from the byte that follows the first byte
of the discarded frame (R168). With `flush` a frame that is not whole is discarded too, but for a lone first byte of a
start pair (log entry 22). -/
def receive (flush : Bool) : Nat → State → State
  | 0, s => s
  | n + 1, s =>
    match scan s.link.gathered with
    | .wait => if flush && inFrame s.link.gathered then receive flush n (s.withGathered s.link.gathered.tail) else s
    | .discard => receive flush n (s.withGathered s.link.gathered.tail)
    | .good f rest => receive flush n (goodFrame f (s.withGathered rest))

/-- One byte reaches the receiver, which may be closed (R168). -/
def takeByte (s : State) (b : LineByte) : State :=
  if s.link.receiving then
    let t := s.withGathered (s.link.gathered ++ [b])
    receive false t.link.gathered.length t
  else s

/-- FRAME_RECEIVED: bytes arrive on the host line; a good frame among them restarts the link-silence timer and is offered
to the input buffer (R168, R169). -/
def execFrameReceived (bytes : List LineByte) (s : State) : Outcome := carried (bytes.foldl takeByte s)

/-- BYTE_GAP_EXPIRY: the frame being gathered is discarded, and the receiver hunts again (R168). -/
def execByteGapExpiry (s : State) : Outcome :=
  carried (if s.link.gapDeadline.isSome then receive true s.link.gathered.length s else s)

/-! ## The transmitter and the link-silence timer -/

/-- START has been sent: the link-silence timer starts, and the receiver begins to hunt (R168, R174, R184). -/
def State.startSent (s : State) : State :=
  let t := s.startSilence
  { t with link := { t.link with receiving := true, gathered := [], gapDeadline := none } }

/-- FRAME_SENT: the frame has been sent whole; the transmitter chooses the next, and a buffered request may then be taken
(R169, R173). -/
def execFrameSent (s : State) : Outcome :=
  carried (match s.link.sending with
  | none => s
  | some x =>
    let t : State := { s with link := { s.link with sending := none } }
    let t := if x.frame.kind = ReportKey.start.code then t.startSent else t
    t.kick.serveBuffer)

/-- The axes whose head context is owned by LINK (R110). A QUEUED head takes no part. They take LINK_SILENT in axis order:
DESIGN CHOICE, log entry 37. -/
def State.linkAxes (s : State) : List Axis :=
  allAxes.filter fun a => (s.head a).any fun c =>
    s.contexts[c].owner = some .link && decide (s.contexts[c].state ≠ .queued)

/-- LINK_SILENCE_EXPIRY: the timer stops, and LINK_SILENT is added to each axis whose head context is owned by LINK (R110,
R174). -/
def execLinkSilenceExpiry (s : State) : Outcome :=
  carried (if s.link.silenceDeadline.isSome then
    settle ({ s with link := { s.link with silenceDeadline := none } }, s.linkAxes.map fun a => .addHold a .linkSilent)
  else s)

end Sys2Proof.Machine
end

