-- ==== Sys2Proof/Machine/ResetCommands.lean ====
section
/-! DEFINITION. Power-on, COLD reset and WARM reset (R184, R185, and each chapter's rules for its resets). -/

namespace Sys2Proof.Machine

/-! ## START and the Link Interface -/

/-- The bits of the axes that hold a fault record (section Byte layouts). -/
def State.faultAxes (s : State) : List Byte := bits (s.axes.toList.map (·.fault.isSome))

/-- The START report (R184, section Byte layouts). -/
def State.startContent (s : State) : List Byte :=
  u8 s.store.lastReset.code ++ bits [s.store.defaulted] ++ s.faultAxes

/-- The Link Interface's start state (R181) with its START entry, whose content is replaced at the end of the start-up
(R184). -/
def linkAtReset : Link :=
  { receiving := false, gathered := [], gapDeadline := none, buffer := [], replies := [], saveTag := none,
    sending := none, reports := [{ key := .start, content := [0, 0, 0] }], reportNumber := 0, silenceDeadline := none,
    resetPending := none }

/-- Every axis posts its AXIS report, and START gets its final content (R184, steps 6 and 7). -/
def State.endStartUp (s : State) : State :=
  let t := allAxes.foldl State.reportAxis s
  t.post .start t.startContent

/-- A reset of this kind is due: a RESET of this kind has been accepted, and the transmitter has finished its frame and sent
every waiting reply, that of RESET the last (R180, steps 3 and 4; log entry 4). -/
def State.resetDue (s : State) (kind : ResetKind) : Bool :=
  decide (s.link.resetPending = some kind ∧ s.link.sending = none ∧ s.link.replies = [])

/-! ## Power-on and COLD reset (R184) -/

/-- Step 1 and 2 (R184): live state as R25, R46, R53, R92, R117, R122, R127, R138, R153 and R162 give it, and the Link
Interface's start state. What a COLD reset keeps is given by its caller. -/
def startLive (frameDeadline : Nat) (sensors : Sensors) (count : Nat) (kind : ResetKind) (s : State) : State :=
  { now := s.now, freeIndex := s.freeIndex, dwellIndex := s.dwellIndex, unsettled := s.unsettled, pending := s.pending,
    config := s.config, budget := budgetStart, zones := Vector.replicate 24 zoneStart, frameDeadline, cue := cueStart,
    axes := { hatch := axisStart, platform := axisStart, windlass := axisStart }, sensors,
    gypsy := { count, reverse := 0, grant := 0 }, contexts := Vector.replicate 16 contextStart,
    queues := { hatch := [], platform := [], windlass := [] }, inputs := s.inputs, vessel := vesselStart,
    permits := permitsStart, pump := pumpStart, chime := chimeStart, panels := Vector.replicate 12 panelStart,
    runs := runsStart, link := linkAtReset,
    store := { s.store with lastReset := kind } }

/-- Step 3 (R183): the image is read; a bad one gives every block its factory defaults and sets DEFAULTED. -/
def loadImage (eeprom : EepromAnswer) (s : State) : State :=
  let image := match eeprom with
    | .answers => readImage s.store.eeprom
    | .silent => none
  { s with config := image.getD factory, store := { s.store with defaulted := image.isNone } }

/-- Step 4 (R184): the switch levels are read afresh, an active anchor-home switch makes the pulse count 0, a position
beyond its margin is the onset of OVERTRAVEL, and the permits are worked out. The count is set before the positions are examined:
DESIGN CHOICE, log entry 36. Several axes beyond their margins take their faults in axis order: DESIGN CHOICE, log entry 44. -/
def install (levels : Inputs) (s : State) : State :=
  let t : State :=
    { s with
      inputs := levels,
      gypsy := { s.gypsy with count := if levels.anchorHome then 0 else s.gypsy.count } }
  settle (t, ((allAxes.filter fun a => beyondMargin t.config.gear a (t.measured a)).map fun a => .fault a .overtravel)
    ++ [.evaluatePermits])

/-- Step 5 (R52, R184): a zone takes its start scene and posts its ZONE report. -/
def startZone (s : State) (z : Fin 24) : State :=
  let t := match s.config.zones[z].startScene.bind (indexOf 32) with
    | some k => settle (recallScene z k s)
    | none => s
  t.reportZone z

/-- Steps 3 to 7 of a start-up (R184). -/
def startUp (eeprom : EepromAnswer) (levels : Inputs) (s : State) : State :=
  (allZones.foldl startZone (install levels (loadImage eeprom s))).endStartUp

/-- POWER_ON: a save in flight ends without success, and the start-up runs with no position and a pulse count of 0
(R184). -/
def execPowerOn (eeprom : EepromAnswer) (levels : Inputs) (s : State) : Outcome :=
  carried (startUp eeprom levels
    (startLive (s.now + framePeriod) { hatch := sensorStart, platform := sensorStart } 0 .powerOn s.failSave))

/-- COLD_RESET: when it is due the start-up runs with the output frame, the sensors and the pulse count kept (R29, R65, R66,
R180, R184); else nothing happens (log entry 4). -/
def execColdReset (eeprom : EepromAnswer) (levels : Inputs) (s : State) : Outcome :=
  carried (if s.resetDue .cold then
    startUp eeprom levels (startLive s.frameDeadline s.sensors s.gypsy.count .cold s.failSave)
  else s)

/-! ## WARM reset (R185) -/

/-- An axis at WARM reset: it keeps its fault record and is in FAULT with one, else in IDLE (R71, R93). -/
def AxisRecord.warm (r : AxisRecord) : AxisRecord :=
  { axisStart with state := if r.fault.isSome then .fault else .idle, fault := r.fault }

/-- A panel at WARM reset: UP with its silence timer started, its frame age 0 and its group empty (R154). Its last completed
group is kept, and GET_PANEL still answers it: DESIGN CHOICE, log entry 45. -/
def Panel.warm (now : Nat) (p : Panel) : Panel :=
  { p with touch := .up, silenceDeadline := some (now + panelSilence), framedAt := some now, group := groupStart }

/-- The blocks that change at once at WARM reset (R53, R93, R117, R127, R134, R135, R154, R162, R181), and the Budget
Allocator's posted demands (R26). -/
def startWarm (s : State) : State :=
  let clear : Slot → Slot := fun k => { k with raw := 0, effective := 0 }
  let t : State :=
    { s with
      budget := { s.budget with posted := none }, cue := cueStart,
      axes := { hatch := s.axes.hatch.warm, platform := s.axes.platform.warm, windlass := s.axes.windlass.warm },
      gypsy := { s.gypsy with reverse := 0 }, contexts := Vector.replicate 16 contextStart,
      queues := { hatch := [], platform := [], windlass := [] }, pump := pumpStart, chime := chimeStart,
      panels := s.panels.map (·.warm s.now), runs := runsStart, link := linkAtReset,
      store := { s.store with lastReset := .warm } }
  (t.onSlot pumpSlot clear).onSlot windlassSlot clear

/-- A zone at WARM reset: its running fades complete at once, its demand is computed when one did, and it posts its ZONE
report (R47). With the new demand every output of the zone is recomputed, as R33 has it, also that of a steady channel, which
R47 alone would leave: DESIGN CHOICE, log entry 35. -/
def warmZone (s : State) (z : Fin 24) : State :=
  let t :=
    if s.zones[z].isFading then
      (s.onZone z fun r => (r.onChannels fun _ c => c.complete).rescale).send (.lightDemand z)
    else s
  t.reportZone z

/-- WARM_RESET: when it is due each block follows its WARM rule, the allocator takes its pass, the zones complete their fades,
and the permits are worked out afresh (R180, R185); else nothing happens (log entry 4). The zones go in ascending number, the
demand of one, with its pass, and its report before the next: DESIGN CHOICE, log entry 42. -/
def execWarmReset (s : State) : Outcome :=
  carried (if s.resetDue .warm then
    ((allZones.foldl warmZone ((startWarm s.failSave).send .pass)).send .evaluatePermits).endStartUp
  else s)

end Sys2Proof.Machine
end

