-- ==== Sys2Proof/Machine/Dispatch.lean ====
section
/-! DEFINITION. The meaning of each command. -/

namespace Sys2Proof.Machine

/-- The effect of a command on everything but the queue. -/
def exec (i : Instr) (s : State) : Host.Outcome State Fault Refusal :=
  match i with
  -- resets (R184, R185)
  | .powerOn eeprom levels => Sys2Proof.Machine.execPowerOn eeprom levels s
  | .coldReset eeprom levels => Sys2Proof.Machine.execColdReset eeprom levels s
  | .warmReset => Sys2Proof.Machine.execWarmReset s
  -- the host line (R168, R170, R173, R174)
  | .frameReceived bytes => Sys2Proof.Machine.execFrameReceived bytes s
  | .byteGapExpiry => Sys2Proof.Machine.execByteGapExpiry s
  | .unknownRequest tag kind => Sys2Proof.Machine.execUnknownRequest tag kind s
  | .frameSent => Sys2Proof.Machine.execFrameSent s
  | .linkSilenceExpiry => Sys2Proof.Machine.execLinkSilenceExpiry s
  -- device requests
  | .getInfo tag => Sys2Proof.Machine.execGetInfo tag s
  | .getStatus tag => Sys2Proof.Machine.execGetStatus tag s
  | .reset tag kind => Sys2Proof.Machine.execReset tag kind s
  | .setLink tag length => Sys2Proof.Machine.execSetLink tag length s
  -- the budget
  | .setSupply tag supply reserve => Sys2Proof.Machine.execSetSupply tag supply reserve s
  | .setSlot tag slot enabled priority cap dmin holdOff => Sys2Proof.Machine.execSetSlot tag slot enabled priority cap dmin holdOff s
  | .setAuxDemand tag slot demand => Sys2Proof.Machine.execSetAuxDemand tag slot demand s
  | .getBudget tag slot => Sys2Proof.Machine.execGetBudget tag slot s
  | .baseLoadSample load => Sys2Proof.Machine.execBaseLoadSample load s
  | .meterSilenceExpiry => Sys2Proof.Machine.execMeterSilenceExpiry s
  | .holdOffExpiry slot => Sys2Proof.Machine.execHoldOffExpiry slot s
  -- zones
  | .setZone tag zone fields => Sys2Proof.Machine.execSetZone tag zone fields s
  | .setLevels tag zone levels fade => Sys2Proof.Machine.execSetLevels tag zone levels fade s
  | .setSetpoint tag zone setpoint => Sys2Proof.Machine.execSetSetpoint tag zone setpoint s
  | .setMode tag zone mode => Sys2Proof.Machine.execSetMode tag zone mode s
  | .getZone tag zone => Sys2Proof.Machine.execGetZone tag zone s
  | .outputFrame => Sys2Proof.Machine.execOutputFrame s
  | .temperatureSample zone temperature => Sys2Proof.Machine.execTemperatureSample zone temperature s
  | .lossTimerExpiry zone => Sys2Proof.Machine.execLossTimerExpiry zone s
  -- scenes and cues
  | .storeScene tag scene record => Sys2Proof.Machine.execStoreScene tag scene record s
  | .recallScene tag zone scene => Sys2Proof.Machine.execRecallScene tag zone scene s
  | .cueAdd tag entry => Sys2Proof.Machine.execCueAdd tag entry s
  | .cueClear tag => Sys2Proof.Machine.execCueClear tag s
  | .cueCommit tag mode => Sys2Proof.Machine.execCueCommit tag mode s
  | .cueStatus tag position => Sys2Proof.Machine.execCueStatus tag position s
  | .capTimerExpiry => Sys2Proof.Machine.execCapTimerExpiry s
  -- axes
  | .setAxis tag axis fields => Sys2Proof.Machine.execSetAxis tag axis fields s
  | .getAxis tag axis => Sys2Proof.Machine.execGetAxis tag axis s
  | .ackFault tag axis => Sys2Proof.Machine.execAckFault tag axis s
  | .positionSample axis position => Sys2Proof.Machine.execPositionSample axis position s
  | .staleTimerExpiry axis => Sys2Proof.Machine.execStaleTimerExpiry axis s
  | .windlassPulse payingOut => Sys2Proof.Machine.execWindlassPulse payingOut s
  | .anchorHomeChange active => Sys2Proof.Machine.execAnchorHomeChange active s
  | .overloadInput active => Sys2Proof.Machine.execOverloadInput active s
  | .warnTimeReached axis => Sys2Proof.Machine.execWarnTimeReached axis s
  | .prepareTimerExpiry axis => Sys2Proof.Machine.execPrepareTimerExpiry axis s
  | .stallWindowExpiry axis => Sys2Proof.Machine.execStallWindowExpiry axis s
  | .dwellEnd axis => Sys2Proof.Machine.execDwellEnd axis s
  | .stopTimerExpiry axis => Sys2Proof.Machine.execStopTimerExpiry axis s
  -- programs
  | .openProgram tag context axis => Sys2Proof.Machine.execOpenProgram tag context axis s
  | .programStep tag context step => Sys2Proof.Machine.execProgramStep tag context step s
  | .cancelAtBoundary tag context => Sys2Proof.Machine.execCancelAtBoundary tag context s
  | .cancelImmediate tag context => Sys2Proof.Machine.execCancelImmediate tag context s
  | .pauseProgram tag context => Sys2Proof.Machine.execPauseProgram tag context s
  | .resumeProgram tag context => Sys2Proof.Machine.execResumeProgram tag context s
  | .getProgram tag context => Sys2Proof.Machine.execGetProgram tag context s
  | .starvationTimerExpiry context => Sys2Proof.Machine.execStarvationTimerExpiry context s
  -- interlocks
  | .setInterlock tag axis direction terms => Sys2Proof.Machine.execSetInterlock tag axis direction terms s
  | .setInterlockCommon tag settings => Sys2Proof.Machine.execSetInterlockCommon tag settings s
  | .setVessel tag speed shore flagA flagB => Sys2Proof.Machine.execSetVessel tag speed shore flagA flagB s
  | .fieldInputChange input active => Sys2Proof.Machine.execFieldInputChange input active s
  | .vesselAgeingExpiry => Sys2Proof.Machine.execVesselAgeingExpiry s
  -- chime
  | .setPattern tag pattern record => Sys2Proof.Machine.execSetPattern tag pattern record s
  | .chimePlay tag pattern repeats zones => Sys2Proof.Machine.execChimePlay tag pattern repeats zones s
  | .chimeStop tag => Sys2Proof.Machine.execChimeStop tag s
  | .chimeClear tag => Sys2Proof.Machine.execChimeClear tag s
  | .motionNoteEnd axis => Sys2Proof.Machine.execMotionNoteEnd axis s
  | .noticeNoteEnd => Sys2Proof.Machine.execNoticeNoteEnd s
  -- panels and actions
  | .setPanel tag panel record => Sys2Proof.Machine.execSetPanel tag panel record s
  | .setTagmap tag panel entry record => Sys2Proof.Machine.execSetTagmap tag panel entry record s
  | .getPanel tag panel part => Sys2Proof.Machine.execGetPanel tag panel part s
  | .panelFrame panel frame => Sys2Proof.Machine.execPanelFrame panel frame s
  | .panelSilenceExpiry panel => Sys2Proof.Machine.execPanelSilenceExpiry panel s
  | .setBinding tag bound record => Sys2Proof.Machine.execSetBinding tag bound record s
  | .releaseTimerExpiry axis => Sys2Proof.Machine.execReleaseTimerExpiry axis s
  -- the stored image
  | .saveConfig tag => Sys2Proof.Machine.execSaveConfig tag s
  | .saveComplete result => Sys2Proof.Machine.execSaveComplete result s
  | .saveTimerExpiry => Sys2Proof.Machine.execSaveTimerExpiry s

end Sys2Proof.Machine
end

