-- ==== Sys2Proof/Safety.lean ====
section
/-! DEFINITION. The terms in which claims about the SNL-740 are stated: views of the state that leave out what a command may
change, what reaches the host, and the laws that every step keeps. -/

namespace Sys2Proof.Machine

/-! ## What the host is sent -/

/-- The frames on their way to the host ahead of every waiting report, in the order in which they leave: the frame on the
transmit line, and the reply list (R173). -/
def State.outgoing (s : State) : List Frame :=
  (s.link.sending.map (·.frame)).toList ++ s.link.replies.map (·.frame)

/-- A report with this key and content waits in the report queue, or its frame is on the transmit line (R173, R176). -/
def State.reported (s : State) (key : ReportKey) (content : List Byte) : Prop :=
  (⟨key, content⟩ : ReportEntry) ∈ s.link.reports
    ∨ ∃ x, s.link.sending = some x ∧ x.frame.kind = key.code ∧ x.frame.payload = content

/-! ## Views that leave out what a command may change -/

/-- The state but for the Link Interface. -/
def State.core (s : State) : State := { s with link := linkStart }

/-- The Link Interface but for the reply list and the transmit line. -/
def Link.quiet (l : Link) : Link := { l with replies := [], sending := none }

/-- The Link Interface but for what it transmits: replies, reports, the report number and the transmit line. -/
def Link.base (l : Link) : Link := { l.quiet with reports := [], reportNumber := 0 }

/-- Nothing has changed but that one reply more is on its way to the host. -/
def State.onlyAnswers (s t : State) (f : Frame) : Prop :=
  t.core = s.core ∧ t.link.quiet = s.link.quiet ∧ t.outgoing = s.outgoing ++ [f]

/-- What the signals between the blocks never change: the configuration, the clock, the inputs, the sensors, the pulse count,
the vessel data, the panels, the stored image, the base-load history with its mode and timer, and the receive side of the
Link Interface. Every other field is replaced by its value at reset. -/
def State.fixed (s : State) : State :=
  { State.reset with
    now := s.now, freeIndex := s.freeIndex, pending := s.pending, config := s.config,
    budget := { budgetStart with
      history := s.budget.history, mode := s.budget.mode, meterDeadline := s.budget.meterDeadline },
    frameDeadline := s.frameDeadline, sensors := s.sensors,
    gypsy := { count := s.gypsy.count, reverse := 0, grant := 0 }, inputs := s.inputs, vessel := s.vessel,
    panels := s.panels, link := s.link.base, store := s.store }

/-- What a zone holds but for what follows from its demands and grants: its mode, setpoint and temperature, and its channels
without their outputs. -/
def Zone.look (z : Zone) : Zone :=
  { z with
    demand := 0, lightGrant := 0, channels := z.channels.map fun c => { c with output := 0 },
    climate := { z.climate with direction := .none, demanded := .off, running := .off, grant := 0 } }

/-- The looks of all zones. -/
def State.looks (s : State) : Vector Zone 24 := s.zones.map (·.look)

/-- The state of the axes and of the programs that run on them. -/
structure Motion where
  axes : PerAxis AxisRecord
  contexts : Vector Context 16
  queues : PerAxis (List (Fin 16))
  runs : PerAxis (Option RunRecord)
  deriving DecidableEq, Repr

/-- The axes and programs of a state. -/
def State.motion (s : State) : Motion :=
  { axes := s.axes, contexts := s.contexts, queues := s.queues, runs := s.runs }

/-! ## Answers and changes -/

/-- An OK reply (R170). -/
def okFrame (kind tag : Byte) (fields : List Byte) : Frame := replyFrame kind tag .ok fields

/-- A request refused with a result code changes nothing but that its reply is on its way to the host (R170). -/
def State.refuses (s t : State) (kind tag : Byte) (result : Result) : Prop :=
  s.onlyAnswers t (replyFrame kind tag result [])

/-- One OK reply more is on its way to the host than in `s` (R170). -/
def State.answers (s t : State) (kind tag : Byte) (fields : List Byte) : Prop :=
  t.outgoing = s.outgoing ++ [okFrame kind tag fields]

/-- `t` is `s` but for what the Link Interface transmits. -/
def State.becomes (s t : State) : Prop := t.core = s.core ∧ t.link.base = s.link.base

/-- `t` is `s` but for what the signals between the blocks change: the looks of the zones, the staged cue and all that
`State.fixed` keeps are those of `s`. -/
def State.follows (s t : State) : Prop := t.fixed = s.fixed ∧ t.looks = s.looks ∧ t.cue = s.cue

/-- The program of a context of this axis has ended with a status (R112, R114): the context is FREE and has left its queue,
and its PROGRAM_END report waits or is being sent. -/
def State.programEnded (s t : State) (c : Fin 16) (a : Axis) (status : EndStatus) : Prop :=
  t.contexts[c].state = .free ∧ t.contexts[c].axis = none ∧ t.contexts[c].steps = [] ∧ c ∉ t.queue a
    ∧ t.reported (.programEnd c) (s.endContent c a status)

/-- A zone runs the highest stage, no higher than the demanded one, whose current is at most its climate grant, and OFF when
no stage from FAN up qualifies (R39). -/
def Zone.runsWithin (config : ZoneConfig) (z : Zone) : Prop :=
  z.climate.running.code ≤ z.climate.demanded.code
    ∧ (z.climate.running = .off ∨ config.stageCurrent z.climate.running ≤ z.climate.grant)
    ∧ ∀ x ∈ [Stage.fan, .stage1, .stage2], x.code ≤ z.climate.demanded.code →
        config.stageCurrent x ≤ z.climate.grant → x.code ≤ z.climate.running.code

/-- R39 for every zone. -/
def State.stageLaw (s : State) : Prop := ∀ z : Fin 24, s.zones[z].runsWithin s.config.zones[z]

/-! ## The budget (R14, R18) -/

/-- The pass result record is that of a pass on the configuration, the mode, the history and the demands in force: the short
list names each ranked slot whose grant is below its effective demand, in rank order, and SAT stands for a raw demand above its
cap (R11, R14, R15, R17). -/
def State.passed (s : State) : Prop :=
  let r := s.budget.result
  r.number = s.budget.passNumber ∧ r.mode = s.budget.mode
    ∧ r.usable = usableSupply s.config.supply s.config.reserve ∧ r.peak = s.passPeak ∧ s.budget.heldPeak = r.peak
    ∧ r.available = (r.usable : Int) - r.peak ∧ r.total = (s.grants).sum ∧ r.headroom = r.available - r.total
    ∧ (r.flags.neg = decide (r.available < 0)) ∧ (r.flags.zero = decide (r.headroom = 0))
    ∧ (r.flags.held = decide (r.mode = .hold)) ∧ (r.flags.short = !r.shortList.isEmpty)
    ∧ r.flags.sat = decide (∃ k : Fin 52, s.config.slots[k].cap < s.raw k)
    ∧ r.shortList = (s.ranked.filter fun k =>
        decide (s.budget.slots[k].grant < s.budget.slots[k].effective)).map (·.val)

/-- R18, sum of grants, in NORMAL mode: it never exceeds max(0, A) of the latest pass. -/
def State.sumWithin (s : State) : Prop :=
  s.budget.mode = .normal → (s.grants.sum : Int) ≤ max 0 s.budget.result.available

/-- R18, each grant: every effective demand is at most its cap, and, unless a step has outrun its bound of signals (log
entry 8), every grant is at most its effective demand. -/
def State.grantsWithin (s : State) : Prop :=
  ∀ k : Fin 52, s.budget.slots[k].effective ≤ (s.slotConfig k).cap
    ∧ (s.unsettled = false → s.budget.slots[k].grant ≤ s.budget.slots[k].effective)

/-! ## Zones (R33) -/

/-- A thousand times the current that a level of each channel draws. -/
def draw (rated : Vector Nat 4) (levels : Vector Nat 4) : Nat :=
  ((List.finRange 4).map fun i : Fin 4 => levels[i] * rated[i]).sum

/-- A channel lies where its fade has taken it: a running fade's level is that of its frames done, and a channel that does
not fade is at its target (R28, R31). -/
def Channel.onFade (c : Channel) : Prop :=
  if c.fading then
    (c.framesDone = 0 ∧ c.level = c.fadeStart)
      ∨ (c.framesDone < c.framesTotal ∧ c.level = fadeLevel c.fadeStart c.target c.framesDone c.framesTotal)
  else c.level = c.target

/-- A zone draws no more than its demand foresees: every channel is on its fade, no fade passes above the higher of level and
target, and the demand covers the higher of each channel's level and target (R32). -/
def Zone.foreseen (rated : Vector Nat 4) (z : Zone) : Prop :=
  (∀ i : Fin 4, z.channels[i].onFade)
    ∧ draw rated (z.channels.map fun c => max c.level c.target) ≤ 1000 * z.demand

/-- Every output follows its level, the demand and the grant (R33). -/
def Zone.outputsFollow (z : Zone) : Prop :=
  ∀ i : Fin 4, z.channels[i].output = scaledOutput z.channels[i].level z.lightGrant z.demand

/-- R33, the law of each zone: unless a step has outrun its bound of signals (log entry 8), the demand foresees the draw and
the outputs follow. -/
def State.zonesWithin (s : State) : Prop :=
  s.unsettled = false → ∀ z : Fin 24, s.zones[z].foreseen s.config.zones[z].rated ∧ s.zones[z].outputsFollow

/-! ## Axes, pump, programs and permits -/

/-- The pulse count is 0 whenever the anchor-home switch is active (R66). -/
def State.homeLaw (s : State) : Prop := s.inputs.anchorHome = true → s.gypsy.count = 0

/-- One axis record is as its state requires: a fault record exactly in FAULT, drive and stall window in MOVING alone, a
timer in its own state alone, and the hold set and current step of each state (R69, R71, R73, R77, R79, R80, R82, R85). -/
def AxisRecord.lawful (r : AxisRecord) : Prop :=
  (r.state = .fault ↔ r.fault.isSome = true)
    ∧ (r.state = .moving →
        r.holds = noHolds ∧ ∃ c, r.current = some c ∧ r.drive = moveDrive c.step.direction r.speed)
    ∧ (r.state ≠ .moving → r.drive = driveOff ∧ r.stall = none)
    ∧ (r.state ≠ .preparing → r.warnStart = none ∧ r.prepareDeadline = none)
    ∧ (r.state ≠ .dwell → r.dwellDeadline = none)
    ∧ (r.state ≠ .stopping → r.stopDeadline = none)
    ∧ (r.state = .dwell → r.holds = noHolds ∧ r.current.isSome = true)
    ∧ (r.state = .hold → r.holds ≠ noHolds)
    ∧ (r.state = .stopping → r.current = none → r.holds = noHolds)
    ∧ (r.state = .idle ∨ r.state = .fault → r.holds = noHolds ∧ r.current = none)

/-- Every axis record is lawful. -/
def State.axesLawful (s : State) : Prop := ∀ a : Axis, (s.axis a).lawful

/-- A fresh position sensor has a position, and, unless a step has outrun its bound of signals (log entry 8), the sensor of a
hydraulic axis is fresh in every state but IDLE and FAULT (R65, R74, R84). -/
def State.sensorLaw (s : State) : Prop :=
  ∀ h : Hydraulic,
    ((s.sensors.get h).fresh = true → (s.sensors.get h).position ≠ none)
      ∧ (s.unsettled = false → (s.axis (axisOfHydraulic h)).state ≠ .idle →
          (s.axis (axisOfHydraulic h)).state ≠ .fault → (s.sensors.get h).fresh = true)

/-- A hydraulic axis in MOVING, DWELL or STOPPING owns the pump (R127). -/
def State.pumpLaw (s : State) : Prop :=
  ∀ h : Hydraulic, (s.axis (axisOfHydraulic h)).state.keepsPump = true → s.pump.owner = some h

/-- The pump run output is on exactly while the pump has an owner and the last delivered grant equals slot 48's raw demand
(R129). -/
def State.runLaw (s : State) : Prop :=
  s.pump.run = true ↔ s.pump.owner.isSome = true ∧ s.pump.grant = s.raw pumpSlot

/-- The head of a queue is QUEUED only while its axis is in FAULT, where it is not ACTIVE, and an axis's current step is one of
its ACTIVE or CLOSING head context, never held in IDLE or FAULT (R85, R95, R96, R103). -/
def State.headLaw (s : State) : Prop :=
  (∀ (a : Axis) (c : Fin 16), s.head a = some c →
      (s.contexts[c].state = .queued → (s.axis a).state = .fault)
        ∧ ((s.axis a).state = .fault → s.contexts[c].state ≠ .active))
    ∧ (∀ a : Axis, (s.axis a).state = .idle ∨ (s.axis a).state = .fault → (s.axis a).current = none)
    ∧ (∀ (a : Axis) (x : CurrentStep), (s.axis a).current = some x →
        s.head a = some x.context
          ∧ (s.contexts[x.context].state = .active ∨ s.contexts[x.context].state = .closing))

/-- Every context that is not FREE is bound to one axis and stands once in that axis's queue, a FREE one is bound to none, and
only the head of a queue is ACTIVE or CLOSING; and, unless a step has outrun its bound of signals (log entry 8), heads and
current steps are as `State.headLaw` says (R95, R96, R103). -/
def State.queueLaw (s : State) : Prop :=
  (∀ a : Axis, (s.queue a).Nodup)
    ∧ (∀ (c : Fin 16) (a : Axis), c ∈ s.queue a ↔ s.contexts[c].axis = some a)
    ∧ (∀ c : Fin 16, s.contexts[c].state = .free ↔ s.contexts[c].axis = none)
    ∧ (∀ c : Fin 16, s.contexts[c].state = .free ↔ s.contexts[c].owner = none)
    ∧ (∀ (c : Fin 16) (a : Axis), s.contexts[c].state = .active ∨ s.contexts[c].state = .closing →
        s.contexts[c].axis = some a → s.head a = some c)
    ∧ (s.unsettled = false → s.headLaw)

/-- The program of a context of this axis has ended with a status other than COMPLETE: it and every context behind it have
left the queue, and those behind have ended ABANDONED (R112, R113). -/
def State.stopsWith (s t : State) (c : Fin 16) (a : Axis) (status : EndStatus) : Prop :=
  s.programEnded t c a status ∧ t.queue a = (s.queue a).takeWhile (· ≠ c)
    ∧ ∀ b ∈ behindIn c (s.queue a), s.programEnded t b a .abandoned

/-- An axis has acted on the end of the program it executed: it is on its way to IDLE through STOPPING when it moved or
stopped, else in IDLE; an axis that executed no program keeps its state (R83). -/
def State.axisReleased (s t : State) (a : Axis) : Prop :=
  if (s.axis a).takesReason then
    (t.axis a).current = none ∧ (t.axis a).holds = noHolds
      ∧ (t.axis a).state = (if (s.axis a).state = .moving ∨ (s.axis a).state = .stopping then .stopping else .idle)
      ∧ ((s.axis a).state = .moving → (t.axis a).drive = driveOff ∧ (t.axis a).stopDeadline = some (s.now + stopTime a))
  else (t.axis a).state = (s.axis a).state ∧ (t.axis a).fault = (s.axis a).fault
    ∧ (t.axis a).stopDeadline = (s.axis a).stopDeadline

/-- The owner of the pump has given it up: a waiting axis owns it, with the rating posted, and else it is free, with 0 posted
and the run output off (R130). -/
def State.givesPumpUp (s t : State) (h : Hydraulic) : Prop :=
  s.pump.waiting ≠ some h →
    t.pump.owner = s.pump.waiting ∧ t.pump.waiting = none
      ∧ t.raw pumpSlot = (if s.pump.waiting = none then 0 else s.config.pumpRating)
      ∧ (s.pump.waiting = none → t.pump.run = false)

/-- An axis that was in no FAULT has entered it by a fault of this kind: its outputs are off, its hold set is empty, its
record names the position and the program it was executing, and, unless the step has outrun its bound of signals (log
entry 8), that program has ended FAULTED, the windlass has withdrawn its demand, and an owner has given the pump up to the
axis that waits for it (R85, R86, R130). -/
def State.entersFault (s t : State) (a : Axis) (kind : FaultKind) : Prop :=
  (t.axis a).state = .fault ∧ (t.axis a).drive = driveOff ∧ (t.axis a).holds = noHolds ∧ (t.axis a).current = none
    ∧ ((t.axis a).fault.map fun f => (f.kind, f.position, f.context)) =
        some (kind, s.measured a, if (s.axis a).takesReason then s.head a else none)
    ∧ (s.queueLaw → t.unsettled = false → (s.axis a).takesReason = true →
        ∀ c, s.head a = some c → s.stopsWith t c a .faulted)
    ∧ (s.queueLaw → t.unsettled = false → (a = .windlass → t.raw windlassSlot = 0)
        ∧ ∀ h, hydraulicOf a = some h → s.pump.owner = some h → s.givesPumpUp t h)

/-- Every slot of an owner inside the part holds what its owner posts: a lighting slot the demand of its zone, a climate slot
the current of its zone's demanded stage, the pump slot the pump rating while the pump has an owner, and the windlass slot the
windlass rating while the windlass executes a program, each of the two 0 otherwise, unless a step has outrun its bound of
signals (R7, R32, R37, log entry 8). -/
def State.demandLaw (s : State) : Prop :=
  s.unsettled = false →
    (∀ z : Fin 24, s.raw (lightSlot z) = s.zones[z].demand
        ∧ s.raw (climateSlot z) = s.config.zones[z].stageCurrent s.zones[z].climate.demanded)
      ∧ s.raw pumpSlot = (if s.pump.owner.isSome = true then s.config.pumpRating else 0)
      ∧ s.raw windlassSlot = (if s.axes.windlass.takesReason = true then s.config.gear.rating else 0)

/-- Every grant has reached the owner of its slot, and is recorded as the grant last delivered, unless a step has outrun its
bound of signals (R7, R16, R19, log entry 8). -/
def State.grantsDelivered (s : State) : Prop :=
  (∀ k : Fin 52, s.budget.slots[k].delivered = s.budget.slots[k].grant)
    ∧ (s.unsettled = false →
        (∀ z : Fin 24, s.zones[z].lightGrant = s.budget.slots[lightSlot z].grant
          ∧ s.zones[z].climate.grant = s.budget.slots[climateSlot z].grant)
        ∧ s.pump.grant = s.budget.slots[pumpSlot].grant ∧ s.gypsy.grant = s.budget.slots[windlassSlot].grant)

/-- The states in which the motion lane of an axis is active (R134). -/
def AxisState.warns (x : AxisState) : Prop := x = .preparing ∨ x = .moving ∨ x = .stopping

/-- Every pattern has a note, and a motion lane is active exactly while its axis is in PREPARING, MOVING or STOPPING (R132,
R134). -/
def State.laneLaw (s : State) : Prop :=
  (∀ k : Fin 8, s.config.patterns[k].notes ≠ [])
    ∧ ∀ a : Axis, (s.chime.lanes.get a).isSome = true ↔ (s.axis a).state.warns

/-! ### Entry to PREPARING -/

/-- The step with which an axis enters PREPARING: the current step, or, where it holds none, the oldest step of its head context
(R74). -/
def State.entryStep (s : State) (a : Axis) : Option CurrentStep :=
  (s.axis a).current.or ((s.head a).bind fun c => s.contexts[c].steps.head?.map fun y => { context := c, step := y })

/-- An axis has the grant it needs: the windlass its raw demand, a hydraulic axis the pump with its raw demand (R131). -/
def State.powered (s : State) (a : Axis) : Bool :=
  (hydraulicOf a).elim (decide (s.gypsy.grant = s.raw windlassSlot)) fun h =>
    decide (s.pump.owner = some h) && decide (s.pump.grant = s.raw pumpSlot)

/-- Nothing makes an axis fault at its entry to PREPARING with this step, or end it there: a hydraulic sensor is fresh, the
windlass has no overload, and no dwell of 0 ends at the entry. The pump's owner does not wait for it (R74, R78, R84, R128). -/
def State.mayPrepare (s : State) (a : Axis) (x : Option CurrentStep) : Prop :=
  ((hydraulicOf a).elim (s.inputs.overload = false) fun h =>
      (s.sensors.get h).fresh = true ∧ (s.pump.waiting ≠ none → s.pump.waiting ≠ s.pump.owner))
    ∧ ((s.config.axes.get a).warnTime = 0 → ∀ y, x = some y →
        y.step.arrived a (s.measured a) = true → y.step.dwellTime ≠ 0)

/-- An axis has entered PREPARING with this step. Its power is asked for: the windlass rating is posted, and a hydraulic axis
owns the pump or waits for it. With a warn time other than 0 it stays there, its warn timer started anew and its prepare timer
running for the timeout, or stopped for a timeout of 0. A warn time of 0 is reached at the entry, and where the other gates
are met too the axis is in MOVING, or in DWELL with an arrived step. A grant below the demand may have added SHED (R74, R75,
R76, R78, R82, R128, R131). -/
def State.prepares (s t : State) (a : Axis) (x : Option CurrentStep) : Prop :=
  let r := t.axis a
  let c := s.config.axes.get a
  r.current = x ∧ r.stopDeadline = none
    ∧ (r.holds = noHolds ∨ (r.holds = { noHolds with shed := true } ∧ t.powered a = false))
    ∧ ((hydraulicOf a).elim (t.raw windlassSlot = s.config.gear.rating) fun h =>
        t.pump.owner = some h ∨ t.pump.waiting = some h)
    ∧ if c.warnTime = 0 ∧ r.holds = noHolds ∧ t.powered a = true
          ∧ x.any (fun y => y.step.direction.interlock.all (t.permit a)) = true then
        ∀ y, x = some y →
          if y.step.arrived a (s.measured a) = true then
            r.state = .dwell ∧ r.drive = driveOff ∧ r.dwellDeadline = some (s.now + y.step.dwellTime)
          else
            r.state = .moving
              ∧ r.drive = moveDrive y.step.direction (y.step.speedInForce a (s.measured a))
              ∧ r.stall = some { deadline := s.now + stallTime a, startedAt := s.progressAt a }
      else
        r.state = .preparing ∧ r.drive = driveOff ∧ r.warnStart = some s.now ∧ r.warnReached = decide (c.warnTime = 0)
          ∧ r.prepareDeadline = (if c.prepareTimeout = 0 then none else some (s.now + 1000 * c.prepareTimeout))

/-- An axis in IDLE has taken up the oldest step of its ACTIVE head context: the step has left the queue of the context, and the
axis has entered PREPARING with it, or FAULT where its sensor is stale or the windlass overloaded (R73, R74, R84). -/
def State.takesUp (s t : State) (a : Axis) (c : Fin 16) (steps : List Step) : Prop :=
  ∀ y rest, steps = y :: rest →
    let x : CurrentStep := { context := c, step := y }
    let faulted (kind : FaultKind) : Prop := (t.axis a).state = .fault
      ∧ (t.axis a).fault = some { kind := kind, position := s.measured a, context := some c, count := 1 }
    (s.mayPrepare a (some x) →
        s.prepares t a (some x) ∧ t.contexts[c].state = .active ∧ t.contexts[c].steps = rest)
      ∧ (∀ h, hydraulicOf a = some h → (s.sensors.get h).fresh = false → faulted .sensor)
      ∧ (a = .windlass → s.inputs.overload = true → faulted .overload)

/-! ### The hold set -/

/-- What a reason that joins the hold set of an axis does, with the set that it leaves: MOVING goes to STOPPING, DWELL to
HOLD, and every other state that takes a reason stays. An axis that takes no reason, or holds this one already, stays whole
(R79, R80, R81). -/
def State.takesHold (s t : State) (a : Axis) (held : Bool) (set : HoldSet) : Prop :=
  let r := s.axis a
  if r.takesReason = true ∧ held = false then
    (t.axis a).holds = set ∧ (t.axis a).current = r.current ∧ (t.axis a).fault = r.fault
      ∧ (r.state = .moving → (t.axis a).state = .stopping ∧ (t.axis a).drive = driveOff
          ∧ (t.axis a).stopDeadline = some (s.now + stopTime a))
      ∧ (r.state = .dwell → (t.axis a).state = .hold ∧ (t.axis a).dwellDeadline = none)
      ∧ (r.state ≠ .moving → r.state ≠ .dwell → (t.axis a).state = r.state)
  else t.axis a = r

/-- What the removal of a reason does, with the set that it leaves: in HOLD an axis with an empty set prepares again; in
PREPARING it moves when its gates are met; else nothing but the set changes. A reason that is not held changes nothing (R80,
R82, R131). -/
def State.dropsHold (s t : State) (a : Axis) (held : Bool) (left : HoldSet) : Prop :=
  let r := s.axis a
  (r.state ≠ .preparing → held = false → t.axis a = r)
    ∧ (held = true → (left ≠ noHolds ∨ (r.state ≠ .hold ∧ r.state ≠ .preparing)) → t.axis a = { r with holds := left })
    ∧ (held = true → left = noHolds → r.state = .hold → s.mayPrepare a (s.entryStep a) → t.unsettled = false →
        s.prepares t a (s.entryStep a))
    ∧ (left = noHolds → r.state = .preparing → ∀ x, r.current = some x →
        if s.gatesMet a x.step = true then
          x.step.arrived a (s.measured a) = false →
            (t.axis a).state = .moving ∧ (t.axis a).holds = noHolds
              ∧ (t.axis a).drive = moveDrive x.step.direction (x.step.speedInForce a (s.measured a))
        else t.axis a = { r with holds := left })

/-! ### Position changes -/

/-- What a new measured position, within the soft limits, does to an axis in MOVING: arrived, it dwells; else it goes on with
the speed class in force for the new distance, and with an AXIS report when the position is a travel report step away from the
travel reference, which then becomes the position (R70, R72, R76, R78, R90). -/
def State.movesOn (s t : State) (a : Axis) (x : CurrentStep) (p : Int) : Prop :=
  let r := t.axis a
  let direction := x.step.direction
  let tolerance : Int := if a = .hatch then 5 else if a = .platform then 10 else 250
  let there := if direction = .out then x.step.target - tolerance ≤ p
    else if direction = .inward then p ≤ x.step.target + tolerance else True
  if there then x.step.dwellTime ≠ 0 →
    r.state = .dwell ∧ r.drive = driveOff ∧ r.dwellDeadline = some (s.now + x.step.dwellTime)
  else
    r.state = .moving
      ∧ r.speed = (if x.step.speedClass = .normal ∧ |x.step.target - p| ≤ approachZone a then .slow
          else x.step.speedClass)
      ∧ r.drive = moveDrive direction r.speed
      ∧ if travelStep a ≤ |p - (s.axis a).travelRef| then r.travelRef = p ∧ t.reported (.axis a) (t.axisContent a)
        else r.travelRef = (s.axis a).travelRef

/-! ### Permits -/

/-- The six permits are those that the tests give now, unless a step has outrun its bound of signals (R121, R123, log
entry 8). -/
def State.permitsFresh (s : State) : Prop := s.unsettled = false → s.permits = s.workedPermits

/-- No axis is in MOVING in a direction whose permit is false, unless a step has outrun its bound of signals (R76, R123, log
entry 8). -/
def State.movesPermitted (s : State) : Prop :=
  s.unsettled = false → ∀ (a : Axis) (d : Direction), (s.axis a).state = .moving → (s.axis a).stepDirection = some d →
    s.permit a d = true

/-! ## Cues and reports -/

/-- At most 48 entries stand in the staging list, and at most one for each pair of zone and kind (R53). -/
def State.cueLaw (s : State) : Prop :=
  s.cue.entries.length ≤ cueCapacity
    ∧ s.cue.entries.Pairwise fun a b => a.matches b = false

/-- The place of a report key's tier: START, the urgent keys, and the others (R176). -/
def ReportKey.tier (k : ReportKey) : Nat := if k = .start then 0 else if k.urgent then 1 else 2

/-- One entry stands for each key, and START stands before the urgent tier and the urgent tier before the rest (R176). -/
def State.reportLaw (s : State) : Prop :=
  (s.link.reports.map (·.key)).Nodup
    ∧ s.link.reports.Pairwise fun a b => a.key.tier ≤ b.key.tier

/-! ## The configuration -/

/-- A scene record within its ranges (R48). -/
def Scene.valid (r : Scene) : Prop :=
  (∀ l ∈ r.levels.toList, ∀ v ∈ l, v ≤ 1000) ∧ r.fade ≤ 60000 ∧ r.fade % 10 = 0
    ∧ (∀ v ∈ r.setpoint, 160 ≤ v ∧ v ≤ 300 ∧ v % 5 = 0) ∧ (∀ m ∈ r.mode, m ≤ 255)

/-- A load slot's configuration within its ranges (R6). -/
def SlotConfig.valid (cls : SlotClass) (c : SlotConfig) : Prop :=
  c.priority ≤ 31 ∧ c.cap ≤ 4000 ∧ c.dmin ≤ 4000 ∧ c.holdOff ≤ 600
    ∧ (cls ≠ .divisible → c.dmin = 0) ∧ (cls = .divisible → c.holdOff = 0)

/-- A zone's configuration within its ranges (R27). -/
def ZoneConfig.valid (c : ZoneConfig) : Prop :=
  (∀ r ∈ c.rated.toList, r ≤ 160) ∧ c.fan ≤ c.stage1 ∧ c.stage1 ≤ c.stage2 ∧ c.stage2 ≤ 400 ∧ c.volume ≤ 255
    ∧ (∀ n ∈ c.startScene, n ≤ 31)

/-- An axis's configuration within its ranges (R67). -/
def AxisConfig.valid (gear : GearConfig) (a : Axis) (c : AxisConfig) : Prop :=
  (∀ p ∈ c.presets.toList, 0 ≤ p ∧ p ≤ upperLimit gear a) ∧ c.warnTime ≤ 10000 ∧ c.prepareTimeout ≤ 120
    ∧ c.warnZones = sortZones c.warnZones

/-- The gear's configuration within its ranges (R67). -/
def GearConfig.valid (g : GearConfig) : Prop :=
  10000 ≤ g.maxRode ∧ g.maxRode ≤ 150000 ∧ 1 ≤ g.pulses ∧ g.pulses ≤ 64 ∧ 100 ≤ g.chain ∧ g.chain ≤ 2000
    ∧ g.rating ≤ 4000

/-- A pattern within its ranges (R132). -/
def Pattern.valid (p : Pattern) : Prop :=
  1 ≤ p.notes.length ∧ p.notes.length ≤ 8
    ∧ ∀ n ∈ p.notes, n.pitch ≤ 96 ∧ 10 ≤ n.duration ∧ n.duration ≤ 2000

/-- A panel's configuration within its ranges (R140). -/
def PanelConfig.valid (c : PanelConfig) : Prop :=
  c.base ≤ 23 ∧ c.limit ≤ 23 ∧ (c.cls = .guest → c.permissions = { hatch := false, platform := false, windlass := false })
    ∧ 1 ≤ c.oversample ∧ c.oversample ≤ 8 ∧ c.threshold ≤ 1023
    ∧ (∀ k ∈ c.coefficients.toList, -2147483648 ≤ k ∧ k ≤ 2147483647)
    ∧ 1 ≤ c.width ∧ c.width ≤ 2047 ∧ 1 ≤ c.height ∧ c.height ≤ 2047

/-- A tag map entry within its ranges (R144). -/
def TagEntry.valid (e : TagEntry) : Prop :=
  e.x0 ≤ 2047 ∧ e.y0 ≤ 2047 ∧ e.x1 ≤ 2047 ∧ e.y1 ≤ 2047 ∧ e.tag ≤ 255

/-- A binding within its ranges, with the fields that its kind does not read stored as R155 gives. -/
def Binding.valid (b : Binding) : Prop :=
  (b.kind.isZone = false → b.target = none) ∧ (b.kind ≠ .axisGoto → b.axis = .hatch ∧ b.preset = 0 ∧ b.holdToRun = false)
    ∧ b.argument ≤ (match b.kind with
        | .scene => 31
        | .levelUp => 1000
        | .levelDown => 1000
        | .mode => 255
        | _ => 0)

/-- Every field of the configuration lies in the range that its rule gives (R183). -/
def Configuration.valid (c : Configuration) : Prop :=
  c.supply ≤ 40000 ∧ c.reserve ≤ 50 ∧ (∀ k : Fin 52, c.slots[k].valid (slotClass k)) ∧ (∀ z : Fin 24, c.zones[z].valid)
    ∧ (∀ n : Fin 32, c.scenes[n].valid) ∧ (∀ a : Axis, (c.axes.get a).valid c.gear a) ∧ c.deckLevel ≤ 1500 ∧ c.gear.valid
    ∧ (∀ (a : Axis) (d : Direction), ((c.interlocks.get a).get d).length ≤ 4) ∧ c.speedLimit ≤ 500
    ∧ c.pumpRating ≤ 4000 ∧ (∀ k : Fin 8, c.patterns[k].valid) ∧ (∀ p : Fin 12, c.panels[p].valid)
    ∧ (∀ (p : Fin 12) (i : Fin 32), c.tagMaps[p][i].valid) ∧ (∀ b : Fin 255, c.bindings[b].valid)
    ∧ 500 ≤ c.linkSilence ∧ c.linkSilence ≤ 10000

end Sys2Proof.Machine
end

