-- ==== Sys2Proof/Certificates/Slice0/Obligations.lean ====
section
/-! DEFINITION. The statements for the provers. Unless a docstring says otherwise, a statement holds for every state, reached
or not. `t` is the state that a command or a step answers. -/

open Sys2Proof Sys2Proof.Machine

/-! ## The machine as a whole -/

/-- Each step carries out the command at the front of the queue with the rest of the queue waiting. That the clock ticks on
an empty queue is the model's choice (log entry 1). -/
def Obligations.StepRunsFrontCommand : Prop :=
  (∀ (c : Instr) (rest : List Instr) (s : State), s.pending = c :: rest → step s = exec c { s with pending := rest })
    ∧ ∀ s : State, s.pending = [] → step s = .next { s with now := s.now + 1 }

/-- Every command, in every state, runs to a next state, and leaves the command queue and the clock as they were. That a command
takes no time and touches no queue is the model's choice (log entries 1 and 27). -/
def Obligations.EveryCommandCompletes : Prop :=
  ∀ (i : Instr) (s : State), ∃ t, exec i s = .next t ∧ t.pending = s.pending ∧ t.now = s.now

/-! ## Frames and requests (chapter 9) -/

/-- The frame of every well-formed request, examined, gives that request back with every operand, and its payload fits a
frame (R167, R170, R182). -/
def Obligations.RequestFramesAreExamined : Prop :=
  ∀ (i : Instr) (f : Frame), i.wellFormed = true → requestFrame i = some f →
    examine f = .request i ∧ f.payload.length ≤ 240

/-- A request as a command is its frame taken from the input buffer and carried out (R170; log entry 2). The bytes of one frame
that reach an open, hunting receiver with an empty input buffer while requests are taken are a good frame: the link-silence
timer restarts, and the frame is carried out at once (R167, R168, R169, R174). -/
def Obligations.FramesAreCarriedOut : Prop :=
  (∀ (i : Instr) (f : Frame) (s : State), i.wellFormed = true → requestFrame i = some f →
     exec i s = .next (carryFrame f s).kick)
  ∧ ∀ (f : Frame) (s : State), f.payload.length ≤ 240 → s.link.receiving = true → s.link.gathered = [] →
      s.link.buffer = [] → s.link.takes = true →
      exec (.frameReceived (f.line.map fun b => { value := b, stopGood := true })) s =
        .next (carryFrame f { s with link := { s.link with
          gapDeadline := none, silenceDeadline := some (s.now + s.config.linkSilence) } }).kick

/-- A good frame that reaches a full input buffer is discarded without a reply; it has still restarted the link-silence timer
(R169). A frame whose last CRC byte is wrong is discarded and does not restart the timer, where no start byte stands inside it.
BYTE_GAP_EXPIRY while a frame is being gathered discards it: with no further start byte among the gathered bytes the receiver
hunts with nothing gathered (R168). That an expiry of a stopped timer changes nothing is the model's choice (log entry 1). -/
def Obligations.BadFramesAreDiscarded : Prop :=
  ((∀ (f : Frame) (s : State), f.payload.length ≤ 240 → s.link.receiving = true → s.link.gathered = [] →
     4 ≤ s.link.buffer.length →
     ∃ t, exec (.frameReceived (f.line.map fun b => { value := b, stopGood := true })) s = .next t
       ∧ ({ s with link := { s.link with
             gapDeadline := none, silenceDeadline := some (s.now + s.config.linkSilence) } } : State).becomes t)
   ∧ (∀ (f : Frame) (x : Byte) (s : State), f.payload.length ≤ 240 → s.link.receiving = true → s.link.gathered = [] →
       (0x5A : Byte) ∉ f.line.dropLast.tail → x ≠ 0x5A → some x ≠ f.line.getLast? →
       ∃ t, exec (.frameReceived ((f.line.dropLast ++ [x]).map fun b => { value := b, stopGood := true })) s = .next t
         ∧ ({ s with link := { s.link with gapDeadline := none } } : State).becomes t))
  ∧ (∀ s : State, ∃ t, exec .byteGapExpiry s = .next t
       ∧ (s.link.gapDeadline = none → s.becomes t)
       ∧ (s.link.gapDeadline ≠ none → 2 ≤ s.link.gathered.length → scan s.link.gathered = .wait →
           (∀ b ∈ s.link.gathered.tail, b.value ≠ 0x5A) →
           ({ s with link := { s.link with gathered := [], gapDeadline := none } } : State).becomes t))

/-- Every frame taken from the input buffer gets exactly one reply with its tag, of its kind plus 0x80 or of kind 0xFF, except
an accepted SAVE_CONFIG, whose tag is held for the reply at the save's end (R170, R172). UNKNOWN_REQUEST is answered by kind
0xFF with its tag and result UNKNOWN alone, whatever its kind byte, and changes nothing; a frame of an unknown kind is carried
out so (R170). -/
def Obligations.RequestsAreAnsweredOnce : Prop :=
  (∀ (f : Frame) (s : State),
     (∃ r : Frame, (carryFrame f s).outgoing = s.outgoing ++ [r] ∧ r.tag = f.tag
         ∧ (r.kind = f.kind + 0x80 ∨ r.kind = 0xFF) ∧ r.payload ≠ [])
       ∨ (f.kind = 0x50 ∧ f.payload = [] ∧ s.store.saving = none ∧ (carryFrame f s).link.saveTag = some f.tag
           ∧ (carryFrame f s).outgoing = s.outgoing))
  ∧ ((∀ (tag kind : Byte) (s : State), ∃ t, exec (.unknownRequest tag kind) s = .next t
         ∧ s.onlyAnswers t { kind := 0xFF, tag := tag, payload := [6] })
     ∧ ∀ (f : Frame) (s : State), f.kind ∉ requestKinds → exec (.unknownRequest f.tag f.kind) s = .next (carryFrame f s).kick)

/-- FRAME_SENT makes the transmitter idle, and it chooses the next frame: the oldest reply; else START, else the first urgent
report, else the first report, with the next report number; else nothing; while a reset waits no report is taken (R173, R177,
R180; stated for an empty input buffer and a frame other than START). When START has been sent, the link-silence timer starts at
its length and the receiver begins to hunt with nothing gathered (R168, R174, R184; stated for an empty input buffer). After the
sending of any frame the Link Interface takes the frames that wait in the input buffer one by one, the oldest first, and carries
each out, as long as fewer than 4 counted replies wait and no reset does (R169, R173, R180). That a FRAME_SENT on an idle line
changes nothing is the model's choice (log entry 1). -/
def Obligations.FrameSentMovesTheLine : Prop :=
  (∀ (s : State) (x : Sending), s.link.sending = some x → x.frame.kind ≠ 0xE0 → s.link.buffer = [] →
     ∃ t, exec .frameSent s = .next t ∧ t.core = s.core ∧ t.link.base = s.link.base
       ∧ (∀ (r : Reply) (rest : List Reply), s.link.replies = r :: rest →
           t.link.sending = some { frame := r.frame, line := r.frame.line } ∧ t.link.replies = rest
             ∧ t.link.reports = s.link.reports ∧ t.link.reportNumber = s.link.reportNumber)
       ∧ (s.link.replies = [] → (s.link.resetPending ≠ none ∨ s.link.reports = []) →
           t.link.sending = none ∧ t.link.replies = [] ∧ t.link.reports = s.link.reports
             ∧ t.link.reportNumber = s.link.reportNumber)
       ∧ (∀ (before after : List ReportEntry) (e : ReportEntry), s.link.replies = [] → s.link.resetPending = none →
           s.link.reports = before ++ e :: after →
           (if e.key = .start then ∀ x ∈ before, x.key ≠ .start
            else (∀ x ∈ before ++ after, x.key ≠ .start)
             ∧ if e.key.urgent then ∀ x ∈ before, x.key.urgent = false
               else before = [] ∧ ∀ x ∈ after, x.key.urgent = false) →
           t.link.replies = [] ∧ t.link.reports = (before ++ after).filter (·.key ≠ e.key)
             ∧ t.link.reportNumber = (s.nextNumber e + 1) % 256
             ∧ t.link.sending.map (·.frame) =
                 some { kind := e.key.code, tag := BitVec.ofNat 8 (s.nextNumber e), payload := e.content }))
  ∧ ((∀ (s : State) (x : Sending), s.link.sending = some x → x.frame.kind = 0xE0 → s.link.buffer = [] →
       ∃ t, exec .frameSent s = .next t
         ∧ ({ s with link := { s.link with
               receiving := true, gathered := [], gapDeadline := none,
               silenceDeadline := some (s.now + s.config.linkSilence) } } : State).becomes t)
     ∧ ∀ s : State, s.link.sending = none → ∃ t, exec .frameSent s = .next t ∧ s.becomes t)
  ∧ (∀ (s : State) (x : Sending), s.link.sending = some x →
       let idle : State := if x.frame.kind = 0xE0 then
           { s with link := { s.link with
               sending := none, receiving := true, gathered := [], gapDeadline := none,
               silenceDeadline := some (s.now + s.config.linkSilence) } }
         else { s with link := { s.link with sending := none } }
       let served (k : Nat) : State := (s.link.buffer.take k).foldl
         (fun u f => (carryFrame f { u with link := { u.link with buffer := u.link.buffer.tail } }).kick) idle.kick
       ∃ k, k ≤ s.link.buffer.length ∧ exec .frameSent s = .next (served k)
         ∧ (∀ j : Nat, j < k → (served j).link.takes = true)
         ∧ (k = s.link.buffer.length ∨ (served k).link.takes = false))

/-- LINK_SILENCE_EXPIRY stops the timer and adds LINK_SILENT to each axis whose head context is owned by LINK and not QUEUED,
where the axis takes a reason: MOVING goes to STOPPING with its drive off, DWELL to HOLD, and every other state keeps its
place. Every other axis stays whole, and so does everything but the chime, the reports and the transmit line (R79, R80, R81,
R110, R174). That an expiry of a stopped timer changes nothing, and the order of the axes, are the model's choice (log entries 1
and 37). -/
def Obligations.LinkSilenceHoldsLinkPrograms : Prop :=
  ∀ s : State, ∃ t, exec .linkSilenceExpiry s = .next t
    ∧ (s.link.silenceDeadline = none → s.becomes t)
    ∧ (s.link.silenceDeadline ≠ none →
        ({ s with link := { s.link with silenceDeadline := none } } : State).follows t
          ∧ t.zones = s.zones ∧ t.budget = s.budget ∧ t.gypsy = s.gypsy ∧ t.contexts = s.contexts ∧ t.queues = s.queues
          ∧ t.runs = s.runs ∧ t.permits = s.permits ∧ t.pump = s.pump ∧ t.chime.notices = s.chime.notices
          ∧ ∀ a : Axis,
              if (s.head a).any (fun c => s.contexts[c].owner == some .link && s.contexts[c].state != .queued)
                  && (s.axis a).takesReason && !(s.axis a).holds.linkSilent then
                (t.axis a).holds = { (s.axis a).holds with linkSilent := true }
                  ∧ (t.axis a).current = (s.axis a).current ∧ (t.axis a).fault = (s.axis a).fault
                  ∧ ((s.axis a).state = .moving → (t.axis a).state = .stopping ∧ (t.axis a).drive = driveOff
                      ∧ (t.axis a).stopDeadline = some (s.now + stopTime a))
                  ∧ ((s.axis a).state = .dwell → (t.axis a).state = .hold ∧ (t.axis a).dwellDeadline = none)
                  ∧ ((s.axis a).state ≠ .moving → (s.axis a).state ≠ .dwell → (t.axis a).state = (s.axis a).state)
              else t.axis a = s.axis a)

/-! ## Device requests and reads -/

/-- GET_INFO is answered OK in every state, with the part code 740, the family code 1, the image format 1, the largest payload
240, the capacities 4 and 4, the 61 report keys and the length of the link-silence timer; it changes nothing (R178). -/
def Obligations.GetInfoAnswersTheFixedFacts : Prop :=
  ∀ (tag : Byte) (s : State), ∃ t, exec (.getInfo tag) s = .next t
    ∧ s.onlyAnswers t (okFrame 0x01 tag
        (u16 740 ++ u8 1 ++ u16 1 ++ u8 240 ++ u8 4 ++ u8 4 ++ u8 61 ++ u32 s.config.linkSilence))

/-- Each request or form that reads is answered with what it reads and changes nothing else; the fields of the replies are
written out where a record has no other reader (R23, R45, R50, R63, R89, R116, R124, R125, R133, R141, R152, R156, R179). The
widths of fields that the byte layouts leave open, the codes that no table gives, the marker of a pump output that is off, the
last completed group of a panel after a WARM reset, the target sent as 0 by R182 where R155 stores HOME, ages in seconds without
their part of a second, the marker of a sensor age before the first sample, and an ageing timer that is not sent are the model's
choice or reading (log entries 14, 15, 25, 39, 45, 46, 48, 51 and 52). -/
def Obligations.ReadsAnswerAndChangeNothing : Prop :=
  (let some1 (n : Option Nat) : List Byte := n.elim [0xFF] u8
   let left (s : State) (at_ : Option Nat) : List Byte := at_.elim [0xFF, 0xFF, 0xFF, 0xFF] fun n => u32 (n - s.now)
   let since (s : State) (unit : Nat) (at_ : Option Nat) : List Byte :=
     at_.elim [0xFF, 0xFF, 0xFF, 0xFF] fun n => u32 (min 65535 ((s.now - n) / unit))
   let place (p : Option Int) : List Byte := p.elim [0x80, 0, 0, 0] i32
   let axisOr (a : Option Axis) : List Byte := some1 (a.map axisNumber)
   let result (r : PassResult) : List Byte :=
     u16 r.number ++ u8 r.mode.code ++ u16 r.usable ++ u16 r.peak ++ i32 r.available ++ u16 r.total ++ i32 r.headroom
       ++ bits [r.flags.neg, r.flags.short, r.flags.zero, r.flags.sat, r.flags.held]
   let step (x : Step) : List Byte :=
     bits [x.first, x.legStart, x.final, false, false, false, x.speed.isSome, x.dwell.isSome] ++ u8 x.leg ++ u16 x.seq
       ++ i32 x.start ++ i32 x.target ++ u8 ((x.speed.map (·.code)).getD 0) ++ u16 (x.dwell.getD 0)
   (∀ (tag : Byte) (s : State), ∃ t, exec (.getStatus tag) s = .next t ∧ s.onlyAnswers t (okFrame 0x02 tag (
      u8 s.store.lastReset.code ++ flag s.store.defaulted ++ flag s.store.saving.isSome ++ u8 s.budget.mode.code
        ++ u8 (s.axis .hatch).state.code ++ u8 (s.axis .platform).state.code ++ u8 (s.axis .windlass).state.code
        ++ bits [(s.axis .hatch).fault.isSome, (s.axis .platform).fault.isSome, (s.axis .windlass).fault.isSome]
        ++ axisOr (s.pump.owner.map axisOfHydraulic) ++ axisOr (s.pump.waiting.map axisOfHydraulic)
        ++ flag s.cue.commit.isSome ++ u8 s.cue.entries.length ++ u8 s.chime.notices.length ++ u8 s.link.buffer.length
        ++ u8 s.link.replies.length ++ u8 s.link.reports.length ++ left s s.link.silenceDeadline)))
   ∧ (∀ (tag : Byte) (s : State), ∃ t, exec (.getBudget tag none) s = .next t ∧ s.onlyAnswers t (okFrame 0x13 tag (
        u16 s.config.supply ++ u8 s.config.reserve ++ u8 s.budget.mode.code ++ u8 s.budget.history.length
          ++ s.budget.history.flatMap u16 ++ u16 s.budget.heldPeak ++ result s.budget.result
          ++ u8 s.budget.result.shortList.length ++ s.budget.result.shortList.flatMap u8)))
   ∧ (∀ (tag : Byte) (k : Fin 52) (s : State), ∃ t, exec (.getBudget tag (some k.val)) s = .next t
        ∧ s.onlyAnswers t (okFrame 0x13 tag (
            let c := s.config.slots[k]
            let x := s.budget.slots[k]
            u8 k.val ++ [Config.slotClassCode (if k.val < 24 then 0 else if k.val < 48 then 1 else 2)] ++ flag c.enabled
              ++ u8 c.priority ++ u16 c.cap ++ u16 c.dmin ++ u32 c.holdOff ++ u16 x.raw ++ u16 x.effective ++ u16 x.grant
              ++ left s x.holdOffEnds)))
   ∧ (∀ (tag : Byte) (z : Fin 24) (s : State), ∃ t, exec (.getZone tag z.val) s = .next t
        ∧ s.onlyAnswers t (okFrame 0x24 tag (
            let c := s.config.zones[z]
            let x := s.zones[z]
            c.rated.toList.flatMap u8 ++ u16 c.fan ++ u16 c.stage1 ++ u16 c.stage2 ++ flag c.crewOnly ++ flag c.passage
              ++ u8 c.volume ++ some1 c.startScene ++ u8 x.mode.code ++ u16 x.setpoint ++ u16 x.demand
              ++ u16 x.lightGrant ++ flag (decide (x.lightGrant < x.demand))
              ++ x.channels.toList.flatMap (fun y => u16 y.level ++ u16 y.target ++ u16 y.fadeStart ++ u16 y.framesDone
                  ++ u16 y.framesTotal ++ flag y.fading ++ u16 y.output)
              ++ i16 x.climate.temperature ++ flag (!x.climate.live) ++ since s 1000 x.climate.sampledAt
              ++ u8 x.climate.direction.code ++ u8 x.climate.demanded.code ++ u8 x.climate.running.code
              ++ u16 x.climate.grant)))
   ∧ (∀ (tag : Byte) (s : State), ∃ t, exec (.cueStatus tag none) s = .next t ∧ s.onlyAnswers t (okFrame 0x2D tag (
        flag s.cue.commit.isSome ++ some1 (s.cue.commit.map (·.code)) ++ u8 s.cue.entries.length ++ u16 s.cue.framesWaited
          ++ flag s.cue.lateDue ++ left s s.cue.capDeadline)))
   ∧ (∀ (tag : Byte) (p : Nat) (e : CueEntry) (s : State), s.cue.entries[p]? = some e →
        ∃ t, exec (.cueStatus tag (some p)) s = .next t ∧ s.onlyAnswers t (okFrame 0x2D tag (u8 p ++ e.bytes)))
   ∧ (∀ (tag : Byte) (a : Axis) (s : State), ∃ t, exec (.getAxis tag (axisNumber a)) s = .next t
        ∧ s.onlyAnswers t (okFrame 0x31 tag (
            let c := s.config.axes.get a
            let r := s.axis a
            c.presets.toList.flatMap i32 ++ u32 c.warnTime ++ u32 c.prepareTimeout ++ u8 c.warnPattern.val
              ++ u8 c.warnZones.length ++ c.warnZones.flatMap u8
              ++ (if a = .hatch then [] else if a = .platform then u16 s.config.deckLevel
                  else u32 s.config.gear.maxRode ++ u8 s.config.gear.pulses ++ u16 s.config.gear.chain
                    ++ u16 s.config.gear.rating)
              ++ place (s.measured a)
              ++ ((hydraulicOf a).elim
                  (u16 s.gypsy.count ++ flag s.inputs.anchorHome ++ flag s.inputs.payingOut ++ flag s.inputs.overload
                    ++ u16 s.gypsy.reverse)
                  fun h => flag (!(s.sensors.get h).fresh) ++ since s 1 (s.sensors.get h).sampledAt)
              ++ u8 r.state.code
              ++ bits [r.holds.linkPause, r.holds.linkSilent, r.holds.starved, r.holds.interlock, r.holds.shed,
                  r.holds.released]
              ++ some1 ((s.head a).map (·.val))
              ++ r.current.elim (List.replicate 16 0xFF) (fun x => u8 x.context.val ++ step x.step)
              ++ (if r.state = .moving then u8 r.speed.code else [0xFF])
              ++ (if a = .windlass then
                    (if r.drive.out = 0 ∧ r.drive.inward = 0 then [0xFF]
                     else [Config.motorDirectionCode (decide (r.drive.out ≠ 0))])
                      ++ u8 (max r.drive.out r.drive.inward) ++ flag r.drive.brakeSet
                  else u8 r.drive.out ++ u8 r.drive.inward ++ flag false)
              ++ r.warnStart.elim [0xFF, 0xFF, 0xFF, 0xFF] (fun n => u32 (s.now - n)) ++ left s r.prepareDeadline
              ++ left s r.dwellDeadline ++ left s r.stopDeadline ++ left s (r.stall.map (·.deadline))
              ++ r.fault.elim (List.replicate 7 0xFF) (fun f => u8 f.kind.code ++ place f.position
                  ++ some1 (f.context.map (·.val)) ++ u8 f.count))))
   ∧ (∀ (tag : Byte) (s : State), ∃ t, exec (.getProgram tag none) s = .next t ∧ s.onlyAnswers t (okFrame 0x3D tag (
        s.contexts.toList.flatMap (fun x => u8 x.state.code ++ some1 (x.owner.map (·.code)) ++ axisOr x.axis)
          ++ [Axis.hatch, .platform, .windlass].flatMap fun a =>
              u8 (s.queue a).length ++ (s.queue a).flatMap fun c => u8 c.val)))
   ∧ (∀ (tag : Byte) (c : Fin 16) (s : State), ∃ t, exec (.getProgram tag (some c.val)) s = .next t
        ∧ s.onlyAnswers t (okFrame 0x3D tag (
            let x := s.contexts[c]
            let current : Option Step := x.axis.bind fun a =>
              ((s.axis a).current.filter fun y => decide (y.context = c)).map (·.step)
            if x.state = .free then
              [0xFF, 0] ++ List.replicate 7 0xFF ++ [0x80, 0, 0, 0] ++ List.replicate 23 0xFF
            else
              u8 c.val ++ u8 x.state.code ++ some1 (x.owner.map (·.code)) ++ axisOr x.axis
                ++ some1 (x.axis.map fun a => (s.queue a).findIdx fun b => b = c) ++ u8 x.admission.code ++ u8 x.leg
                ++ u16 x.expectedSeq ++ place x.expectedStart ++ flag x.firstAdmitted ++ u8 x.steps.length
                ++ x.steps.flatMap step ++ current.elim (List.replicate 15 0xFF) step ++ u16 x.executed
                ++ left s x.starveDeadline)))
   ∧ (∀ (tag : Byte) (p : Fin 12) (s : State),
        (∃ t, exec (.getPanel tag p.val 0) s = .next t ∧ s.onlyAnswers t (okFrame 0x43 tag (
          let x := s.panels[p]
          s.config.panels[p].bytes ++ u8 x.touch.code
            ++ (match x.touch with
                | .down g mx my => u8 g ++ u16 mx.toNat ++ u16 my.toNat
                | _ => List.replicate 5 0xFF)
            ++ u8 x.group.count ++ flag x.group.noTouch ++ since s 1 x.framedAt
            ++ (match x.last with
                | none => [0xFF]
                | some .noTouch => [Config.groupKindCode 0]
                | some (.onGlass mx my px py g) =>
                  [Config.groupKindCode 1] ++ u16 mx ++ u16 my ++ i32 px ++ i32 py ++ u8 g
                | some (.offGlass mx my px py) => [Config.groupKindCode 2] ++ u16 mx ++ u16 my ++ i32 px ++ i32 py))))
        ∧ (let map (first : Nat) : List Byte := ((s.config.tagMaps[p].toList.drop first).take 16).flatMap fun e =>
             u16 e.x0 ++ u16 e.y0 ++ u16 e.x1 ++ u16 e.y1 ++ u8 e.tag
           (∃ t, exec (.getPanel tag p.val 1) s = .next t ∧ s.onlyAnswers t (okFrame 0x43 tag (map 0)))
             ∧ ∃ t, exec (.getPanel tag p.val 2) s = .next t ∧ s.onlyAnswers t (okFrame 0x43 tag (map 16)))))
  ∧ (∀ (tag : Byte) (n : Fin 32) (s : State), ∃ t, exec (.storeScene tag n.val none) s = .next t
      ∧ s.onlyAnswers t (okFrame 0x28 tag (u8 n.val ++ s.config.scenes[n].bytes)))
  ∧ (∀ (tag : Byte) (a : Axis) (d : Direction) (s : State),
      ∃ t, exec (.setInterlock tag (axisNumber a) d.code none) s = .next t
        ∧ s.onlyAnswers t (okFrame 0x33 tag (u8 (axisNumber a) ++ u8 d.code
            ++ u8 ((s.config.interlocks.get a).get d).length
            ++ ((s.config.interlocks.get a).get d).flatMap
                (fun x => u8 x.test.val ++ flag x.invert ++ u8 (s.test x.test).code) ++ flag (s.permit a d))))
  ∧ (∀ (tag : Byte) (s : State), ∃ t, exec (.setInterlockCommon tag none) s = .next t
      ∧ s.onlyAnswers t (okFrame 0x33 tag (u16 s.config.speedLimit ++ u16 s.config.pumpRating
          ++ hydraulicByte s.pump.owner ++ hydraulicByte s.pump.waiting ++ (if s.pump.run = true then [1] else [0xFF])
          ++ u16 s.vessel.speed ++ flag s.vessel.shore ++ flag s.vessel.flagA ++ flag s.vessel.flagB
          ++ u8 s.vessel.state.code
          ++ s.vessel.setAt.elim (u32 0xFFFFFFFF) fun at_ => u32 (min 65535 ((s.now - at_) / 1000)))))
  ∧ (∀ (tag : Byte) (k : Fin 8) (s : State), ∃ t, exec (.setPattern tag k.val none) s = .next t
      ∧ s.onlyAnswers t (okFrame 0x35 tag (u8 k.val ++ flag s.config.patterns[k].loop
          ++ u8 s.config.patterns[k].notes.length ++ noteBytes s.config.patterns[k].notes)))
  ∧ (∀ (tag : Byte) (p : Fin 12) (s : State), ∃ t, exec (.setPanel tag p.val none) s = .next t
      ∧ s.onlyAnswers t (okFrame 0x40 tag (u8 p.val ++ s.config.panels[p].bytes)))
  ∧ (∀ (tag : Byte) (b : Fin 255) (s : State), ∃ t, exec (.setBinding tag (b.val + 1) none) s = .next t
      ∧ (let r := s.config.bindings[b]
         s.onlyAnswers t (okFrame 0x42 tag (u8 (b.val + 1) ++ u8 r.kind.code
           ++ (if 1 ≤ r.kind.code ∧ r.kind.code ≤ 6 then r.target.elim [0xFF] (fun z => u8 z.val) else [0]) ++ u16 r.argument
           ++ u8 (axisNumber r.axis) ++ u8 r.preset.val ++ flag r.holdToRun))))
  ∧ (∀ (tag : Byte) (s : State), ∃ t, exec (.setBinding tag 0 none) s = .next t
      ∧ s.onlyAnswers t (okFrame 0x42 tag (u8 0 ++ s.runs.toList.flatMap s.runBytes)))

/-- Each request that names a numbered thing is refused RANGE, and changes nothing, when the number lies beyond the last one
(R21, R22, R23, R41 to R45, R50, R51, R63, R88, R89, R97, R98, R104, R108, R109, R116, R124, R133, R141, R145, R152, R156).
PROGRAM_STEP's refusal carries the context number. -/
def Obligations.NumbersOutOfRangeAreRefused : Prop :=
  ∀ (tag : Byte) (s : State),
    (∀ n x1 x2 x3 x4 x5 : Nat, 51 < n → ∃ t, exec (.setSlot tag n x1 x2 x3 x4 x5) s = .next t ∧ s.refuses t 0x11 tag .range)
    ∧ (∀ n d : Nat, (n < 50 ∨ 51 < n) → ∃ t, exec (.setAuxDemand tag n d) s = .next t ∧ s.refuses t 0x12 tag .range)
    ∧ (∀ n : Nat, 51 < n → ∃ t, exec (.getBudget tag (some n)) s = .next t ∧ s.refuses t 0x13 tag .range)
    ∧ (∀ (n : Nat) (f : ZoneFields), 23 < n → ∃ t, exec (.setZone tag n f) s = .next t ∧ s.refuses t 0x20 tag .range)
    ∧ (∀ (n : Nat) (l : Vector (Option Nat) 4) (x : Nat), 23 < n →
        ∃ t, exec (.setLevels tag n l x) s = .next t ∧ s.refuses t 0x21 tag .range)
    ∧ (∀ n x : Nat, 23 < n → ∃ t, exec (.setSetpoint tag n x) s = .next t ∧ s.refuses t 0x22 tag .range)
    ∧ (∀ n x : Nat, 23 < n → ∃ t, exec (.setMode tag n x) s = .next t ∧ s.refuses t 0x23 tag .range)
    ∧ (∀ n : Nat, 23 < n → ∃ t, exec (.getZone tag n) s = .next t ∧ s.refuses t 0x24 tag .range)
    ∧ (∀ (n : Nat) (r : Option SceneFields), 31 < n →
        ∃ t, exec (.storeScene tag n r) s = .next t ∧ s.refuses t 0x28 tag .range)
    ∧ (∀ n x : Nat, (23 < n ∨ 31 < x) → ∃ t, exec (.recallScene tag n x) s = .next t ∧ s.refuses t 0x29 tag .range)
    ∧ (∀ p : Nat, s.cue.entries.length ≤ p →
        ∃ t, exec (.cueStatus tag (some p)) s = .next t ∧ s.refuses t 0x2D tag .range)
    ∧ (∀ (n : Nat) (f : AxisFields), 2 < n → ∃ t, exec (.setAxis tag n f) s = .next t ∧ s.refuses t 0x30 tag .range)
    ∧ (∀ n : Nat, 2 < n → ∃ t, exec (.getAxis tag n) s = .next t ∧ s.refuses t 0x31 tag .range)
    ∧ (∀ n : Nat, 2 < n → ∃ t, exec (.ackFault tag n) s = .next t ∧ s.refuses t 0x32 tag .range)
    ∧ (∀ n x : Nat, (15 < n ∨ 2 < x) → ∃ t, exec (.openProgram tag n x) s = .next t ∧ s.refuses t 0x38 tag .range)
    ∧ (∀ (n : Nat) (f : StepFields), 15 < n → ∃ t, exec (.programStep tag n f) s = .next t
        ∧ s.onlyAnswers t (replyFrame 0x39 tag .range (u8 n)))
    ∧ (∀ n : Nat, 15 < n → (∃ t, exec (.cancelAtBoundary tag n) s = .next t ∧ s.refuses t 0x3A tag .range)
        ∧ (∃ t, exec (.cancelImmediate tag n) s = .next t ∧ s.refuses t 0x3A tag .range)
        ∧ (∃ t, exec (.pauseProgram tag n) s = .next t ∧ s.refuses t 0x3B tag .range)
        ∧ (∃ t, exec (.resumeProgram tag n) s = .next t ∧ s.refuses t 0x3C tag .range)
        ∧ (∃ t, exec (.getProgram tag (some n)) s = .next t ∧ s.refuses t 0x3D tag .range))
    ∧ (∀ (n d : Nat) (l : Option (List (Nat × Nat))), (3 < n ∨ (n ≤ 2 ∧ 1 < d)) →
        ∃ t, exec (.setInterlock tag n d l) s = .next t ∧ s.refuses t 0x33 tag .range)
    ∧ (∀ (n : Nat) (r : Option (Nat × List (Nat × Nat))), 7 < n →
        ∃ t, exec (.setPattern tag n r) s = .next t ∧ s.refuses t 0x35 tag .range)
    ∧ (∀ (n : Nat) (r : Option PanelFields), 11 < n →
        ∃ t, exec (.setPanel tag n r) s = .next t ∧ s.refuses t 0x40 tag .range)
    ∧ (∀ (n x : Nat) (r : TagFields), (11 < n ∨ 31 < x) →
        ∃ t, exec (.setTagmap tag n x r) s = .next t ∧ s.refuses t 0x41 tag .range)
    ∧ (∀ n x : Nat, (11 < n ∨ 2 < x) → ∃ t, exec (.getPanel tag n x) s = .next t ∧ s.refuses t 0x43 tag .range)
    ∧ (∀ r : BindingFields, ∃ t, exec (.setBinding tag 0 (some r)) s = .next t ∧ s.refuses t 0x42 tag .range)

/-- SET_LINK: refused BUSY during a save; else the length, clamped into 500..10000, is stored, the timer restarts at it
whatever its state, and the stored length is answered (R175). -/
def Obligations.SetLinkStoresTheLength : Prop :=
  ∀ (tag : Byte) (n : Nat) (s : State), ∃ t, exec (.setLink tag n) s = .next t
    ∧ if s.store.saving.isSome then s.refuses t 0x04 tag .busy
      else
        let stored := if n < 500 then 500 else if 10000 < n then 10000 else n
        ({ s with
            config := { s.config with linkSilence := stored },
            link := { s.link with silenceDeadline := some (s.now + stored) } } : State).onlyAnswers t
          (okFrame 0x04 tag (u16 stored))

/-- RESET: refused RANGE for a kind other than COLD 1 and WARM 2, then BUSY during a save; else it is answered OK with the
kind, every waiting frame is discarded, no further byte is taken from the line, and the reset of that kind waits for the
replies to be sent, with no report taken meanwhile (R180). -/
def Obligations.ResetIsAccepted : Prop :=
  ∀ (tag : Byte) (kind : Nat) (s : State), ∃ t, exec (.reset tag kind) s = .next t
    ∧ if kind ≠ 1 ∧ kind ≠ 2 then s.refuses t 0x03 tag .range
      else if s.store.saving.isSome then s.refuses t 0x03 tag .busy
      else
        ({ s with link := { s.link with
            buffer := [], receiving := false, gathered := [], gapDeadline := none,
            resetPending := some (if kind = 1 then .cold else .warm) } } : State).onlyAnswers t
          (okFrame 0x03 tag (u8 kind))
        ∧ t.link.takes = false

/-! ## The budget (chapter 1) -/

/-- SET_SUPPLY and SET_SLOT on a slot 0..51: refused BUSY during a save; else the fields are stored with their clamps, with no
minimum useful grant outside DIVISIBLE (slots 0..23) and no hold-off on it, and answered, the effective demand is the raw demand
at most the new cap, and a pass is taken that the pass result record then shows. SET_AUX_DEMAND on slot 50 or 51 stores the
demand, clamped to 4000: when it differs from the raw demand the effective demand follows it and a pass is taken, when it is
equal nothing changes; the raw demand, the effective demand and the grant are answered (R5, R6, R7, R11, R14, R20, R21, R22).
The exception of a step that outruns its bound of signals is the model's (log entry 8). -/
def Obligations.BudgetRequestsTakePasses : Prop :=
  (∀ (tag : Byte) (supply reserve : Nat) (s : State), ∃ t, exec (.setSupply tag supply reserve) s = .next t
     ∧ if s.store.saving.isSome then s.refuses t 0x10 tag .busy
       else
         ({ s with config := { s.config with supply := min supply 40000, reserve := min reserve 50 } } : State).follows t
           ∧ (t.unsettled = false → t.passed) ∧ s.answers t 0x10 tag (u16 (min supply 40000) ++ u8 (min reserve 50)))
  ∧ (∀ (tag : Byte) (k : Fin 52) (enabled priority cap dmin holdOff : Nat) (s : State),
       ∃ t, exec (.setSlot tag k.val enabled priority cap dmin holdOff) s = .next t
       ∧ if s.store.saving.isSome then s.refuses t 0x11 tag .busy
         else
           let c : SlotConfig :=
             { enabled := decide (enabled ≠ 0), priority := min priority 31, cap := min cap 4000,
               dmin := if k.val < 24 then min dmin 4000 else 0, holdOff := if k.val < 24 then 0 else min holdOff 600 }
           ({ s with config := { s.config with slots := s.config.slots.set k c } } : State).follows t
             ∧ (t.unsettled = false → t.passed) ∧ t.budget.slots[k].effective = min t.budget.slots[k].raw c.cap
             ∧ s.answers t 0x11 tag (u8 k.val ++ flag c.enabled ++ u8 c.priority ++ u16 c.cap ++ u16 c.dmin ++ u16 c.holdOff))
  ∧ (∀ (tag : Byte) (k : Fin 52) (demand : Nat) (s : State), 50 ≤ k.val →
       ∃ t, exec (.setAuxDemand tag k.val demand) s = .next t
         ∧ s.follows t ∧ t.budget.slots[k].raw = min demand 4000
         ∧ (s.budget.slots[k].raw ≠ min demand 4000 →
             (t.unsettled = false → t.passed) ∧ t.budget.slots[k].effective = min (min demand 4000) s.config.slots[k].cap)
         ∧ (s.budget.slots[k].raw = min demand 4000 → t.core = s.core)
         ∧ s.answers t 0x12 tag
             (u8 k.val ++ u16 t.budget.slots[k].raw ++ u16 t.budget.slots[k].effective ++ u16 t.budget.slots[k].grant))

/-- BASE_LOAD_SAMPLE: the sample joins the history as the newest of at most 8 (in HOLD it is the whole history and the mode
becomes NORMAL), the meter-silence timer restarts at 500 ms, and one pass of that history is shown by the pass result record.
METER_SILENCE_EXPIRY: the mode becomes HOLD, the history is emptied, the held peak stays, and a HOLD pass is taken.
HOLD_OFF_EXPIRY: the expiry time is removed and a pass is taken, which may start the hold-off again at its full length (R2, R3,
R4, R9). That an expiry of a stopped timer changes nothing is the model's choice (log entry 1), and so is the exception of a
step that outruns its bound of signals (log entry 8). -/
def Obligations.MeterAndHoldOffsTakePasses : Prop :=
  (∀ (load : Nat) (s : State), ∃ t, exec (.baseLoadSample load) s = .next t
    ∧ ({ s with budget := { s.budget with
          mode := .normal, meterDeadline := some (s.now + 500),
          history := (if s.budget.mode = .normal then (s.budget.history.reverse.take 7).reverse else []) ++ [load]
          } } : State).follows t
    ∧ (t.unsettled = false → t.passed))
  ∧ (∀ s : State, ∃ t, exec .meterSilenceExpiry s = .next t
      ∧ (s.budget.meterDeadline = none → s.becomes t)
      ∧ (s.budget.meterDeadline ≠ none →
          ({ s with budget := { s.budget with mode := .hold, history := [], meterDeadline := none } } : State).follows t
            ∧ (t.unsettled = false → t.passed) ∧ t.budget.heldPeak = s.budget.heldPeak))
  ∧ ∀ (k : Fin 52) (s : State), ∃ t, exec (.holdOffExpiry k) s = .next t
      ∧ (s.budget.slots[k].holdOffEnds = none → s.becomes t)
      ∧ (s.budget.slots[k].holdOffEnds ≠ none → s.follows t ∧ (t.unsettled = false → t.passed)
          ∧ (t.budget.slots[k].holdOffEnds = none
              ∨ t.budget.slots[k].holdOffEnds = some (s.now + 1000 * s.config.slots[k].holdOff)))

/-- An allocation pass ranks the slots that are enabled with a nonzero effective demand by priority, then by number. In NORMAL
mode each ranked slot gets its grant by its class from what the slots before it leave of A, under its ceiling, and every other
slot gets 0. In HOLD mode no grant rises: each ranked slot gets its grant by its class from its current grant and its demand,
every other slot gets 0, and the held peak and A = U − held peak stand. In either mode the short list names the ranked slots
whose grant is below the effective demand, in rank order, SHORT stands exactly while it names one, and SAT while a raw demand is
above its cap (R11, R12, R13, R14, R15, R17). -/
def Obligations.PassesGrantByClass : Prop :=
  (∀ s : State,
     let t := (handle .pass s).1
     s.ranked.Nodup
       ∧ (∀ k : Fin 52, k ∈ s.ranked ↔ s.config.slots[k].enabled = true ∧ s.budget.slots[k].effective ≠ 0)
       ∧ s.ranked.Pairwise (fun a b => s.config.slots[b].priority < s.config.slots[a].priority
           ∨ (s.config.slots[a].priority = s.config.slots[b].priority ∧ a < b))
       ∧ t.budget.result.shortList = (s.ranked.filter fun k =>
           decide (t.budget.slots[k].grant < s.budget.slots[k].effective)).map (·.val)
       ∧ t.budget.result.flags.short = !t.budget.result.shortList.isEmpty
       ∧ (t.budget.result.flags.sat = true ↔ ∃ k : Fin 52, s.config.slots[k].cap < s.raw k))
  ∧ (∀ s : State, s.budget.mode = .normal →
     let t := (handle .pass s).1
     let grant (k : Fin 52) : Nat := t.budget.slots[k].grant
     (∀ k : Fin 52, k ∉ s.ranked → grant k = 0)
       ∧ ∀ k ∈ s.ranked,
           let left : Int := s.passAvailable - (((s.ranked.takeWhile (· ≠ k)).map grant).sum : Nat)
           let e := s.budget.slots[k].effective
           let ceiling := if s.budget.slots[k].holdOffEnds.isSome then min e s.budget.slots[k].grant else e
           let most := min ceiling left.toNat
           (k.val < 24 → grant k = if most < s.config.slots[k].dmin then 0 else most)
             ∧ (24 ≤ k.val → k.val < 48 →
                 grant k ≤ most ∧ (grant k = 0 ∨ grant k ∈ s.slotStages k) ∧ ∀ c ∈ s.slotStages k, c ≤ most → c ≤ grant k)
             ∧ (48 ≤ k.val → grant k = if ceiling = e ∧ (ceiling : Int) ≤ left then ceiling else 0))
  ∧ ∀ s : State, s.budget.mode = .hold →
      let t := (handle .pass s).1
      t.budget.heldPeak = s.budget.heldPeak
        ∧ t.budget.result.available =
            ((s.config.supply - s.config.supply * s.config.reserve / 100 : Nat) : Int) - s.budget.heldPeak
        ∧ t.budget.result.flags.held = true
        ∧ ∀ k : Fin 52,
            let g := t.budget.slots[k].grant
            let most := min s.budget.slots[k].grant s.budget.slots[k].effective
            g ≤ s.budget.slots[k].grant
              ∧ if s.config.slots[k].enabled = true ∧ s.budget.slots[k].effective ≠ 0 then
                  (k.val < 24 → g = most)
                    ∧ (24 ≤ k.val → k.val < 48 →
                        g ≤ most ∧ (g = 0 ∨ g ∈ s.slotStages k) ∧ ∀ c ∈ s.slotStages k, c ≤ most → c ≤ g)
                    ∧ (48 ≤ k.val → g = if s.budget.slots[k].effective ≤ s.budget.slots[k].grant then
                        s.budget.slots[k].effective else 0)
                else g = 0

/-- A pass starts the hold-off of each STEPPED or WHOLE slot whose grant fell and whose length is not 0, and leaves the others.
It sends each grant that differs from the one last delivered on to its owner, and then itself to its BUDGET report, with its own
values; the slot order of the grants is the model's choice (log entry 9). The report is posted when grants, flags or mode differ
from the last-posted copy, which then takes them. Every step keeps the law that the grants have reached their owners, and a step
that took a pass leaves that pass in the copy; a copy that changed has its BUDGET report posted (R9, R16, R19, R24). The
exception of a step that outruns its bound of signals is the model's (log entry 8). -/
def Obligations.PassesEndWithDeliveryAndReport : Prop :=
  (∀ s : State,
     let t := (handle .pass s).1
     let r := t.budget.result
     let moved := (List.finRange 52).filter fun k : Fin 52 =>
       decide (t.budget.slots[k].grant ≠ s.budget.slots[k].delivered)
     (∀ k : Fin 52, t.budget.slots[k].holdOffEnds =
         if t.budget.slots[k].grant < s.budget.slots[k].grant ∧ 24 ≤ k.val ∧ s.config.slots[k].holdOff ≠ 0 then
           some (s.now + 1000 * s.config.slots[k].holdOff)
         else s.budget.slots[k].holdOffEnds)
       ∧ Signal.pass.outgoing s =
           moved.map (fun k => .grant k t.budget.slots[k].grant)
             ++ [.report
                  (u16 r.number ++ u8 r.mode.code ++ u16 r.usable ++ u16 r.peak ++ i32 r.available ++ u16 r.total
                    ++ i32 r.headroom ++ bits [r.flags.neg, r.flags.short, r.flags.zero, r.flags.sat, r.flags.held]
                    ++ t.grants.flatMap u16 ++ u8 r.shortList.length ++ r.shortList.flatMap u8)
                  { grants := t.grants, flags := r.flags, mode := r.mode }])
  ∧ (∀ (content : List Byte) (copy : PostedCopy) (s : State),
      let t := (sendOn (.report content copy) s).1
      if s.budget.posted = some copy then t = s
      else t.budget.posted = some copy ∧ t.reported .budget content)
  ∧ (∀ s t : State, s.grantsDelivered → step s = .next t → t.grantsDelivered)
  ∧ ∀ s t : State, step s = .next t → t.unsettled = false →
      (t.budget.passNumber ≠ s.budget.passNumber → t.budget.passNumber ≠ 0 → t.budget.posted = some t.passCopy)
        ∧ (t.budget.posted ≠ s.budget.posted → ∀ copy, t.budget.posted = some copy →
            ∃ c, t.reported .budget c ∧ (c.drop 2).take 1 = u8 copy.mode.code
              ∧ (c.drop 17).take 1 = bits [copy.flags.neg, copy.flags.short, copy.flags.zero, copy.flags.sat, copy.flags.held]
              ∧ (c.drop 18).take 104 = copy.grants.flatMap u16)

/-- Every step keeps the law of the posted demands: a lighting slot holds the demand of its zone, a climate slot the current of
its zone's demanded stage, slot 48 the pump rating while the pump has an owner, slot 49 the windlass rating while the windlass
executes a program, and each of the last two 0 otherwise (R7, R32, R37). The exception of a step that outruns its bound of
signals is the model's (log entry 8). -/
def Obligations.DemandsFollowTheirOwners : Prop :=
  ∀ s t : State, s.demandLaw ∧ s.queueLaw → step s = .next t → t.demandLaw ∧ t.queueLaw

/-- Every step keeps the law of the sum: in NORMAL mode the sum of all grants never exceeds max(0, A) of the latest pass. Every
step keeps the law of each grant: at most the effective demand, itself at most the cap. A step that ends in HOLD mode has raised
no grant (R17, R18). The exception of a step that outruns its bound of signals is the model's (log entry 8). -/
def Obligations.GrantsStayWithinTheirBounds : Prop :=
  (∀ s t : State, s.sumWithin → step s = .next t → t.sumWithin)
  ∧ (∀ s t : State, s.grantsWithin → step s = .next t → t.grantsWithin)
  ∧ (∀ s t : State, step s = .next t → t.budget.mode = .hold →
       ∀ k : Fin 52, t.budget.slots[k].grant ≤ s.budget.slots[k].grant)

/-! ## Zones (chapter 2) -/

/-- SET_ZONE on a zone 0..23: refused BUSY during a save, then RANGE for a rated current above 160, a stage current above 400,
stages out of order, or a start scene above 31 other than its marker; else every field is stored and answered, and new stage
currents take a pass (R38, R41). The exception of a step that outruns its bound of signals is the model's (log entry 8). -/
def Obligations.SetZoneStoresTheFields : Prop :=
  ∀ (tag : Byte) (z : Fin 24) (f : ZoneFields) (s : State), ∃ t, exec (.setZone tag z.val f) s = .next t
    ∧ if s.store.saving.isSome then s.refuses t 0x20 tag .busy
      else if (∃ i : Fin 4, 160 < f.rated[i]) ∨ 400 < f.fan ∨ 400 < f.stage1 ∨ 400 < f.stage2
          ∨ ¬ (f.fan ≤ f.stage1 ∧ f.stage1 ≤ f.stage2) ∨ (31 < f.startScene ∧ f.startScene ≠ 255) then
        s.refuses t 0x20 tag .range
      else
        let c : ZoneConfig :=
          { rated := f.rated, fan := f.fan, stage1 := f.stage1, stage2 := f.stage2, crewOnly := decide (f.crewOnly ≠ 0),
            passage := decide (f.passage ≠ 0), volume := f.volume,
            startScene := if f.startScene = 255 then none else some f.startScene }
        ({ s with config := { s.config with zones := s.config.zones.set z c } } : State).follows t
          ∧ s.answers t 0x20 tag (u8 z.val ++ c.bytes)
          ∧ (s.config.zones[z].stageCurrents ≠ c.stageCurrents → t.unsettled = false → t.passed)

/-- Zone requests on a zone 0..23. SET_LEVELS: each present level makes one level change on its channel, to at most 1000 and at
most 600 in ECO, over the fade time clamped to 60000 and rounded down to 10 ms; a target equal to the level ends the fade where
it stands; absent levels leave their channels alone; the new demand covers the higher of level and target of each channel;
targets and fade time are answered. SET_SETPOINT stores the value clamped into 160..300 and rounded down to a multiple of 5, and
answers it. SET_MODE: a value that names the mode in force or no mode changes nothing; any other takes the new mode: ECO fades
every target above 600 to 600 and VACANT every target other than 0 to 0, over 3000 ms; the mode in force is answered (R30, R32,
R34, R36, R42, R43, R44). -/
def Obligations.ZoneRequestsChangeTheZone : Prop :=
  (∀ (tag : Byte) (z : Fin 24) (levels : Vector (Option Nat) 4) (fade : Nat) (s : State),
    ∃ t, exec (.setLevels tag z.val levels fade) s = .next t
    ∧ (s.onZone z fun r => { r with channels := Vector.ofFn fun i : Fin 4 =>
          (levels[i].elim r.channels[i] fun l =>
            let target := if r.mode = .eco then min (min l 1000) 600 else min l 1000
            if target = r.channels[i].level then { r.channels[i] with target := target, fading := false }
            else { r.channels[i] with
              fadeStart := r.channels[i].level, target := target, framesDone := 0, framesTotal := min fade 60000 / 10,
              fading := true }) }).follows t
    ∧ s.answers t 0x21 tag (u8 z.val ++ (t.zones[z].channels.toList.map (·.target)).flatMap u16
        ++ u16 (min fade 60000 / 10 * 10))
    ∧ ((∃ i : Fin 4, levels[i].isSome = true) →
        let need := draw s.config.zones[z].rated (t.zones[z].channels.map fun c => max c.level c.target)
        need ≤ 1000 * t.zones[z].demand ∧ 1000 * t.zones[z].demand < need + 1000))
  ∧ (∀ (tag : Byte) (z : Fin 24) (value : Nat) (s : State), ∃ t, exec (.setSetpoint tag z.val value) s = .next t
      ∧ (let stored := (if value < 160 then 160 else if 300 < value then 300 else value) / 5 * 5
         (s.onZone z fun r => { r with setpoint := stored }).follows t ∧ s.answers t 0x22 tag (u8 z.val ++ u16 stored)))
  ∧ ∀ (tag : Byte) (z : Fin 24) (value : Nat) (s : State), ∃ t, exec (.setMode tag z.val value) s = .next t
      ∧ s.answers t 0x23 tag (u8 z.val ++ u8 t.zones[z].mode.code)
      ∧ ((2 < value ∨ value = s.zones[z].mode.code) → t.core = s.core)
      ∧ (value ≤ 2 → value ≠ s.zones[z].mode.code →
          (s.onZone z fun r => { r with
            mode := if value = 0 then .occupied else if value = 1 then .eco else .vacant,
            channels := r.channels.map fun c =>
              let target := if value = 1 then 600 else 0
              if (value = 1 ∧ 600 < c.target) ∨ (value = 2 ∧ c.target ≠ 0) then
                if target = c.level then { c with target := target, fading := false }
                else { c with fadeStart := c.level, target := target, framesDone := 0, framesTotal := 300, fading := true }
              else c }).follows t)

/-- TEMPERATURE_SAMPLE makes the zone LIVE with that temperature and age 0, restarts the loss timer at 60 s, and works out the
climate: the stage by the error against the deadband of the mode, the direction by its sign. LOSS_TIMER_EXPIRY makes the zone
LOST: FAN, or OFF in VACANT, with direction NONE (R34, R37). That the expiry of a stopped timer changes nothing is the model's
choice (log entry 1). -/
def Obligations.TemperatureDecidesTheClimate : Prop :=
  (∀ (z : Fin 24) (temperature : Int) (s : State), ∃ t, exec (.temperatureSample z temperature) s = .next t
    ∧ (s.onZone z fun r => { r with climate := { r.climate with
          temperature := temperature, live := true, sampledAt := some s.now, lossDeadline := some (s.now + 60000) } }).follows t
    ∧ (let e := (s.zones[z].setpoint : Int) - temperature
       let band : Int := if s.zones[z].mode = .occupied then 5 else if s.zones[z].mode = .eco then 20 else 40
       t.zones[z].climate.demanded =
           (if |e| ≤ band then (if s.zones[z].mode = .vacant then .off else .fan)
            else if |e| ≤ band + 10 then .stage1 else .stage2)
         ∧ t.zones[z].climate.direction = (if 0 < e then .heat else if e < 0 then .cool else .none)))
  ∧ ∀ (z : Fin 24) (s : State), ∃ t, exec (.lossTimerExpiry z) s = .next t
      ∧ (s.zones[z].climate.lossDeadline = none → s.becomes t)
      ∧ (s.zones[z].climate.lossDeadline ≠ none →
          (s.onZone z fun r => { r with climate := { r.climate with live := false, lossDeadline := none } }).follows t
            ∧ t.zones[z].climate.demanded = (if s.zones[z].mode = .vacant then .off else .fan)
            ∧ t.zones[z].climate.direction = .none)

/-- OUTPUT_FRAME while no commit is pending: every fading channel adds 1 to its frames done and takes its level s + trunc((t −
s) × k / F), and at k = F the target, where its fade ends; no other channel changes, and the next frame falls 10 ms after this
one. A fade of F > 0 frames from s to t: after each k < F frames its level is that of R31 and lies between s and t, and after F
frames the level is t and the channel is no longer fading. A fade with F = 0 ends at its first frame at the target (R29,
R31). -/
def Obligations.FadesFollowTheirLines : Prop :=
  (∀ s : State, s.cue.commit = none → ∃ t, exec .outputFrame s = .next t
    ∧ ({ s with
          frameDeadline := s.frameDeadline + 10,
          zones := s.zones.map fun r => { r with channels := r.channels.map fun c =>
            if c.fading then
              if c.framesTotal ≤ c.framesDone + 1 then
                { c with framesDone := c.framesDone + 1, level := c.target, fading := false }
              else { c with
                framesDone := c.framesDone + 1,
                level := ((c.fadeStart : Int)
                  + (((c.target : Int) - c.fadeStart) * (c.framesDone + 1 : Nat)).tdiv c.framesTotal).toNat }
            else c } } : State).follows t)
  ∧ (∀ (c : Channel) (k : Nat), c.fading = true → c.framesDone = 0 → c.level = c.fadeStart → k < c.framesTotal →
      let r := Channel.advance^[k] c
      r.fading = true ∧ r.framesDone = k ∧ r.target = c.target
        ∧ (r.level : Int) = c.fadeStart + (((c.target : Int) - c.fadeStart) * k).tdiv c.framesTotal
        ∧ min c.fadeStart c.target ≤ r.level ∧ r.level ≤ max c.fadeStart c.target)
  ∧ ∀ c : Channel, c.fading = true → c.framesDone = 0 → c.level = c.fadeStart →
      let r := Channel.advance^[max 1 c.framesTotal] c
      r.fading = false ∧ r.level = c.target ∧ r.target = c.target

/-- Every step keeps the law of the zones: no zone's channel outputs draw more than its lighting grant, because the demand
covers what each channel's level and target can draw and the outputs are scaled by the grant against it (R32, R33). The
exception of a step that outruns its bound of signals is the model's (log entry 8). Every step keeps the law of the climate
units: each zone runs the highest stage, no higher than the demanded one, whose current is at most its climate grant (R39). -/
def Obligations.ZonesStayWithinTheirGrants : Prop :=
  (∀ s t : State, s.zonesWithin → step s = .next t →
     t.zonesWithin ∧ (t.unsettled = false → ∀ z : Fin 24,
       draw t.config.zones[z].rated (t.zones[z].channels.map (·.output)) ≤ 1000 * t.zones[z].lightGrant))
  ∧ (∀ s t : State, s.stageLaw → step s = .next t → t.stageLaw)

/-! ## Scenes and cues (chapter 3) -/

/-- STORE_SCENE with a record, for a scene 0..31: refused BUSY during a save; else the record is replaced whole, with its
levels, fade and setpoint clamped and its mode as given, and answered; no zone changes (R50). RECALL_SCENE on a zone 0..23 and a
scene 0..31 makes the scene's mode change, then its level changes with its fade, then its setpoint change, each where the record
holds it, and answers the zone's targets, mode and setpoint (R49, R51). -/
def Obligations.ScenesAreStoredAndRecalled : Prop :=
  (∀ (tag : Byte) (n : Fin 32) (f : SceneFields) (s : State), ∃ t, exec (.storeScene tag n.val (some f)) s = .next t
     ∧ if s.store.saving.isSome then s.refuses t 0x28 tag .busy
       else
         let r : Scene :=
           { levels := f.levels.map (·.map (min · 1000)), fade := min f.fade 60000 / 10 * 10,
             setpoint := f.setpoint.map fun v => (if v < 160 then 160 else if 300 < v then 300 else v) / 5 * 5,
             mode := f.mode }
         ({ s with config := { s.config with scenes := s.config.scenes.set n r } } : State).onlyAnswers t
           (okFrame 0x28 tag (u8 n.val ++ r.bytes)))
  ∧ (∀ (tag : Byte) (z : Fin 24) (n : Fin 32) (s : State), ∃ t, exec (.recallScene tag z.val n.val) s = .next t
       ∧ (let r := s.config.scenes[n]
          let moded := r.mode.elim s.zones[z] fun m => s.zones[z].changeMode m
          let lit : Zone := { moded with channels := Vector.ofFn fun i : Fin 4 =>
            ((r.levels[i]).elim (moded.channels[i]) fun l => (moded.channels[i]).changeLevel moded.mode l r.fade) }
          (s.onZone z fun _ => r.setpoint.elim lit fun v => { lit with setpoint := clampSetpoint v }).follows t)
       ∧ s.answers t 0x29 tag (u8 z.val ++ u8 n.val ++ (t.zones[z].channels.toList.map (·.target)).flatMap u16
           ++ u8 t.zones[z].mode.code ++ u16 t.zones[z].setpoint))

/-- CUE_ADD: refused BUSY while a commit is pending; RANGE for a zone above 23, a kind above 3, a SCENE number above 31 or a
MODE value above 255; FULL for a new pair of zone and kind in a list of 48. Else the entry, with its clamps, replaces the entry
of its pair in place or is appended as the newest, and its place, the replace flag, the count and the entry are answered (R54,
R55). -/
def Obligations.CueAddStagesTheEntry : Prop :=
  ∀ (tag : Byte) (f : CueFields) (s : State), ∃ t, exec (.cueAdd tag f) s = .next t
    ∧ (s.cue.commit ≠ none → s.refuses t 0x2B tag .busy)
    ∧ (s.cue.commit = none →
        (23 < f.zone ∨ 3 < f.kind ∨ (f.kind = 0 ∧ 31 < f.value) ∨ (f.kind = 3 ∧ 255 < f.value)) →
        s.refuses t 0x2B tag .range)
    ∧ (s.cue.commit = none →
        ¬ (23 < f.zone ∨ 3 < f.kind ∨ (f.kind = 0 ∧ 31 < f.value) ∨ (f.kind = 3 ∧ 255 < f.value)) →
        ∃ e, storedEntry f = some e ∧ e.zone.val = f.zone ∧ e.change.code = f.kind
          ∧ (f.kind = 0 → e.change = .scene (Fin.ofNat 32 f.value))
          ∧ (f.kind = 1 → e.change = .levels (f.levels.map (·.map (min · 1000))) (min f.fade 60000 / 10 * 10))
          ∧ (f.kind = 2 →
              e.change = .setpoint ((if f.value < 160 then 160 else if 300 < f.value then 300 else f.value) / 5 * 5))
          ∧ (f.kind = 3 → e.change = .mode f.value)
          ∧ ((∀ x ∈ s.cue.entries, e.matches x = false) →
              if 48 ≤ s.cue.entries.length then s.refuses t 0x2B tag .full
              else ({ s with cue := { s.cue with entries := s.cue.entries ++ [e] } } : State).onlyAnswers t
                (okFrame 0x2B tag (u8 s.cue.entries.length ++ u8 0 ++ u8 (s.cue.entries.length + 1) ++ e.bytes)))
          ∧ ((∃ x ∈ s.cue.entries, e.matches x = true) →
              ({ s with cue := { s.cue with
                  entries := s.cue.entries.map fun x => if e.matches x then e else x } } : State).onlyAnswers t
                (okFrame 0x2B tag (u8 (s.cue.entries.findIdx e.matches) ++ u8 1 ++ u8 s.cue.entries.length ++ e.bytes))))

/-- CUE_CLEAR: refused BUSY while a commit is pending; else every entry is removed and their number is answered. CUE_COMMIT:
refused BUSY while a commit is pending, then RANGE for a mode above 1; else the commit is pending with frames waited 0 and late
due clear, the cap timer runs 30 s for AFTER_FADES and is stopped for AT_FRAME, and the mode and the count are answered.
CAP_TIMER_EXPIRY sets late due (R56, R57, R59); that it changes nothing while the timer is stopped is the model's choice (log
entry 1). -/
def Obligations.CueListIsClearedAndCommitted : Prop :=
  (∀ (tag : Byte) (s : State), ∃ t, exec (.cueClear tag) s = .next t
    ∧ (s.cue.commit ≠ none → s.refuses t 0x2A tag .busy)
    ∧ (s.cue.commit = none → ({ s with cue := { s.cue with entries := [] } } : State).onlyAnswers t
        (okFrame 0x2A tag (u8 s.cue.entries.length))))
  ∧ (∀ (tag : Byte) (mode : Nat) (s : State), ∃ t, exec (.cueCommit tag mode) s = .next t
      ∧ if s.cue.commit ≠ none then s.refuses t 0x2C tag .busy
        else if 1 < mode then s.refuses t 0x2C tag .range
        else ({ s with cue := { s.cue with
                commit := some (if mode = 0 then .atFrame else .afterFades), framesWaited := 0, lateDue := false,
                capDeadline := if mode = 0 then none else some (s.now + 30000) } } : State).onlyAnswers t
              (okFrame 0x2C tag (u8 mode ++ u8 s.cue.entries.length)))
  ∧ ∀ s : State, ∃ t, exec .capTimerExpiry s = .next t
      ∧ if s.cue.capDeadline = none then s.becomes t
        else ({ s with cue := { s.cue with lateDue := true, capDeadline := none } } : State).becomes t

/-- OUTPUT_FRAME while a commit is pending: the fades advance, frames waited rises by 1, and the cue is applied when the mode is
AT_FRAME, when late due is set, or when no channel of a named zone is fading after the advance. Then its entries act on their
zones in list order: a SCENE entry by the scene's mode, levels and setpoint, where it holds them, a LEVELS entry by a level
change of each channel it names, a SETPOINT entry by its setpoint, a MODE entry by its mode; the list is empty, the commit state
IDLE, the cap timer stopped, and CUE_APPLIED carries mode, count, LATE and frames waited. Else the commit stays pending (R29,
R53, R58, R60, R62). That frames waited stops at 3100 is the model's reading (log entry 17). Stated for a step within the
model's bound of signals (log entry 8). -/
def Obligations.PendingCueIsAppliedAtItsFrame : Prop :=
  ∀ (m : CommitMode) (s : State), s.cue.commit = some m → ∃ t, exec .outputFrame s = .next t
    ∧ t.fixed = { s.fixed with frameDeadline := s.frameDeadline + 10 }
    ∧ (t.unsettled = false →
        let level (mode : ZoneMode) (c : Channel) (l fade : Nat) : Channel :=
          let target := if mode = .eco then min (min l 1000) 600 else min l 1000
          if target = c.level then { c with target := target, fading := false }
          else { c with
            fadeStart := c.level, target := target, framesDone := 0, framesTotal := min fade 60000 / 10, fading := true }
        let lit (z : Zone) (levels : Vector (Option Nat) 4) (fade : Nat) : Zone :=
          { z with channels := Vector.ofFn fun i : Fin 4 =>
              (levels[i]).elim (z.channels[i]) fun l => level z.mode (z.channels[i]) l fade }
        let warmed (z : Zone) (v : Nat) : Zone :=
          { z with setpoint := (if v < 160 then 160 else if 300 < v then 300 else v) / 5 * 5 }
        let moded (z : Zone) (v : Nat) : Zone :=
          if 2 < v ∨ v = z.mode.code then z
          else
            let mode := if v = 0 then .occupied else if v = 1 then .eco else .vacant
            { z with mode := mode, channels := z.channels.map fun c =>
                if v = 1 ∧ 600 < c.target then level mode c 600 3000
                else if v = 2 ∧ c.target ≠ 0 then level mode c 0 3000 else c }
        let act (z : Zone) : CueChange → Zone
          | .scene n =>
            let r := s.config.scenes[n]
            let y := lit (r.mode.elim z (moded z)) r.levels r.fade
            r.setpoint.elim y (warmed y)
          | .levels levels fade => lit z levels fade
          | .setpoint v => warmed z v
          | .mode v => moded z v
        let advanced := s.zones.map (·.frame)
        let waited := min 3100 (s.cue.framesWaited + 1)
        let late := decide (m = .afterFades) && s.cue.lateDue
        if m = .atFrame ∨ s.cue.lateDue = true ∨ ∀ e ∈ s.cue.entries, advanced[e.zone].isFading = false then
          t.looks = (s.cue.entries.foldl (fun zones e => zones.set e.zone (act zones[e.zone] e.change)) advanced).map (·.look)
            ∧ t.cue = { entries := [], commit := none, framesWaited := waited, capDeadline := none, lateDue := false }
            ∧ t.reported .cueApplied (u8 m.code ++ u8 s.cue.entries.length ++ flag late ++ u16 waited)
        else t.looks = advanced.map (·.look) ∧ t.cue = { s.cue with framesWaited := waited })

/-! ## Axes (chapter 4) -/

/-- SET_AXIS on an axis 0..2: refused BUSY during a save or while the axis is not IDLE, then RANGE for a warn pattern above 7, a
zone above 23, more than 24 zones, or a preset outside the soft limits (of the new maximum rode for WINDLASS); else every field
is stored with its clamps, the axis's own fields where it has them, and the stored values are answered. The rode follows P and L
at once, and a position that lies beyond its margin only by what this request stores is an OVERTRAVEL fault; without one, and
without a new deck level, nothing else changes (R66, R67, R68, R84, R88). -/
def Obligations.SetAxisStoresTheFields : Prop :=
  ∀ (tag : Byte) (a : Axis) (f : AxisFields) (s : State), ∃ t, exec (.setAxis tag (axisNumber a) f) s = .next t
    ∧ (let rode := if f.maxRode < 10000 then 10000 else if 150000 < f.maxRode then 150000 else f.maxRode
       let upper : Int := if a = .hatch then 900 else if a = .platform then 1500 else rode
       if s.store.saving.isSome = true ∨ (s.axis a).state ≠ .idle then s.refuses t 0x30 tag .busy
       else if 7 < f.warnPattern ∨ (∃ z ∈ f.warnZones, 23 < z) ∨ 24 < f.warnZones.length
           ∨ (∃ i : Fin 4, f.presets[i] < 0 ∨ upper < f.presets[i]) then s.refuses t 0x30 tag .range
       else
         let stored : State := { s with config := { s.config with
             axes := s.config.axes.set a
               { presets := f.presets, warnTime := min f.warnTime 10000, prepareTimeout := min f.prepareTimeout 120,
                 warnPattern := Fin.ofNat 8 f.warnPattern,
                 warnZones := (List.range 24).filter fun z => f.warnZones.contains z },
             deckLevel := if a = .platform then min f.deckLevel 1500 else s.config.deckLevel,
             gear := if a = .windlass then
                 { maxRode := rode, pulses := if f.pulses < 1 then 1 else if 64 < f.pulses then 64 else f.pulses,
                   chain := if f.chain < 100 then 100 else if 2000 < f.chain then 2000 else f.chain,
                   rating := min f.rating 4000 }
               else s.config.gear } }
         stored.follows t ∧ s.answers t 0x30 tag (u8 (axisNumber a) ++ t.axisSetBytes a)
           ∧ t.measured .windlass =
               some ((s.gypsy.count * stored.config.gear.chain / stored.config.gear.pulses : Nat) : Int)
           ∧ if beyondMargin stored.config.gear a (stored.measured a) = true
                 ∧ beyondMargin s.config.gear a (s.measured a) = false then
               stored.entersFault t a .overtravel
             else stored.config.deckLevel = s.config.deckLevel →
               stored.onlyAnswers t (okFrame 0x30 tag (u8 (axisNumber a) ++ stored.axisSetBytes a)))

/-- ACK_FAULT on an axis 0..2: refused STATE outside FAULT; in FAULT with a cause present refused STATE with the bits of the
causes; else the record is removed, answered as it stood, and the axis leaves FAULT; while contexts and queues are bound to each
other (`State.queueLaw`) it goes to IDLE when its head context holds no step, and a QUEUED head is ACTIVE again. Where that head
holds steps the axis takes the oldest up and enters PREPARING with it (R73, R74, R87, R96, R131). The exception of a step that
outruns its bound of signals is the model's (log entry 8). -/
def Obligations.AckFaultLeavesFault : Prop :=
  ∀ (tag : Byte) (a : Axis) (s : State), ∃ t, exec (.ackFault tag (axisNumber a)) s = .next t
    ∧ if (s.axis a).state ≠ .fault then s.refuses t 0x32 tag .state
      else if (s.causes a).any id = true then s.onlyAnswers t (replyFrame 0x32 tag .state (bits (s.causes a)))
      else s.follows t ∧ s.answers t 0x32 tag (u8 (axisNumber a) ++ faultBytes (s.axis a).fault)
        ∧ (t.axis a).state ≠ .fault ∧ (t.axis a).fault = none
        ∧ (s.queueLaw → t.unsettled = false → (∀ c, s.head a = some c → s.contexts[c].steps = []) →
            (t.axis a).state = .idle ∧ (t.axis a).drive = driveOff
              ∧ ∀ c, s.head a = some c → s.contexts[c].state = .queued → t.contexts[c].state = .active)
        ∧ (s.queueLaw → s.axesLawful → t.unsettled = false → ∀ c, s.head a = some c → s.contexts[c].state = .queued →
            s.takesUp t a c s.contexts[c].steps)

/-- POSITION_SAMPLE stores the position with age 0, makes the sensor FRESH, restarts the stale timer at 200 ms, and works the
permits out. When it changes no permit and is within the soft limits, an axis in MOVING has the arrival test: arrived, it enters
DWELL; else it goes on with the speed class in force for the new distance, and with an AXIS report at a travel report step. A
position that passes its soft limit by more than the margin is an OVERTRAVEL fault (R65, R70, R72, R76, R84, R90). The free
choice where an arrival meets the loss of the permit, with the count `freeIndex` of such choices, is the model's (log
entry 10). -/
def Obligations.PositionSamplesDriveTheAxis : Prop :=
  ∀ (h : Hydraulic) (p : Int) (s : State), ∃ t, exec (.positionSample h p) s = .next t
    ∧ (let a := axisOfHydraulic h
       let fed : State := { s with sensors := s.sensors.set h (
         { position := some p, sampledAt := some s.now, fresh := true, staleDeadline := some (s.now + 200) }) }
       ({ fed with freeIndex := if fed.arrivalMeetsLoss a = true then s.freeIndex + 1 else s.freeIndex } : State).follows t
         ∧ t.permitsFresh
         ∧ (fed.workedPermits = s.permits → beyondMargin s.config.gear a (some p) = false → (s.axis a).state = .moving →
             ∀ c, (s.axis a).current = some c → s.movesOn t a c p)
         ∧ (fed.workedPermits = s.permits → beyondMargin s.config.gear a (some p) = true →
             beyondMargin s.config.gear a (s.measured a) = false → (s.axis a).state ≠ .fault →
             ((s.axis a).state = .moving → (s.axis a).current.all (fun c => !c.step.arrived a (some p)) = true) →
             fed.entersFault t a .overtravel))

/-- WINDLASS_PULSE stores the direction and changes the count by 1 within 0..65535, or makes it 0 while the anchor-home switch
is active; the rode is then floor(count × L / P). The fourth pulse against the direction of a step is a SENSOR fault.
ANCHOR_HOME_CHANGE stores the level, and an active switch makes the count 0. A changed rode makes the checks of a position
change: in MOVING the arrival, else the speed class in force and the travel report; and a rode that passes its soft limit by
more than the margin is an OVERTRAVEL fault. An unchanged rode makes none. Every step keeps the law that the count is 0 while
the switch is active (R66, R70, R72, R76, R84). That SENSOR is the first fault kind where the same pulse also overtravels, and
the free choice where an arrival meets the loss of the permit, are the model's (log entries 13 and 10). -/
def Obligations.PulsesCountTheRode : Prop :=
  (∀ (payingOut : Bool) (s : State), ∃ t, exec (.windlassPulse payingOut) s = .next t
    ∧ (let n := if s.inputs.anchorHome = true then 0 else if payingOut = true then min 65535 (s.gypsy.count + 1)
         else s.gypsy.count - 1
       let fed : State := { s with
         inputs := { s.inputs with payingOut := payingOut }, gypsy := { s.gypsy with count := n } }
       fed.follows t
         ∧ t.measured .windlass = some ((n * s.config.gear.chain / s.config.gear.pulses : Nat) : Int)
         ∧ ((s.axis .windlass).state ≠ .idle → (s.axis .windlass).state ≠ .fault → s.gypsy.reverse = 3 →
             (∃ c, (s.axis .windlass).current = some c
               ∧ c.step.direction = (if payingOut = true then .inward else .out)) →
             fed.entersFault t .windlass .sensor)
         ∧ (let against := (s.axis .windlass).current.any fun c =>
              decide (c.step.direction = if payingOut = true then .inward else .out)
            let z : Int := (n * s.config.gear.chain / s.config.gear.pulses : Nat)
            let counted : State := { fed with gypsy := { fed.gypsy with
              reverse := if against = true then min 65535 (s.gypsy.reverse + 1) else s.gypsy.reverse } }
            (against = false ∨ s.gypsy.reverse ≠ 3) →
              (s.measured .windlass = some z → counted.becomes t)
                ∧ (s.measured .windlass ≠ some z → (s.axis .windlass).state = .moving →
                    beyondMargin s.config.gear .windlass (some z) = false →
                    ∀ c, (s.axis .windlass).current = some c → s.movesOn t .windlass c z)
                ∧ (beyondMargin s.config.gear .windlass (some z) = true →
                    beyondMargin s.config.gear .windlass (s.measured .windlass) = false →
                    (s.axis .windlass).state ≠ .fault →
                    ((s.axis .windlass).state = .moving →
                      (s.axis .windlass).current.all (fun c => !c.step.arrived .windlass (some z)) = true) →
                    counted.entersFault t .windlass .overtravel))))
  ∧ (∀ (active : Bool) (s : State), ∃ t, exec (.anchorHomeChange active) s = .next t
      ∧ (let fed : State := { s with
           inputs := { s.inputs with anchorHome := active },
           gypsy := { s.gypsy with count := if active = true then 0 else s.gypsy.count } }
         ({ fed with freeIndex := t.freeIndex } : State).follows t ∧ t.permitsFresh
           ∧ (t.freeIndex = s.freeIndex ∨ (t.freeIndex = s.freeIndex + 1 ∧ fed.arrivalMeetsLoss .windlass = true))
           ∧ (fed.workedPermits = s.permits →
               (fed.measured .windlass = s.measured .windlass → fed.becomes t)
                 ∧ (fed.measured .windlass ≠ s.measured .windlass → (s.axis .windlass).state = .moving →
                     ∀ c, (s.axis .windlass).current = some c → s.movesOn t .windlass c 0))))
  ∧ ∀ s t : State, s.homeLaw → step s = .next t → t.homeLaw

/-- STALE_TIMER_EXPIRY makes the sensor STALE, and OVERLOAD_INPUT stores the level: the first, and a level that becomes active,
is a fault of its axis in every state but IDLE; in FAULT it adds to the count, up to 255. The program of a faulted axis ends,
and an owner gives the pump up. STALL_WINDOW_EXPIRY starts the window again after enough progress and is a STALL fault after
less (R65, R77, R84, R85, R86, R130). That an expiry of a stopped timer changes nothing is the model's choice (log entry 1). -/
def Obligations.DetectedFaultsAreEntered : Prop :=
  (∀ (h : Hydraulic) (s : State), ∃ t, exec (.staleTimerExpiry h) s = .next t
    ∧ (let a := axisOfHydraulic h
       let fed : State := { s with sensors := s.sensors.set h (
         { s.sensors.get h with fresh := false, staleDeadline := none }) }
       ((s.sensors.get h).staleDeadline = none → s.becomes t)
         ∧ ((s.sensors.get h).staleDeadline ≠ none → fed.follows t ∧ t.permitsFresh
             ∧ ((s.axis a).state ≠ .idle → (s.axis a).state ≠ .fault → fed.entersFault t a .sensor)
             ∧ ((s.axis a).state = .fault →
                 (t.axis a).fault = (s.axis a).fault.map fun f => { f with count := min 255 (f.count + 1) }))))
  ∧ (∀ (active : Bool) (s : State), ∃ t, exec (.overloadInput active) s = .next t
      ∧ (let fed : State := { s with inputs := { s.inputs with overload := active } }
         fed.follows t
           ∧ ((active = false ∨ s.inputs.overload = true ∨ (s.axis .windlass).state = .idle) → fed.becomes t)
           ∧ (active = true → s.inputs.overload = false → (s.axis .windlass).state ≠ .idle →
               if (s.axis .windlass).state = .fault then
                 t.axis .windlass = { s.axis .windlass with
                   fault := (s.axis .windlass).fault.map fun f => { f with count := min 255 (f.count + 1) } }
               else fed.entersFault t .windlass .overload)))
  ∧ ∀ (a : Axis) (s : State), ∃ t, exec (.stallWindowExpiry a) s = .next t ∧ s.follows t
      ∧ (((s.axis a).stall = none ∨ (s.axis a).current = none) → s.becomes t)
      ∧ ∀ w c, (s.axis a).stall = some w → (s.axis a).current = some c →
          let moved := s.progressAt a - w.startedAt
          if minimumProgress a ≤ (if c.step.direction = .inward then -moved else moved) then
            (s.onAxis a fun r => { r with
              stall := some { deadline := s.now + stallTime a, startedAt := s.progressAt a } }).becomes t
          else (s.axis a).state = .moving → s.entersFault t a .stall

/-- WARN_TIME_REACHED meets the warn gate. In PREPARING with an empty hold set and the other gates met, the axis then enters
MOVING, driven in the direction of its step with its stall window and travel reference started, or DWELL when it has arrived;
else nothing but the warn gate changes. STOP_TIMER_EXPIRY in STOPPING: with a current step and reasons in the hold set the axis
enters HOLD; with a current step and none it enters PREPARING with its warning from the start, or FAULT when its sensor is stale
or the windlass is overloaded; without a current step it enters IDLE, where an owner gives the pump up, and takes up the oldest
step of its head context or stays (R70, R73 to R78, R81, R84, R128, R130, R131). That an expiry of a stopped timer, or outside
STOPPING, changes nothing is the model's choice (log entry 1), and so is the exception of a step that outruns its bound of
signals (log entry 8). -/
def Obligations.WarnAndStopTimesMoveTheAxis : Prop :=
  (∀ (a : Axis) (s : State), ∃ t, exec (.warnTimeReached a) s = .next t ∧ s.follows t
     ∧ ((s.axis a).warnStart = none → s.becomes t)
     ∧ ((s.axis a).warnStart ≠ none →
         let lit := s.onAxis a fun r => { r with warnReached := true }
         let grantMet := (hydraulicOf a).elim (decide (s.gypsy.grant = s.raw windlassSlot)) fun h =>
           decide (s.pump.owner = some h) && decide (s.pump.grant = s.raw pumpSlot)
         ((s.axis a).current = none → lit.becomes t)
           ∧ ∀ c, (s.axis a).current = some c →
             if (s.axis a).state = .preparing ∧ (s.axis a).holds = noHolds ∧ grantMet = true
                 ∧ c.step.direction.interlock.all (s.permit a) = true then
               if c.step.arrived a (s.measured a) = true then
                 c.step.dwellTime ≠ 0 → (t.axis a).state = .dwell ∧ (t.axis a).drive = driveOff
                   ∧ (t.axis a).dwellDeadline = some (s.now + c.step.dwellTime)
               else
                 t.axis a = { s.axis a with
                   state := .moving, warnStart := none, warnReached := false, prepareDeadline := none,
                   speed := c.step.speedInForce a (s.measured a),
                   drive := moveDrive c.step.direction (c.step.speedInForce a (s.measured a)),
                   stall := some { deadline := s.now + stallTime a, startedAt := s.progressAt a },
                   travelRef := (s.measured a).getD 0 }
                   ∧ t.contexts = s.contexts ∧ t.queues = s.queues ∧ t.pump = s.pump ∧ t.budget = s.budget
             else lit.becomes t))
  ∧ (∀ (a : Axis) (s : State), ∃ t, exec (.stopTimerExpiry a) s = .next t ∧ s.follows t
       ∧ (((s.axis a).stopDeadline = none ∨ (s.axis a).state ≠ .stopping) → s.becomes t)
       ∧ ((s.axis a).stopDeadline ≠ none → (s.axis a).state = .stopping →
           (if (s.axis a).current = none then
             s.queueLaw → t.unsettled = false →
               ((∀ c, s.head a = some c → s.contexts[c].state ≠ .active ∨ s.contexts[c].steps = []) →
                 (t.axis a).state = .idle ∧ (t.axis a).drive = driveOff ∧ (t.axis a).stopDeadline = none
                   ∧ ∀ h, hydraulicOf a = some h → s.pump.owner = some h → s.givesPumpUp t h)
                 ∧ (s.axesLawful → ∀ c, s.head a = some c → s.contexts[c].state = .active →
                     s.takesUp t a c s.contexts[c].steps)
           else if (s.axis a).holds = noHolds then
             (t.axis a).stopDeadline = none
               ∧ (s.mayPrepare a (s.axis a).current → t.unsettled = false → s.prepares t a (s.axis a).current)
               ∧ (∀ h, hydraulicOf a = some h → (s.sensors.get h).fresh = false → s.entersFault t a .sensor)
               ∧ (a = .windlass → s.inputs.overload = true → s.entersFault t a .overload)
           else
             t.axis a = { s.axis a with
                 state := .hold, drive := driveOff, stall := none, dwellDeadline := none, stopDeadline := none }
               ∧ t.contexts = s.contexts ∧ t.queues = s.queues ∧ t.pump = s.pump ∧ t.budget = s.budget)))

/-- DWELL_END finishes the current step of an axis in DWELL. A CLOSING program ends, CANCELLED or BROKEN; a final step ends it
COMPLETE, and the axis goes to IDLE, where it takes up the oldest step of the next context, now ACTIVE, and enters PREPARING
with it. Otherwise, with no step waiting the axis holds STARVED and the starvation timer starts at 2 s; with one waiting, that
step becomes current and the axis dwells when it has arrived, moves when the permit is true, or holds with INTERLOCK (R73, R74,
R78, R103, R111, R112). That an expiry of a stopped timer, or outside DWELL, changes nothing, and the exception of a step that
outruns its bound of signals, are the model's choice (log entries 1 and 8). -/
def Obligations.DwellEndFinishesTheStep : Prop :=
  ∀ (a : Axis) (s : State), ∃ t, exec (.dwellEnd a) s = .next t ∧ s.follows t
    ∧ (((s.axis a).dwellDeadline = none ∨ (s.axis a).state ≠ .dwell ∨ (s.axis a).current = none) → s.becomes t)
    ∧ ((s.axis a).dwellDeadline ≠ none → (s.axis a).state = .dwell → ∀ cur, (s.axis a).current = some cur →
        let c := cur.context
        let x := s.contexts[c]
        let counted := s.onContext c fun y => { y with executed := min 65535 (y.executed + 1) }
        if x.state = .closing then
          s.queueLaw → t.unsettled = false →
            counted.stopsWith t c a (if x.admission = .broken then .broken else .cancelled) ∧ (t.axis a).state = .idle
        else if cur.step.final = true then
          s.queueLaw → t.unsettled = false → counted.programEnded t c a .complete
            ∧ (s.queue a = [c] → (t.axis a).state = .idle)
            ∧ ∀ b rest, s.queue a = c :: b :: rest →
                (s.contexts[b].steps = [] → (t.axis a).state = .idle ∧ t.contexts[b].state = .active)
                  ∧ (s.axesLawful → s.takesUp t a b s.contexts[b].steps)
        else if x.steps = [] then
          t.axis a = { s.axis a with
              state := .hold, current := none, holds := { (s.axis a).holds with starved := true }, drive := driveOff,
              stall := none, dwellDeadline := none, stopDeadline := none }
            ∧ t.contexts[c] = { x with
                executed := min 65535 (x.executed + 1), starveDeadline := some (s.now + 2000) }
        else s.head a = some c → ∀ next, x.steps.head? = some next →
          if next.arrived a (s.measured a) = true then
            next.dwellTime ≠ 0 → (t.axis a).state = .dwell ∧ (t.axis a).current = some { context := c, step := next }
              ∧ (t.axis a).dwellDeadline = some (s.now + next.dwellTime)
          else (t.axis a).current = some { context := c, step := next }
            ∧ if next.direction.interlock.all (s.permit a) = true then
                (t.axis a).state = .moving
                  ∧ (t.axis a).drive = moveDrive next.direction (next.speedInForce a (s.measured a))
              else (t.axis a).state = .hold ∧ (t.axis a).holds = { (s.axis a).holds with interlock := true }
                ∧ (t.axis a).drive = driveOff)

/-! ## Programs (chapter 5) -/

/-- OPEN_PROGRAM on a context 0..15 and an axis 0..2: refused STATE for a context that is not FREE; else the context is bound to
the axis for LINK with its admission OPEN and fresh, appended to the queue, ACTIVE as the head of an axis outside FAULT and else
QUEUED, and its number, axis, state and place are answered (R95, R96, R97). -/
def Obligations.OpenProgramBindsTheContext : Prop :=
  ∀ (tag : Byte) (c : Fin 16) (a : Axis) (s : State), ∃ t, exec (.openProgram tag c.val (axisNumber a)) s = .next t
    ∧ if s.contexts[c].state ≠ .free then s.refuses t 0x38 tag .state
      else
        let state : ContextState := if s.queue a = [] ∧ (s.axis a).state ≠ .fault then .active else .queued
        ({ s with
            contexts := s.contexts.set c
              { state := state, owner := some .link, axis := some a, admission := .open, leg := 0, expectedSeq := 0,
                expectedStart := none, firstAdmitted := false, steps := [], executed := 0, starveDeadline := none },
            queues := s.queues.set a (s.queue a ++ [c]) } : State).onlyAnswers t
          (okFrame 0x38 tag (u8 c.val ++ u8 (axisNumber a) ++ u8 state.code
            ++ u8 ((s.queue a ++ [c]).findIdx fun b => b = c)))

/-- PROGRAM_STEP on a context 0..15. The first failing check answers, with the context's fields: STATE for a context that is
FREE, CLOSING or not OPEN; RANGE for a speed class other than 0 to 2 and the absent marker, or for a target; FULL for a queue of
8 steps; BUSY for a QUEUED context behind one whose admission is not DONE; ORDER for the order of steps and the continuity of
positions, which breaks the admission: an ACTIVE context with a current step closes, any other ends BROKEN. A step that passes
is appended, the admission half follows it. An axis in IDLE takes it up from its ACTIVE head: it enters PREPARING with the step,
its timers started and its power asked for, or FAULT at once where a cause is found. STARVED leaves the hold set of an ACTIVE
head's axis: where it was the only reason, the axis prepares again, with the oldest step where it held none (R73, R74, R82, R98
to R103, R111, R171). The exception of a step that outruns its bound of signals is the model's (log entry 8). -/
def Obligations.ProgramStepsPassTheirChecks : Prop :=
  ∀ (tag : Byte) (c : Fin 16) (f : StepFields) (s : State), ∃ t, exec (.programStep tag c.val f) s = .next t
    ∧ (let x := s.contexts[c]
       let refuses (r : Result) : Prop := s.onlyAnswers t (replyFrame 0x39 tag r (s.stepReplyBytes c))
       if x.axis = none ∨ x.state = .free ∨ x.state = .closing ∨ x.admission ≠ .open then refuses .state
       else ∀ a, x.axis = some a →
         if f.speed.any (fun v => decide (2 < v ∧ v ≠ 255)) = true ∨ f.target < 0 ∨ upperLimit s.config.gear a < f.target
         then refuses .range
         else if 8 ≤ x.steps.length then refuses .full
         else if x.state = .queued ∧ (beforeIn c (s.queue a)).any (fun b => s.contexts[b].admission != .done) = true then
           refuses .busy
         else
           let ordered : Prop :=
             if x.firstAdmitted = false then f.first = true ∧ f.seq = 0
             else if f.legStart = true then f.first = false ∧ f.leg ≠ x.leg ∧ f.seq = 0
             else f.first = false ∧ f.leg = x.leg ∧ f.seq = x.expectedSeq
           let continuous : Bool :=
             if f.first = false then x.expectedStart = some f.start
             else (beforeIn c (s.queue a)).elim
               ((s.measured a).any fun z => decide (|f.start - z| ≤ startTolerance a))
               fun b => s.contexts[b].expectedStart = some f.start
           if ordered ∧ continuous = true then
             s.follows t ∧ s.answers t 0x39 tag (t.stepReplyBytes c)
               ∧ (let step : Step :=
                    { first := f.first, legStart := f.legStart, final := f.final, leg := f.leg, seq := f.seq,
                      start := f.start, target := f.target, dwell := f.dwell.map (min · 60000),
                      speed := (f.speed.filter fun v => decide (v ≠ 255)).map fun v =>
                        if v = 0 then .crawl else if v = 1 then .slow else .normal }
                  let admitted : Context :=
                    { x with
                      steps := x.steps ++ [step], leg := if f.first = true ∨ f.legStart = true then f.leg else x.leg,
                      expectedSeq := (f.seq + 1) % 65536, expectedStart := some f.target, firstAdmitted := true,
                      admission := if f.final = true then .done else .open }
                  t.contexts[c].leg = admitted.leg ∧ t.contexts[c].expectedSeq = admitted.expectedSeq
                    ∧ t.contexts[c].expectedStart = some f.target ∧ t.contexts[c].firstAdmitted = true
                    ∧ (if s.head a = some c ∧ x.state = .active then
                        (s.axis a).state ≠ .idle → ((s.axis a).holds.starved = false ∨ (s.axis a).takesReason = false) →
                          t.contexts[c] = { admitted with starveDeadline := none }
                      else t.core = ({ s with contexts := s.contexts.set c admitted } : State).core)
                    ∧ (s.head a = some c → x.state = .active → (s.axis a).state = .idle → s.axesLawful → t.unsettled = false →
                        s.takesUp t a c admitted.steps)
                    ∧ ((s.axis a).holds.starved = true → (s.axis a).state = .hold → s.head a = some c → x.state = .active →
                        if (s.axis a).holds = { noHolds with starved := true } then
                          let x := (s.axis a).current.or (admitted.steps.head?.map fun y => { context := c, step := y })
                          s.mayPrepare a x → t.unsettled = false → s.prepares t a x
                        else t.axis a = { s.axis a with holds := { (s.axis a).holds with starved := false } }))
           else if x.state = .active ∧ s.hasCurrent c = true then
             ({ s with contexts := s.contexts.set c { x with admission := .broken, state := .closing, steps := [] } } :
                 State).onlyAnswers t
               (replyFrame 0x39 tag .order
                 (({ s with contexts := s.contexts.set c { x with admission := .broken, state := .closing, steps := [] } } :
                   State).stepReplyBytes c))
           else s.follows t ∧ t.outgoing = s.outgoing ++ [replyFrame 0x39 tag .order (t.stepReplyBytes c)]
             ∧ (s.queueLaw → t.unsettled = false → s.stopsWith t c a .broken))

/-- CANCEL_PROGRAM on a context 0..15: refused STATE for a FREE one. A QUEUED one ends CANCELLED in either mode, and its axis
stays as it was. AT_BOUNDARY closes an ACTIVE one, its steps discarded, and ends it at once when the axis holds no step; on a
CLOSING one it changes nothing. IMMEDIATE ends an ACTIVE one CANCELLED, a CLOSING one with the status its closing fixed, and the
axis acts on the end. The context, the mode and its state are answered (R104, R105, R106, R112, R113). -/
def Obligations.CancelsEndOrClosePrograms : Prop :=
  ∀ (tag : Byte) (c : Fin 16) (immediate : Bool) (s : State),
    ∃ t, exec (if immediate then .cancelImmediate tag c.val else .cancelAtBoundary tag c.val) s = .next t
    ∧ (let x := s.contexts[c]
       let mode := if immediate then 1 else 0
       if x.state = .free then s.refuses t 0x3A tag .state
       else s.follows t ∧ s.answers t 0x3A tag (u8 c.val ++ u8 mode ++ u8 t.contexts[c].state.code)
         ∧ (immediate = false → x.state = .closing → t.core = s.core)
         ∧ (immediate = false → x.state = .active →
             s.hasCurrent c = true →
             t.core = ({ s with contexts := s.contexts.set c (
               { x with admission := .cancelled, state := .closing, steps := [] }) } : State).core)
         ∧ (s.queueLaw → t.unsettled = false → ∀ a, x.axis = some a →
             (x.state = .queued → s.stopsWith t c a .cancelled ∧ t.axis a = s.axis a)
               ∧ (x.state = .active → (immediate = true ∨ (s.axis a).current = none) →
                   s.stopsWith t c a .cancelled ∧ s.axisReleased t a)
               ∧ (x.state = .closing → immediate = true →
                   s.stopsWith t c a (if x.admission = .broken then .broken else .cancelled) ∧ s.axisReleased t a)))

/-- PREPARE_TIMER_EXPIRY ends the head's program NOT_READY, STARVATION_TIMER_EXPIRY the context's STARVED, and
RELEASE_TIMER_EXPIRY the run record's RELEASED: the report, then the axis, the context and its successors, which end ABANDONED;
the run record goes with its program (R75, R83, R111, R112, R113, R162, R165). That an expiry of a stopped timer changes
nothing, and the exception of a step that outruns its bound of signals, are the model's choice (log entries 1 and 8). -/
def Obligations.TimersEndPrograms : Prop :=
  (∀ (a : Axis) (s : State), ∃ t, exec (.prepareTimerExpiry a) s = .next t ∧ s.follows t
    ∧ ((s.axis a).prepareDeadline = none → s.becomes t)
    ∧ ((s.axis a).prepareDeadline ≠ none → s.queueLaw → t.unsettled = false → ∀ c, s.head a = some c →
        s.stopsWith t c a .notReady
          ∧ (s.contexts[c].state ≠ .queued → (s.axis a).takesReason = true → s.axisReleased t a)))
  ∧ (∀ (c : Fin 16) (s : State), ∃ t, exec (.starvationTimerExpiry c) s = .next t ∧ s.follows t
      ∧ (s.contexts[c].starveDeadline = none → s.becomes t)
      ∧ (s.contexts[c].starveDeadline ≠ none → s.queueLaw → t.unsettled = false → ∀ a, s.contexts[c].axis = some a →
          s.stopsWith t c a .starved ∧ (s.contexts[c].state ≠ .queued → s.axisReleased t a)))
  ∧ ∀ (a : Axis) (s : State), ∃ t, exec (.releaseTimerExpiry a) s = .next t ∧ s.follows t
      ∧ (((s.runs.get a).bind fun r => r.deadline) = none → s.becomes t)
      ∧ ∀ r, s.runs.get a = some r → r.deadline ≠ none → s.queueLaw → t.unsettled = false →
          ∀ b, s.contexts[r.context].axis = some b →
            s.stopsWith t r.context b .released ∧ t.runs.get a = none
              ∧ (s.contexts[r.context].state ≠ .queued → s.axisReleased t b)

/-- PAUSE_PROGRAM on a context 0..15 that is ACTIVE or CLOSING adds LINK_PAUSE to its axis where the axis takes a reason: MOVING
goes to STOPPING, DWELL to HOLD, every other state stays. RESUME_PROGRAM removes LINK_PAUSE and LINK_SILENT: while reasons
remain, or outside HOLD and PREPARING, nothing else changes. When the set becomes empty in HOLD the axis prepares again with its
full warning, or enters FAULT when its sensor is stale or the windlass is overloaded; when it becomes empty in PREPARING the
axis stays there until the warn time is reached, and moves when its gates are met. Each is refused STATE for a FREE or QUEUED
context, and a pause where the axis takes no reason; the axis and its hold set are answered (R74, R79, R80, R82, R84, R108,
R109, R131). -/
def Obligations.PauseAndResumeHoldTheAxis : Prop :=
  (∀ (tag : Byte) (c : Fin 16) (s : State), ∃ t, exec (.pauseProgram tag c.val) s = .next t
    ∧ ((s.contexts[c].state = .free ∨ s.contexts[c].state = .queued ∨ s.contexts[c].axis = none) →
        s.refuses t 0x3B tag .state)
    ∧ ((s.contexts[c].state = .active ∨ s.contexts[c].state = .closing) → ∀ a, s.contexts[c].axis = some a →
        if (s.axis a).takesReason = false then s.refuses t 0x3B tag .state
        else s.follows t ∧ s.answers t 0x3B tag (u8 c.val ++ u8 (axisNumber a) ++ (t.axis a).holds.byte)
          ∧ (t.axis a).holds = { (s.axis a).holds with linkPause := true } ∧ (t.axis a).current = (s.axis a).current
          ∧ t.contexts = s.contexts ∧ t.queues = s.queues ∧ t.pump = s.pump ∧ t.budget = s.budget
          ∧ t.permits = s.permits ∧ (∀ b : Axis, b ≠ a → t.axis b = s.axis b)
          ∧ if (s.axis a).holds.linkPause = true then t.core = s.core
            else ((s.axis a).state = .moving → (t.axis a).state = .stopping ∧ (t.axis a).drive = driveOff
                  ∧ (t.axis a).stopDeadline = some (s.now + stopTime a))
              ∧ ((s.axis a).state = .dwell → (t.axis a).state = .hold ∧ (t.axis a).dwellDeadline = none)
              ∧ ((s.axis a).state ≠ .moving → (s.axis a).state ≠ .dwell → (t.axis a).state = (s.axis a).state)))
  ∧ ∀ (tag : Byte) (c : Fin 16) (s : State), ∃ t, exec (.resumeProgram tag c.val) s = .next t
      ∧ ((s.contexts[c].state = .free ∨ s.contexts[c].state = .queued ∨ s.contexts[c].axis = none) →
          s.refuses t 0x3C tag .state)
      ∧ ((s.contexts[c].state = .active ∨ s.contexts[c].state = .closing) → ∀ a, s.contexts[c].axis = some a →
          let left : HoldSet := { (s.axis a).holds with linkPause := false, linkSilent := false }
          s.follows t ∧ s.answers t 0x3C tag (u8 c.val ++ u8 (axisNumber a) ++ (t.axis a).holds.byte)
            ∧ (left = (s.axis a).holds → t.core = s.core)
            ∧ ((left ≠ noHolds ∨ ((s.axis a).state ≠ .hold ∧ (s.axis a).state ≠ .preparing)) →
                t.core = (s.onAxis a fun r => { r with holds := left }).core)
            ∧ (left = noHolds → left ≠ (s.axis a).holds → (s.axis a).state = .hold →
                (s.mayPrepare a (s.entryStep a) → t.unsettled = false → s.prepares t a (s.entryStep a))
                  ∧ (∀ h, hydraulicOf a = some h → (s.sensors.get h).fresh = false → s.entersFault t a .sensor)
                  ∧ (a = .windlass → s.inputs.overload = true → s.entersFault t a .overload))
            ∧ (left = noHolds → left ≠ (s.axis a).holds → (s.axis a).state = .preparing →
                ((s.axis a).warnReached = false → t.core = (s.onAxis a fun r => { r with holds := left }).core)
                  ∧ ∀ x, (s.axis a).current = some x → s.gatesMet a x.step = true →
                      x.step.arrived a (s.measured a) = false →
                      (t.axis a).state = .moving ∧ (t.axis a).holds = noHolds
                        ∧ (t.axis a).drive = moveDrive x.step.direction (x.step.speedInForce a (s.measured a))))

/-! ## Interlocks, pump and chime (chapter 6) -/

/-- A permit is true exactly when every term of its list holds: a true test that is not inverted, or a false one that is; an
unknown test never holds. SET_INTERLOCK for an axis 0..2 and a direction, write form: refused BUSY during a save or outside
IDLE, then RANGE for more than 4 terms or a test above 15; else the list is replaced whole and the permits are worked out.
SET_VESSEL, its ageing, FIELD_INPUT_CHANGE and the common form store what they carry, with its clamps, and the permits are
worked out; the common read form changes nothing. A permit delivered to the axis whose current step has its direction adds
INTERLOCK in MOVING and DWELL when false, and when true removes it in HOLD and STOPPING and tests the gates in PREPARING (R80,
R119, R121 to R126). That an expiry of a stopped timer changes nothing, the marker of a pump that is off, the work on the
permits before the new pump rating is posted, what an owner does at a rating above its cap or at one lowered to its grant, and
the vessel data's age without its part of a second and without its ageing timer, are the model's choice (log entries 1, 25, 31,
32, 48, 50 and 52). -/
def Obligations.InputsWorkThePermits : Prop :=
  (∀ (s : State) (a : Axis) (d : Direction), s.workedPermit a d = true ↔ ∀ x ∈ (s.config.interlocks.get a).get d,
      (s.test x.test = .isTrue ∧ x.invert = false) ∨ (s.test x.test = .isFalse ∧ x.invert = true))
  ∧ (∀ (tag : Byte) (a : Axis) (d : Direction) (l : List (Nat × Nat)) (s : State),
      ∃ t, exec (.setInterlock tag (axisNumber a) d.code (some l)) s = .next t
      ∧ if s.store.saving.isSome = true ∨ (s.axis a).state ≠ .idle then s.refuses t 0x33 tag .busy
        else if 4 < l.length ∨ (∃ x ∈ l, 15 < x.1) then s.refuses t 0x33 tag .range
        else
          let terms : List Term := l.map fun x => { test := Fin.ofNat 16 x.1, invert := decide (x.2 ≠ 0) }
          ({ s with config := { s.config with
              interlocks := s.config.interlocks.set a ((s.config.interlocks.get a).set d terms) } } : State).follows t
            ∧ t.permitsFresh
            ∧ s.answers t 0x33 tag (u8 (axisNumber a) ++ u8 d.code ++ u8 l.length
                ++ terms.flatMap (fun x => u8 x.test.val ++ flag x.invert ++ u8 (t.test x.test).code)
                ++ flag (t.permit a d)))
  ∧ (∀ (tag : Byte) (settings : Option (Nat × Nat)) (s : State), ∃ t, exec (.setInterlockCommon tag settings) s = .next t
      ∧ (let bytes := u16 t.config.speedLimit ++ u16 t.config.pumpRating ++ hydraulicByte t.pump.owner
           ++ hydraulicByte t.pump.waiting ++ (if t.pump.run = true then u8 1 else u8 0xFF) ++ u16 t.vessel.speed
           ++ flag t.vessel.shore ++ flag t.vessel.flagA ++ flag t.vessel.flagB ++ u8 t.vessel.state.code
           ++ (t.vessel.setAt.elim (u32 0xFFFFFFFF) fun at_ => u32 (min 65535 ((t.now - at_) / 1000)))
         settings.elim (s.onlyAnswers t (okFrame 0x33 tag bytes)) fun x =>
           if s.store.saving.isSome = true then s.refuses t 0x33 tag .busy
           else ({ s with config := { s.config with speedLimit := min x.1 500, pumpRating := min x.2 4000 } } :
               State).follows t
             ∧ t.permitsFresh ∧ s.answers t 0x33 tag bytes))
  ∧ (∀ (tag : Byte) (speed shore flagA flagB : Nat) (s : State), ∃ t, exec (.setVessel tag speed shore flagA flagB) s = .next t
      ∧ ({ s with vessel :=
          { speed := min speed 500, shore := decide (shore ≠ 0), flagA := decide (flagA ≠ 0), flagB := decide (flagB ≠ 0),
            state := .fresh, setAt := some s.now, ageDeadline := some (s.now + 10000) } } : State).follows t
      ∧ t.permitsFresh
      ∧ s.answers t 0x34 tag
          (u16 (min speed 500) ++ flag (decide (shore ≠ 0)) ++ flag (decide (flagA ≠ 0)) ++ flag (decide (flagB ≠ 0))))
  ∧ (∀ s : State, ∃ t, exec .vesselAgeingExpiry s = .next t
      ∧ if s.vessel.ageDeadline = none then s.becomes t
        else ({ s with vessel := { s.vessel with state := .old, ageDeadline := none } } : State).follows t ∧ t.permitsFresh)
  ∧ (∀ (input : FieldInput) (active : Bool) (s : State), ∃ t, exec (.fieldInputChange input active) s = .next t
      ∧ ({ s with inputs := putInput s.inputs active input } : State).follows t ∧ t.permitsFresh)
  ∧ ∀ (a : Axis) (d : Direction) (value : Bool) (s : State),
      let t := s.send (.deliverPermit a d value)
      let r := s.axis a
      if (r.current.bind fun c => c.step.direction.interlock) = some d ∧ s.permit a d = value then
        if value = false then
          if r.state = .moving ∨ r.state = .dwell then
            s.takesHold t a r.holds.interlock { r.holds with interlock := true }
          else t = s
        else
          ((r.state = .hold ∨ r.state = .stopping) →
              s.dropsHold t a r.holds.interlock { r.holds with interlock := false })
            ∧ (r.state = .preparing → s.dropsHold t a false r.holds)
            ∧ (r.state = .moving ∨ r.state = .dwell ∨ r.state = .idle ∨ r.state = .fault → t = s)
      else t = s

/-- The pump. A request makes the axis the owner of a free pump, which posts its rating and tests the axis's gates; the owner's
own request changes nothing; the other axis waits. A release leaves the pump while the axis moves, dwells or stops; else the
owner's release frees it, with 0 posted and the run output off, and the waiting axis's leaves the wait. The pump then passes to
a waiting axis, with the rating posted by itself. A grant equal to the raw demand sets the run output and removes SHED from the
owner, a grant below it clears it and adds SHED, and without an owner it stays off. So does a grant of slot 49 at the windlass:
SHED joins below the raw demand, and at it leaves, and the gates are tested. An IMMEDIATE cancel of the owner's program in
PREPARING, DWELL or HOLD hands the pump on: a waiting axis owns it, its grant 0 while the new hold-off of slot 48 runs; with
none waiting the pump is free and slot 48's demand 0 (R7, R9, R19, R79, R106, R127 to R131). The exception of a step that
outruns its bound of signals is the model's (log entry 8). -/
def Obligations.PumpIsRequestedAndHandedOn : Prop :=
  (let runs (s : State) (owner waiting : Option Hydraulic) : State :=
     { s with pump := { owner := owner, waiting := waiting, grant := s.pump.grant,
                        run := owner.isSome && decide (s.pump.grant = s.raw pumpSlot) } }
   (∀ (h : Hydraulic) (s : State), handle (.requestPump h) s =
      if s.pump.owner = none then
        (runs s (some h) s.pump.waiting, [.post pumpSlot s.config.pumpRating, .testGates (axisOfHydraulic h)])
      else if s.pump.owner = some h ∨ s.pump.waiting ≠ none then (s, [])
      else (runs s s.pump.owner (some h), []))
   ∧ (∀ (h : Hydraulic) (s : State),
        let x := (s.axis (axisOfHydraulic h)).state
        handle (.releasePump h) s =
          if x = .moving ∨ x = .dwell ∨ x = .stopping then (s, [])
          else if s.pump.owner = some h then (runs s none s.pump.waiting, [.post pumpSlot 0, .handOver])
          else if s.pump.waiting = some h then (runs s s.pump.owner none, [])
          else (s, []))
   ∧ (∀ (s : State) (w : Hydraulic), s.pump.owner = none → s.pump.waiting = some w → handle .handOver s =
        (runs s (some w) none, [.post pumpSlot s.config.pumpRating, .testGates (axisOfHydraulic w)]))
   ∧ (∀ s : State, (s.pump.owner ≠ none ∨ s.pump.waiting = none) → handle .handOver s = (s, []))
   ∧ ∀ (g : Nat) (s : State), sendOn (.grant pumpSlot g) s =
       ({ s with pump := { s.pump with grant := g, run := s.pump.owner.isSome && decide (g = s.raw pumpSlot) } },
        s.pump.owner.elim [] fun o =>
          if g = s.raw pumpSlot then [.removeHold (axisOfHydraulic o) .shed, .testGates (axisOfHydraulic o)]
          else if g < s.raw pumpSlot then [.addHold (axisOfHydraulic o) .shed] else [])
   ∧ ∀ (g : Nat) (s : State),
       let fed : State := { s with gypsy := { s.gypsy with grant := g } }
       let t := settle (sendOn (.grant windlassSlot g) s)
       let r := s.axis .windlass
       (g < s.raw windlassSlot → fed.takesHold t .windlass r.holds.shed { r.holds with shed := true })
         ∧ (g = s.raw windlassSlot → fed.dropsHold t .windlass r.holds.shed { r.holds with shed := false })
         ∧ (s.raw windlassSlot < g → t = fed))
  ∧ ∀ (tag : Byte) (c : Fin 16) (h : Hydraulic) (s : State), s.contexts[c].axis = some (axisOfHydraulic h) →
      s.contexts[c].state = .active → s.pump.owner = some h →
      ((s.axis (axisOfHydraulic h)).state = .preparing ∨ (s.axis (axisOfHydraulic h)).state = .dwell
        ∨ (s.axis (axisOfHydraulic h)).state = .hold) →
      ∃ t, exec (.cancelImmediate tag c.val) s = .next t
        ∧ (s.queueLaw → s.demandLaw → s.axesLawful → t.unsettled = false →
            (s.pump.waiting = none → t.pump.owner = none ∧ t.pump.run = false ∧ t.raw pumpSlot = 0)
              ∧ ∀ w, s.pump.waiting = some w → w ≠ h → 0 < s.budget.slots[pumpSlot].grant →
                  s.budget.slots[pumpSlot].grant ≤ s.config.pumpRating → s.config.slots[pumpSlot].holdOff ≠ 0 →
                  t.pump.owner = some w ∧ t.pump.waiting = none ∧ t.raw pumpSlot = s.config.pumpRating
                    ∧ t.budget.slots[pumpSlot].grant = 0
                    ∧ t.budget.slots[pumpSlot].holdOffEnds = some (s.now + 1000 * s.config.slots[pumpSlot].holdOff))

/-- CHIME. PLAY: refused RANGE for a pattern above 7, a zone above 23, more than 24 zones or a repeat count outside 1..8, then
FULL for a queue of 4; else the notice joins as the newest, and plays at once in an empty queue. STOP: the current notice leaves
and the next starts. CLEAR: every notice leaves. NOTICE_NOTE_END starts the next note, or at the pattern's end the pattern again
while the loop flag is set or passes remain, else the notice leaves. MOTION_NOTE_END starts the next note of an active motion
lane, and the first after the last. A speaker plays the active motion lane of the lowest axis that warns its zone, else the
current notice. SET_PATTERN for a pattern 0..7, write form: refused BUSY during a save, then RANGE for no note, more than 8, or
a pitch above 96; else the pattern is replaced whole, each duration clamped into 10..2000, and answered (R132, R133, R135, R136,
R137). That a note end on a lane that plays nothing changes nothing, that the volumes are read at the note's start, and that a
notice whose passes already exceed its count ends, are the model's choice (log entries 1, 23, 38). -/
def Obligations.ChimeLanesPlayTheirNotes : Prop :=
  (let start (s : State) (k : Fin 8) (i : Nat) : Option Playing := (s.config.patterns[k].notes[i]?).map fun n =>
     { index := i, note := n, ends := s.now + n.duration }
   let playing (s : State) (k : Fin 8) (i : Nat) : Option NoticeNote := (start s k i).map fun p =>
     { playing := p, volumes := s.config.zones.map fun z => z.volume }
   let queued (s : State) (l : List Notice) : State :=
     { s with chime := { s.chime with notices := l, playing := l.head?.bind fun n => playing s n.pattern 0 } }
   (∀ (tag : Byte) (k repeats : Nat) (zones : List Nat) (s : State), ∃ t, exec (.chimePlay tag k repeats zones) s = .next t
     ∧ if 7 < k ∨ (∃ z ∈ zones, 23 < z) ∨ 24 < zones.length ∨ repeats = 0 ∨ 8 < repeats then s.refuses t 0x36 tag .range
       else if 4 ≤ s.chime.notices.length then s.refuses t 0x36 tag .full
       else
         let n : Notice := { pattern := Fin.ofNat 8 k, zones := (List.range 24).filter fun z => zones.contains z,
                             repeats := repeats, played := 0 }
         (if s.chime.notices = [] then queued s [n]
          else { s with chime := { s.chime with notices := s.chime.notices ++ [n] } }).onlyAnswers t
           (okFrame 0x36 tag (u8 s.chime.notices.length ++ u8 (s.chime.notices.length + 1))))
   ∧ (∀ (tag : Byte) (s : State), ∃ t, exec (.chimeStop tag) s = .next t
       ∧ (queued s s.chime.notices.tail).onlyAnswers t (okFrame 0x36 tag (u8 (s.chime.notices.length - 1))))
   ∧ (∀ (tag : Byte) (s : State), ∃ t, exec (.chimeClear tag) s = .next t
       ∧ (queued s []).onlyAnswers t (okFrame 0x36 tag (u8 s.chime.notices.length)))
   ∧ (∀ s : State, ∃ t, exec .noticeNoteEnd s = .next t
       ∧ ((s.chime.playing = none ∨ s.chime.notices = []) → s.becomes t)
       ∧ ∀ p n, s.chime.playing = some p → s.chime.notices.head? = some n →
           if p.playing.index + 1 < s.config.patterns[n.pattern].notes.length then
             ({ s with chime := { s.chime with playing := playing s n.pattern (p.playing.index + 1) } } : State).becomes t
           else if s.config.patterns[n.pattern].loop = true ∨ n.played + 1 < n.repeats then
             (queued s ({ n with played := n.played + 1 } :: s.chime.notices.tail)).becomes t
           else (queued s s.chime.notices.tail).becomes t)
   ∧ (∀ (a : Axis) (s : State), ∃ t, exec (.motionNoteEnd a) s = .next t
       ∧ (s.chime.lanes.get a = none → s.becomes t)
       ∧ ∀ p, s.chime.lanes.get a = some p →
           let k := (s.config.axes.get a).warnPattern
           let next := if p.index + 1 < s.config.patterns[k].notes.length then p.index + 1 else 0
           ({ s with chime := { s.chime with lanes := s.chime.lanes.set a (start s k next) } } : State).becomes t)
   ∧ ∀ (s : State) (z : Fin 24),
       let lane (a : Axis) : Option Playing :=
         if z.val ∈ (s.config.axes.get a).warnZones then s.chime.lanes.get a else none
       let motion := (lane .hatch).or ((lane .platform).or (lane .windlass))
       let notice := s.chime.notices.head?.filter fun n => n.zones.contains z.val
       s.speaker z = (motion.map fun p => { pitch := p.note.pitch, volume := 255 }).or
         (notice.bind fun _ => s.chime.playing.map fun p => { pitch := p.playing.note.pitch, volume := p.volumes[z] }))
  ∧ (∀ (tag : Byte) (k : Fin 8) (loop : Nat) (notes : List (Nat × Nat)) (s : State),
       ∃ t, exec (.setPattern tag k.val (some (loop, notes))) s = .next t
       ∧ if s.store.saving.isSome = true then s.refuses t 0x35 tag .busy
         else if notes = [] ∨ 8 < notes.length ∨ (∃ n ∈ notes, 96 < n.1) then s.refuses t 0x35 tag .range
         else
           let stored : List Note := notes.map fun n =>
             { pitch := n.1, duration := if n.2 < 10 then 10 else if 2000 < n.2 then 2000 else n.2 }
           ({ s with config := { s.config with
               patterns := s.config.patterns.set k { loop := decide (loop ≠ 0), notes := stored } } } : State).onlyAnswers t
             (okFrame 0x35 tag (u8 k.val ++ flag (decide (loop ≠ 0)) ++ u8 notes.length
               ++ stored.flatMap fun n => u8 n.pitch ++ u16 n.duration)))

/-- An axis that enters PREPARING, MOVING or STOPPING from another state starts its warn pattern at note 0; moves between the
three leave its motion lane where it plays; entering any other state makes it inactive at once; the other lanes play on. Every
step keeps the law that every pattern has a note and that a motion lane is active exactly while its axis is in one of the three
states (R132, R134). -/
def Obligations.MotionLanesFollowTheirAxes : Prop :=
  (∀ (s : State) (a : Axis) (new : AxisState),
     let t := s.moveTo a new
     let k := (s.config.axes.get a).warnPattern
     (t.axis a).state = new
       ∧ t.chime.lanes.get a =
          (if new = .preparing ∨ new = .moving ∨ new = .stopping then
             if (s.axis a).state = .preparing ∨ (s.axis a).state = .moving ∨ (s.axis a).state = .stopping then
               s.chime.lanes.get a
             else (s.config.patterns[k].notes.head?).map fun n => { index := 0, note := n, ends := s.now + n.duration }
           else none)
       ∧ ∀ b : Axis, b ≠ a → t.chime.lanes.get b = s.chime.lanes.get b)
  ∧ ∀ s t : State, s.laneLaw → step s = .next t → t.laneLaw

/-! ## Panels and actions (chapters 7 and 8) -/

/-- SET_PANEL, SET_TAGMAP and SET_BINDING, write forms, on a panel 0..11, an entry 0..31, a tag 1..255: refused BUSY during a
save, then RANGE for a field out of range; else the record is replaced whole, with its clamps, and answered. A panel write
empties the panel's group; fields that a binding's kind does not read are stored 0, HOME or clear; a tag map write that takes
the pressed tag from under a held position makes the panel SLID and hands the release on (R140, R141, R144, R145, R150, R155,
R156, R182). That the reply sends 0, as R182 has it, for a target that the kind does not read and that R155 stores as HOME is
the model's reading (log entry 46). -/
def Obligations.PanelRecordsAreStored : Prop :=
  (∀ (tag : Byte) (k : Fin 12) (f : PanelFields) (s : State), ∃ t, exec (.setPanel tag k.val (some f)) s = .next t
    ∧ if s.store.saving.isSome = true then s.refuses t 0x40 tag .busy
      else if 2 < f.cls ∨ 23 < f.home ∨ 23 < f.base ∨ 23 < f.limit then s.refuses t 0x40 tag .range
      else
        let may (i : Fin 3) : Bool := decide (f.cls ≠ 0) && decide (f.permissions[i] ≠ 0)
        let c : PanelConfig :=
          { cls := if f.cls = 0 then .guest else if f.cls = 1 then .crew else .helm, home := Fin.ofNat 24 f.home,
            base := f.base, limit := f.limit, permissions := { hatch := may 0, platform := may 1, windlass := may 2 },
            oversample := if f.oversample < 1 then 1 else min f.oversample 8, threshold := min f.threshold 1023,
            coefficients := f.coefficients, width := if f.width < 1 then 1 else min f.width 2047,
            height := if f.height < 1 then 1 else min f.height 2047 }
        ({ s with
            config := { s.config with panels := s.config.panels.set k c },
            panels := s.panels.set k { s.panels[k] with
              group := { count := 0, sumX := 0, sumY := 0, noTouch := false } } } : State).onlyAnswers t
          (okFrame 0x40 tag (u8 k.val ++ c.bytes)))
  ∧ (∀ (tag : Byte) (k : Fin 12) (i : Fin 32) (f : TagFields) (s : State),
      ∃ t, exec (.setTagmap tag k.val i.val f) s = .next t
      ∧ if s.store.saving.isSome = true then s.refuses t 0x41 tag .busy
        else if 2047 < f.x0 ∨ 2047 < f.y0 ∨ 2047 < f.x1 ∨ 2047 < f.y1 then s.refuses t 0x41 tag .range
        else
          let map := s.config.tagMaps[k].set i { x0 := f.x0, y0 := f.y0, x1 := f.x1, y1 := f.y1, tag := f.tag }
          let stored : State := { s with config := { s.config with tagMaps := s.config.tagMaps.set k map } }
          let entry := u8 k.val ++ u8 i.val ++ u16 f.x0 ++ u16 f.y0 ++ u16 f.x1 ++ u16 f.y1 ++ u8 f.tag
          (s.panels[k].touch.code ≠ 2 → stored.onlyAnswers t (okFrame 0x41 tag (entry ++ u8 0)))
            ∧ ∀ (g : Nat) (x y : Int), s.panels[k].touch = .down g x y →
                if tagAt map x y = g then stored.onlyAnswers t (okFrame 0x41 tag (entry ++ u8 0))
                else t = ((((stored.onPanel k fun p => { p with touch := .slid }).send (.release k g)).reply 0x41 tag .ok
                  (entry ++ u8 1))).kick)
  ∧ ∀ (tag : Byte) (b : Fin 255) (f : BindingFields) (s : State),
      ∃ t, exec (.setBinding tag (b.val + 1) (some f)) s = .next t
      ∧ (let zone : Prop := 1 ≤ f.kind ∧ f.kind ≤ 6
         if s.store.saving.isSome = true then s.refuses t 0x42 tag .busy
         else if 9 < f.kind ∨ (zone ∧ 23 < f.target ∧ f.target ≠ 255) ∨ (f.kind = 1 ∧ 31 < f.argument)
             ∨ (f.kind = 6 ∧ 255 < f.argument) ∨ (f.kind = 7 ∧ (2 < f.axis ∨ 3 < f.preset)) then
           s.refuses t 0x42 tag .range
         else ∃ r : Binding, t.config.bindings[b] = r ∧ r.kind.code = f.kind
           ∧ r.target = (if zone ∧ f.target ≠ 255 then some (Fin.ofNat 24 f.target) else none)
           ∧ r.argument = (if f.kind = 1 ∨ f.kind = 6 then f.argument
               else if f.kind = 2 ∨ f.kind = 3 then min f.argument 1000 else 0)
           ∧ axisNumber r.axis = (if f.kind = 7 then f.axis else 0) ∧ r.preset.val = (if f.kind = 7 then f.preset else 0)
           ∧ r.holdToRun = (decide (f.kind = 7) && decide (f.holdToRun ≠ 0))
           ∧ ({ s with config := { s.config with bindings := s.config.bindings.set b r } } : State).onlyAnswers t
               (okFrame 0x42 tag (u8 (b.val + 1) ++ u8 f.kind
                 ++ (if zone then r.target.elim [0xFF] (fun z => u8 z.val) else [0]) ++ u16 r.argument
                 ++ u8 (axisNumber r.axis) ++ u8 r.preset.val ++ flag r.holdToRun)))

/-- A good panel frame restarts the silence timer, ends ABSENT, and joins the group; the one that completes it is averaged,
transformed with floor, and looked up in the tag map, and its tag acts on the touch state: a press from UP, a release from DOWN
by another tag, no touch or a place off the glass. A frame whose check fails or whose numbers pass 1023 changes nothing.
PANEL_SILENCE_EXPIRY makes the panel ABSENT, a release from DOWN (R139, R142, R143, R144, R146 to R149, R151). That an expiry of
a stopped timer changes nothing is the model's choice (log entry 1). -/
def Obligations.PanelFramesActOnTheTouchState : Prop :=
  (∀ (map : Vector TagEntry 32) (x y : Int) (i : Fin 32), let e := map[i]
    (e.tag ≠ 0 ∧ (e.x0 : Int) ≤ x ∧ x ≤ e.x1 ∧ (e.y0 : Int) ≤ y ∧ y ≤ e.y1) →
    (∀ j : Fin 32, j < i → ¬ (map[j].tag ≠ 0 ∧ (map[j].x0 : Int) ≤ x ∧ x ≤ map[j].x1 ∧ (map[j].y0 : Int) ≤ y
      ∧ y ≤ map[j].y1)) →
    tagAt map x y = e.tag)
  ∧ (∀ (map : Vector TagEntry 32) (x y : Int),
      (∀ j : Fin 32, ¬ (map[j].tag ≠ 0 ∧ (map[j].x0 : Int) ≤ x ∧ x ≤ map[j].x1 ∧ (map[j].y0 : Int) ≤ y ∧ y ≤ map[j].y1)) →
      tagAt map x y = 0)
  ∧ (∀ (k : Fin 12) (f : PanelFrame) (s : State), ∃ t, exec (.panelFrame k f) s = .next t
      ∧ (let c := s.config.panels[k]
         let p := s.panels[k]
         let g : Group := match f with
           | .touch x y z => if z ≤ c.threshold then
               { p.group with count := p.group.count + 1, sumX := p.group.sumX + x, sumY := p.group.sumY + y }
             else { p.group with count := p.group.count + 1, noTouch := true }
           | .noTouch => { p.group with count := p.group.count + 1, noTouch := true }
           | .badCheck => p.group
         let good : Bool := match f with
           | .touch x y z => decide (x ≤ 1023 ∧ y ≤ 1023 ∧ z ≤ 1023)
           | .noTouch => true
           | .badCheck => false
         let touch : Touch := if p.touch = .absent then .up else p.touch
         let seen (touch : Touch) (g : Group) (last : Option LastGroup) : State :=
           { s with panels := s.panels.set k {
               touch := touch, silenceDeadline := some (s.now + 1000), framedAt := some s.now, group := g, last := last } }
         if good = false then s.becomes t
         else if g.count < c.oversample then (seen touch g p.last).becomes t
         else
           let mx := g.sumX / c.oversample
           let my := g.sumY / c.oversample
           let x : Int := (c.coefficients[0] * mx + c.coefficients[1] * my + c.coefficients[2]).fdiv 65536
           let y : Int := (c.coefficients[3] * mx + c.coefficients[4] * my + c.coefficients[5]).fdiv 65536
           let glass : Prop := g.noTouch = false ∧ 0 ≤ x ∧ x ≤ c.width - 1 ∧ 0 ≤ y ∧ y ≤ c.height - 1
           let found := tagAt s.config.tagMaps[k] x y
           let last : LastGroup := if g.noTouch = true then .noTouch
             else if glass then .onGlass mx my x y found else .offGlass mx my x y
           let ended (touch : Touch) : State :=
             seen touch { count := 0, sumX := 0, sumY := 0, noTouch := false } (some last)
           (touch = .up →
               if glass ∧ found ≠ 0 then t = ((ended (.down found x y)).send (.press k found)).kick else (ended .up).becomes t)
             ∧ (touch = .slid → (ended (if glass then .slid else .up)).becomes t)
             ∧ ∀ (h : Nat) (x' y' : Int), touch = .down h x' y' →
                 if glass ∧ found = h then (ended (.down h x y)).becomes t
                 else t = ((ended (if glass then .slid else .up)).send (.release k h)).kick))
  ∧ ∀ (k : Fin 12) (s : State), ∃ t, exec (.panelSilenceExpiry k) s = .next t
      ∧ (let gone := s.onPanel k fun p =>
           { p with
             touch := .absent, silenceDeadline := none, group := { count := 0, sumX := 0, sumY := 0, noTouch := false } }
         (s.panels[k].silenceDeadline = none → s.becomes t)
           ∧ (s.panels[k].silenceDeadline ≠ none →
               (s.panels[k].touch.code ≠ 2 → gone.becomes t)
                 ∧ ∀ (h : Nat) (x y : Int), s.panels[k].touch = .down h x y → t = (gone.send (.release k h)).kick))

/-- A press whose tag no RELEASED run record of this panel names is dispatched by the tag's binding. A zone kind passes the
authority check in its order: a GUEST panel and a crew-only zone are denied, a lighting kind on a passage zone is allowed, and
else the window decides; a denied press acts on no zone. AXIS_GOTO is denied to GUEST panels, to a panel without the axis's
permission, and, latched, to all but HELM; else the Program Table answers: STATE while the axis's queue is not empty, in FAULT
or STOPPING, or without a position, FULL without a FREE context; and in IDLE the axis takes the step up and enters PREPARING
with it. CHIME_ACK is denied to GUEST panels, REPORT_ONLY to none, and a tag without a binding does nothing. A press of a
RELEASED run record's tag resumes it, for a CREW or HELM panel with the permission, and a release of a HELD one holds its axis
for at most 10 s; any other release does nothing (R73, R74, R115, R157, R158, R160, R161, R163, R164, R166). The marker in place
of the context in the report of a denied resume press, and the removal of RELEASED before the result of an allowed one, are the
model's choice (log entries 41 and 47). -/
def Obligations.PressesPassTheAuthorityChecks : Prop :=
  (∀ (k : Fin 12) (g : Nat) (s : State), s.findRun k g true = none →
    let c := s.config.panels[k]
    let b := s.binding g
    let z := b.target.getD c.home
    let u := s.config.zones[z]
    let told (result : ActionResult) (target : Option Nat) (context : Option (Fin 16)) : Signal :=
      .actionResult k result (actionContent k g b.kind target result context false)
    (b.kind = .none → handle (.press k g) s = (s, []))
      ∧ (b.kind = .reportOnly → handle (.press k g) s = (s, [told .done none none]))
      ∧ (b.kind = .chimeAck → handle (.press k g) s =
          (if c.cls = .guest then (s, [told .deniedAuth none none]) else (s.stopNotice, [told .done none none])))
      ∧ (1 ≤ b.kind.code → b.kind.code ≤ 6 →
          if c.cls = .guest ∧ u.crewOnly = true then handle (.press k g) s = (s, [told .deniedAuth (some z.val) none])
          else if (b.kind.code ≤ 3 ∧ u.passage = true) ∨ (c.base ≤ z.val ∧ z.val ≤ c.limit) then
            handle (.press k g) s =
              ((zoneAction z b s).1, (zoneAction z b s).2 ++ [told .done (some z.val) none])
          else handle (.press k g) s = (s, [told .deniedAuth (some z.val) none]))
      ∧ (b.kind = .axisGoto →
          let a := b.axis
          let frees := (List.finRange 16).filter fun x => decide (s.contexts[x].state = .free)
          if c.cls = .guest ∨ c.permissions.get a = false ∨ (b.holdToRun = false ∧ c.cls ≠ .helm) then
            handle (.press k g) s = (s, [told .deniedAuth (some (axisNumber a)) none])
          else if s.queue a ≠ [] ∨ (s.axis a).state = .fault ∨ (s.axis a).state = .stopping ∨ s.measured a = none then
            handle (.press k g) s = (s, [told .deniedState (some (axisNumber a)) none])
          else if frees = [] then handle (.press k g) s = (s, [told .deniedFull (some (axisNumber a)) none])
          else ∀ x, frees.head? = some x →
            let t := (handle (.press k g) s).1
            (handle (.press k g) s).2.getLast? = some (told .done (some (axisNumber a)) (some x))
              ∧ t.queue a = [x] ∧ t.contexts[x].state = .active ∧ t.contexts[x].owner = some (.panel k)
              ∧ t.contexts[x].axis = some a ∧ t.contexts[x].admission = .done
              ∧ t.contexts[x].steps.map (fun y => (y.target, y.final, y.speed, y.dwell)) =
                  [((s.config.axes.get a).presets[b.preset], true, none, none)]
              ∧ t.runs.get a = (if b.holdToRun = true then
                  some { context := x, panel := k, tag := g, released := false, deadline := none } else s.runs.get a)
              ∧ (let u := settle (handle (.press k g) s)
                 (s.axis a).state = .idle → s.axesLawful → u.unsettled = false → s.takesUp u a x t.contexts[x].steps)))
  ∧ (∀ (k : Fin 12) (g : Nat) (s : State), ∀ x, s.findRun k g true = some x →
      let c := s.config.panels[k]
      s.runs.get x.1 = some x.2 ∧ x.2.panel = k ∧ x.2.tag = g ∧ x.2.released = true
        ∧ if c.cls ≠ .guest ∧ c.permissions.get x.1 = true then
            handle (.press k g) s =
              ({ s with runs := s.runs.set x.1 (some { x.2 with released := false, deadline := none }) },
               [.removeHold x.1 .released, .actionResult k .done
                 (actionContent k g .axisGoto (some (axisNumber x.1)) .done (some x.2.context) true)])
          else
            handle (.press k g) s =
              (s, [.actionResult k .deniedAuth
                (actionContent k g .axisGoto (some (axisNumber x.1)) .deniedAuth none true)]))
  ∧ ∀ (k : Fin 12) (g : Nat) (s : State),
      (s.findRun k g false = none → handle (.release k g) s = (s, []))
        ∧ ∀ x, s.findRun k g false = some x → s.runs.get x.1 = some x.2 ∧ x.2.released = false
          ∧ handle (.release k g) s =
            ({ s with runs := s.runs.set x.1 (some { x.2 with released := true, deadline := some (s.now + 10000) }) },
             [.addHold x.1 .released])

/-- What an allowed zone action does, and the result of a dispatch. SCENE recalls the argument's scene. LEVEL_UP and LEVEL_DOWN
step each target, to at most 1000 and at least 0, and each that differs makes a level change of 500 ms, capped at 600 in ECO.
SETPOINT_UP and SETPOINT_DOWN change the setpoint by 5 within 160 to 300, MODE takes the mode of its value. A result posts the
panel's PANEL_ACTION report with panel, tag, kind, target, result, context and resume flag; a denied one asks for a deny tone of
pattern 7 in the panel's home zone, which joins the notices while fewer than 4 stand there (R49, R135, R157, R159, R166). That
LEVEL_UP in ECO at a target of 600 starts a running fade anew is the model's choice (log entry 40). -/
def Obligations.AllowedActionsActOnTheZone : Prop :=
  (∀ (z : Fin 24) (b : Binding) (s : State),
     let t := settle (zoneAction z b s)
     let level (mode : ZoneMode) (fade : Nat) (c : Channel) (l : Nat) : Channel :=
       let target := if mode = .eco then min (min l 1000) 600 else min l 1000
       if target = c.level then { c with target := target, fading := false }
       else { c with
         fadeStart := c.level, target := target, framesDone := 0, framesTotal := min fade 60000 / 10, fading := true }
     let moded (x : Zone) (v : Nat) : Zone :=
       if 2 < v ∨ v = x.mode.code then x
       else
         let mode := if v = 0 then .occupied else if v = 1 then .eco else .vacant
         { x with
           mode := mode,
           channels := x.channels.map fun c =>
             if v = 1 ∧ 600 < c.target then level mode 3000 c 600
             else if v = 2 ∧ c.target ≠ 0 then level mode 3000 c 0 else c }
     let warmed (x : Zone) (v : Nat) : Zone :=
       { x with setpoint := (if v < 160 then 160 else if 300 < v then 300 else v) / 5 * 5 }
     let stepped (f : Nat → Nat) : State := s.onZone z fun x => { x with
       channels := x.channels.map fun c => if f c.target = c.target then c else level x.mode 500 c (f c.target) }
     (b.kind = .scene → ∀ n : Fin 32, b.argument = n.val →
         (s.onZone z fun x =>
           let r := s.config.scenes[n]
           let y := r.mode.elim x (moded x)
           let lit : Zone := { y with
             channels := Vector.ofFn fun i : Fin 4 =>
               (r.levels[i]).elim (y.channels[i]) fun l => level y.mode r.fade (y.channels[i]) l }
           r.setpoint.elim lit (warmed lit)).follows t)
       ∧ (b.kind = .levelUp → (stepped fun l => min 1000 (l + b.argument)).follows t)
       ∧ (b.kind = .levelDown → (stepped fun l => l - b.argument).follows t)
       ∧ (b.kind = .setpointUp → (s.onZone z fun x => warmed x (x.setpoint + 5)).follows t)
       ∧ (b.kind = .setpointDown → (s.onZone z fun x => warmed x (x.setpoint - 5)).follows t)
       ∧ (b.kind = .mode → (s.onZone z fun x => moded x b.argument).follows t))
  ∧ ∀ (k : Fin 12) (g : Nat) (kind : BindingKind) (target : Option Nat) (result : ActionResult) (x : Option (Fin 16))
      (resume : Bool) (s : State),
      let t := (handle (.actionResult k result (actionContent k g kind target result x resume)) s).1
      t.reported (.panelAction k) (u8 k.val ++ u8 g ++ u8 kind.code ++ target.elim [0xFF] u8 ++ u8 result.code
          ++ x.elim [0xFF] (fun c => u8 c.val) ++ flag resume)
        ∧ t.looks = s.looks ∧ t.motion = s.motion
        ∧ t.chime.notices =
            (if result = .done ∨ 4 ≤ s.chime.notices.length then s.chime.notices
             else s.chime.notices ++
               [{ pattern := 7, zones := [(s.config.panels[k].home).val], repeats := 1, played := 0 }])

/-! ## The stored image and resets (chapter 10) -/

/-- SAVE_CONFIG: refused BUSY in SAVING; else the image of the configuration is built and its write starts, the save timer runs
400 ms, and the tag is held without a reply. A matching end leaves the image in the EEPROM and answers OK with the format, the
body length and the CRC. A mismatch, a write error or the timer answers FAILED, and the EEPROM then holds at each place what it
held or what was written; each end makes the state IDLE (R172, R183, R186). Which of the two stands at a place after a failed
save is a free value, counted by `freeIndex`, and that an end outside SAVING changes nothing is the model's choice (log entries
7 and 1). -/
def Obligations.SavesWriteTheImage : Prop :=
  (∀ (tag : Byte) (s : State), ∃ t, exec (.saveConfig tag) s = .next t
    ∧ if s.store.saving ≠ none then s.refuses t 0x50 tag .busy
      else
        ({ s with
            store := { s.store with saving := some { image := s.config.image, deadline := s.now + 400 } },
            link := { s.link with saveTag := some tag } } : State).becomes t
          ∧ t.link.replies.length ≤ s.link.replies.length)
  ∧ (∀ (result : SaveResult) (s : State), ∃ t, exec (.saveComplete result) s = .next t
      ∧ (s.store.saving = none → s.becomes t)
      ∧ ∀ w, s.store.saving = some w →
          if result = .matching then
            ({ s with
                store := { s.store with saving := none, eeprom := w.image },
                link := { s.link with saveTag := none } } : State).onlyAnswers t
              (okFrame 0x50 (s.link.saveTag.getD 0) (u16 1 ++ u16 7432 ++ w.image.drop 7436))
          else
            ({ s with
                freeIndex := s.freeIndex + 1, store := { s.store with saving := none, eeprom := t.store.eeprom },
                link := { s.link with saveTag := none } } : State).onlyAnswers t
              (replyFrame 0x50 (s.link.saveTag.getD 0) .failed [])
            ∧ (s.store.eeprom.length = w.image.length → t.store.eeprom.length = w.image.length
                ∧ ∀ i : Nat, t.store.eeprom[i]? = s.store.eeprom[i]? ∨ t.store.eeprom[i]? = w.image[i]?))
  ∧ ∀ s : State, ∃ t, exec .saveTimerExpiry s = .next t
      ∧ (s.store.saving = none → s.becomes t)
      ∧ (s.store.saving ≠ none → exec (.saveComplete .writeError) s = .next t)

/-- POWER_ON, and COLD_RESET once an accepted COLD reset has had every reply sent: the configuration is that of the image, or
the factory's with DEFAULTED set when the EEPROM is silent or its image is not good; every block holds its start state and the
levels are those read afresh; a zone with a start scene has taken it; COLD keeps the positions, the pulse count and the output
frame; an axis starts in IDLE without a fault record, but in FAULT with an OVERTRAVEL where its position lies beyond its margin.
The permits are worked out, and START is sent first, with the reset kind, DEFAULTED and the faults (R46, R52, R53, R71, R92,
R117, R122, R127, R138, R153, R180, R181, R183, R184). The start-up as one step, a COLD_RESET that is not due, the values of a
FREE context, of a speed class outside MOVING and of a sensor's age before its first sample, and the count set before the
positions are examined are the model's choice (log entries 4, 16, 20, 21, 36, 51). -/
def Obligations.StartUpsInstallTheImage : Prop :=
  ∀ (power : Bool) (eeprom : EepromAnswer) (levels : Inputs) (s : State),
    ∃ t, exec (if power then .powerOn eeprom levels else .coldReset eeprom levels) s = .next t
    ∧ (if power = false ∧ ¬ (s.link.resetPending = some .cold ∧ s.link.sending = none ∧ s.link.replies = []) then s.becomes t
       else
       let image := if eeprom = .answers then readImage t.store.eeprom else none
       let absent : Sensor := { position := none, sampledAt := none, fresh := false, staleDeadline := none }
       (s.store.saving = none → t.store.eeprom = s.store.eeprom)
         ∧ t.store.saving = none ∧ t.store.lastReset = (if power then .powerOn else .cold)
         ∧ t.config = image.getD factory ∧ t.store.defaulted = image.isNone
         ∧ t.inputs = levels ∧ t.frameDeadline = (if power then s.now + 10 else s.frameDeadline)
         ∧ t.sensors = (if power then { hatch := absent, platform := absent } else s.sensors)
         ∧ t.gypsy.count = (if power = true ∨ levels.anchorHome = true then 0 else s.gypsy.count)
         ∧ t.budget.mode = .hold ∧ t.budget.history = [] ∧ t.budget.meterDeadline = none ∧ t.budget.heldPeak = 0
         ∧ t.cue = cueStart ∧ t.contexts = Vector.replicate 16 contextStart ∧ (∀ a : Axis, t.queue a = [])
         ∧ t.vessel = vesselStart ∧ t.pump = pumpStart ∧ t.chime = chimeStart
         ∧ t.panels = Vector.replicate 12 panelStart ∧ t.runs = runsStart
         ∧ t.permitsFresh
         ∧ (t.unsettled = false → ∀ a : Axis,
             if beyondMargin t.config.gear a (t.measured a) = true then
               t.axis a = { axisStart with
                 state := .fault,
                 fault := some { kind := .overtravel, position := t.measured a, context := none, count := 1 } }
             else t.axis a = axisStart)
         ∧ (t.unsettled = false → ∀ z : Fin 24, t.zones[z].look =
             ((t.config.zones[z].startScene.bind fun n => t.config.scenes[n]?).elim zoneStart fun r =>
               let moded := r.mode.elim zoneStart fun m => zoneStart.changeMode m
               let lit : Zone := { moded with channels := Vector.ofFn fun i : Fin 4 =>
                 ((r.levels[i]).elim (moded.channels[i]) fun l => (moded.channels[i]).changeLevel moded.mode l r.fade) }
               r.setpoint.elim lit fun v => { lit with setpoint := clampSetpoint v }).look)
         ∧ t.link.receiving = false ∧ t.link.gathered = [] ∧ t.link.buffer = [] ∧ t.link.replies = []
         ∧ t.link.saveTag = none ∧ t.link.silenceDeadline = none ∧ t.link.resetPending = none
         ∧ t.link.sending.map (·.frame) = some { kind := 0xE0, tag := 0, payload := (
             u8 t.store.lastReset.code ++ u8 (if t.store.defaulted = true then 1 else 0)
               ++ bits (allAxes.map fun a => (t.axis a).fault.isSome)) }
         ∧ (∀ z : Fin 24, ∃ x ∈ t.link.reports, x.key = .zone z) ∧ ∀ a : Axis, ∃ x ∈ t.link.reports, x.key = .axis a)

/-- WARM_RESET, once an accepted WARM reset has had every reply sent, keeps the configuration, the inputs, sensors and pulse
count, the vessel data, the history, the mode and its timer, the held peak in HOLD, and the AUX, climate and steady lighting
demands. The demands of pump and windlass are 0 and a pass is taken, on the grants and hold-offs as they stand; where no zone
fades it is the only one. Running fades complete, the cue is empty, every context is FREE, no notice or lane plays, the pump is
free, no run record stands, and each panel is UP with its group empty. An axis keeps a fault record and is then in FAULT, else
in IDLE. The permits are worked out, and START is sent first (R26, R47, R53, R93, R117, R127, R135, R154, R162, R180, R181,
R185). A WARM_RESET that is not due, and the values of a FREE context and of a speed class outside MOVING, are the model's
choice (log entries 4, 16 and 21), and so is the exception of a step that outruns its bound of signals (log entry 8). -/
def Obligations.WarmResetKeepsTheConfiguration : Prop :=
  ∀ s : State, ∃ t, exec .warmReset s = .next t
    ∧ if ¬ (s.link.resetPending = some .warm ∧ s.link.sending = none ∧ s.link.replies = []) then s.becomes t
      else
        t.config = s.config ∧ t.inputs = s.inputs ∧ t.sensors = s.sensors ∧ t.gypsy.count = s.gypsy.count
        ∧ t.vessel = s.vessel ∧ t.frameDeadline = s.frameDeadline ∧ t.store.defaulted = s.store.defaulted
        ∧ t.store.saving = none ∧ t.store.lastReset = .warm ∧ (s.store.saving = none → t.store.eeprom = s.store.eeprom)
        ∧ t.budget.mode = s.budget.mode ∧ t.budget.history = s.budget.history
        ∧ t.budget.meterDeadline = s.budget.meterDeadline ∧ t.raw pumpSlot = 0 ∧ t.raw windlassSlot = 0 ∧ t.passed
        ∧ t.budget.heldPeak = (if s.budget.mode = .hold then s.budget.heldPeak else s.budget.history.foldl max 0)
        ∧ (let kept := (s.onSlot pumpSlot fun k => { k with raw := 0, effective := 0 }).onSlot windlassSlot fun k =>
             { k with raw := 0, effective := 0 }
           (∀ k : Fin 52, 50 ≤ k.val → t.raw k = s.raw k)
             ∧ (∀ z : Fin 24, t.raw (climateSlot z) = s.raw (climateSlot z)
                 ∧ (t.unsettled = false → (∀ i : Fin 4, s.zones[z].channels[i].fading = false) →
                     t.raw (lightSlot z) = s.raw (lightSlot z)))
             ∧ (∀ k : Fin 52, t.budget.slots[k].delivered = t.budget.slots[k].grant
                 ∧ (s.budget.mode = .hold → t.budget.slots[k].grant ≤ s.budget.slots[k].grant)
                 ∧ (t.budget.slots[k].holdOffEnds = s.budget.slots[k].holdOffEnds
                     ∨ (24 ≤ k.val ∧ s.config.slots[k].holdOff ≠ 0
                         ∧ t.budget.slots[k].holdOffEnds = some (s.now + 1000 * s.config.slots[k].holdOff))))
             ∧ ((∀ z : Fin 24, ∀ i : Fin 4, s.zones[z].channels[i].fading = false) →
                 t.budget.passNumber = (s.budget.passNumber + 1) % 65536
                   ∧ ∀ k : Fin 52, t.budget.slots[k].grant = (handle .pass kept).1.budget.slots[k].grant
                       ∧ t.budget.slots[k].holdOffEnds = (handle .pass kept).1.budget.slots[k].holdOffEnds))
        ∧ t.cue = cueStart ∧ t.contexts = Vector.replicate 16 contextStart ∧ (∀ a : Axis, t.queue a = [])
        ∧ t.chime = chimeStart ∧ t.runs = runsStart ∧ t.pump.owner = none ∧ t.pump.waiting = none ∧ t.permitsFresh
        ∧ t.panels = s.panels.map (fun p => { p with
            touch := .up, silenceDeadline := some (s.now + 1000), framedAt := some s.now,
            group := { count := 0, sumX := 0, sumY := 0, noTouch := false } })
        ∧ (∀ a : Axis, t.axis a = { axisStart with
            state := if (s.axis a).fault.isSome = true then .fault else .idle, fault := (s.axis a).fault })
        ∧ t.looks = s.looks.map (fun z => { z with channels := z.channels.map fun c =>
            if c.fading = true then { c with level := c.target, framesDone := c.framesTotal, fading := false } else c })
        ∧ t.link.receiving = false ∧ t.link.gathered = [] ∧ t.link.buffer = [] ∧ t.link.replies = []
        ∧ t.link.saveTag = none ∧ t.link.silenceDeadline = none ∧ t.link.resetPending = none
        ∧ t.link.sending.map (·.frame) = some { kind := 0xE0, tag := 0, payload := (
            u8 2 ++ u8 (if t.store.defaulted = true then 1 else 0) ++ bits (allAxes.map fun a => (t.axis a).fault.isSome)) }

/-! ## Laws that every step keeps -/

/-- Every step keeps the axis records lawful: off and braked outside MOVING, an empty hold set in MOVING and DWELL, the drive of
the step's direction at the speed class in force in MOVING, each timer in its own state alone, a fault record exactly in FAULT
(R69, R71, R73, R77, R79, R82, R85). -/
def Obligations.AxisRecordsStayLawful : Prop :=
  ∀ s t : State, s.axesLawful → step s = .next t → t.axesLawful

/-- Every step keeps the law of the pump: a hydraulic axis in MOVING, DWELL or STOPPING owns it, so the two hydraulic axes are
never both in one of these states (R127). Every step keeps the law of the pump run output: on exactly while the pump has an
owner and its grant equals slot 48's raw demand (R129). -/
def Obligations.PumpServesOneAxis : Prop :=
  (∀ s t : State, s.pumpLaw → step s = .next t →
     t.pumpLaw ∧ ¬ ((t.axis .hatch).state.keepsPump = true ∧ (t.axis .platform).state.keepsPump = true))
  ∧ (∀ s t : State, s.runLaw → step s = .next t → t.runLaw)

/-- Every step keeps contexts and queues bound to each other, with only the head of a queue ACTIVE or CLOSING, a QUEUED head
only while its axis is in FAULT, and only the head's step current (R85, R95, R96, R103). The exception of a step that outruns
its bound of signals is the model's (log entry 8). -/
def Obligations.QueuesHoldTheirContexts : Prop :=
  ∀ s t : State, s.queueLaw → step s = .next t → t.queueLaw

/-- Every step keeps the axis records lawful, the six permits equal to what the tests give, and no axis moving in a direction
whose permit is false (R76, R80, R121, R123). The exception of a step that outruns its bound of signals is the model's (log
entry 8). -/
def Obligations.NoAxisMovesWithoutItsPermit : Prop :=
  ∀ s t : State, s.axesLawful ∧ s.permitsFresh ∧ s.movesPermitted → step s = .next t →
    t.axesLawful ∧ t.permitsFresh ∧ t.movesPermitted

/-- Every step keeps the report queue in order: one entry for each key, START before the urgent tier, the urgent tier before the
rest; so at most 61 entries wait (R176). Every step keeps the staging list at 48 entries or fewer, with at most one for each
pair of zone and kind (R53). -/
def Obligations.QueuesKeepTheirOrder : Prop :=
  (∀ s t : State, s.reportLaw → step s = .next t → t.reportLaw ∧ t.link.reports.length ≤ 61)
  ∧ (∀ s t : State, s.cueLaw → step s = .next t → t.cueLaw)

/-- The ZONE, AXIS and FAULT reports carry the fields of their rules, and a step posts each on the change that calls for it: a
zone whose mode, setpoint, targets, stages, direction or scaled state has changed, an axis whose state or hold set has changed,
and an axis with another fault record than before have their report posted, with the values now in force; so has an axis in
MOVING whose travel reference has changed, under the law of the sensors: a fresh sensor has a position, and a hydraulic axis has
a fresh sensor in every state but IDLE and FAULT. Reset meets that law and every step keeps it (R33, R40, R65, R74, R76, R84,
R86, R90, R91). The exception of a step that outruns its bound of signals is the model's (log entry 8); what a change taken back
within one event does is the model's choice (log entry 34). -/
def Obligations.ReportsFollowTheChanges : Prop :=
  (∀ (s : State) (z : Fin 24),
     let x := s.zones[z]
     (s.reportZone z).reported (.zone z)
       (u8 z.val ++ u8 x.mode.code ++ u16 x.setpoint ++ i16 x.climate.temperature ++ flag (!x.climate.live)
         ++ x.channels.toList.flatMap (fun c => u16 c.target) ++ x.channels.toList.flatMap (fun c => u16 c.level)
         ++ u16 x.demand ++ u16 x.lightGrant ++ flag (decide (x.lightGrant < x.demand)) ++ u8 x.climate.demanded.code
         ++ u8 x.climate.direction.code ++ u8 x.climate.running.code ++ u16 x.climate.grant))
  ∧ (∀ (s : State) (a : Axis),
      let r := s.axis a
      (s.reportAxis a).reported (.axis a)
        (u8 (axisNumber a) ++ u8 r.state.code
          ++ bits [r.holds.linkPause, r.holds.linkSilent, r.holds.starved, r.holds.interlock, r.holds.shed, r.holds.released]
          ++ (s.measured a).elim [0x80, 0, 0, 0] i32
          ++ (hydraulicOf a).elim [0xFF] (fun h => flag (!(s.sensors.get h).fresh))
          ++ r.current.elim [0xFF, 0xFF, 0xFF, 0xFF, 0x80, 0, 0, 0]
              (fun c => u8 c.context.val ++ u8 c.step.leg ++ u16 c.step.seq ++ i32 c.step.target)
          ++ (if r.state = .moving then u8 r.speed.code else [0xFF])
          ++ (if a = .windlass then u16 s.gypsy.count ++ flag r.drive.brakeSet else [0, 0, 0])))
  ∧ (∀ (s : State) (a : Axis) (kind : FaultKind) (at_ : Option Int) (f : FaultRecord), (s.axis a).fault = some f →
      (reportFault a kind at_ s).reported (.fault a)
        (u8 (axisNumber a) ++ u8 kind.code ++ at_.elim [0x80, 0, 0, 0] i32 ++ u8 f.kind.code
          ++ f.position.elim [0x80, 0, 0, 0] i32 ++ f.context.elim [0xFF] (fun c => u8 c.val) ++ u8 f.count))
  ∧ State.reset.sensorLaw ∧ (∀ s t : State, s.sensorLaw → step s = .next t → t.sensorLaw)
  ∧ ∀ s t : State, step s = .next t → t.unsettled = false →
      (∀ z : Fin 24,
        let x := s.zones[z]
        let y := t.zones[z]
        (y.mode ≠ x.mode ∨ y.setpoint ≠ x.setpoint ∨ y.channels.map (·.target) ≠ x.channels.map (·.target)
          ∨ y.climate.demanded ≠ x.climate.demanded ∨ y.climate.direction ≠ x.climate.direction
          ∨ y.climate.running ≠ x.climate.running
          ∨ decide (y.lightGrant < y.demand) ≠ decide (x.lightGrant < x.demand)) →
        ∃ c, t.reported (.zone z) c ∧ c.take 4 = u8 z.val ++ u8 y.mode.code ++ u16 y.setpoint
          ∧ (c.drop 7).take 8 = y.channels.toList.flatMap (fun i => u16 i.target)
          ∧ (c.drop 27).take 4 = flag (decide (y.lightGrant < y.demand)) ++ u8 y.climate.demanded.code
              ++ u8 y.climate.direction.code ++ u8 y.climate.running.code)
      ∧ (∀ a : Axis, ((t.axis a).state ≠ (s.axis a).state ∨ (t.axis a).holds ≠ (s.axis a).holds) →
          ∃ c, t.reported (.axis a) c ∧ c.take 3 = u8 (axisNumber a) ++ u8 (t.axis a).state.code ++ (t.axis a).holds.byte)
      ∧ (s.sensorLaw → ∀ a : Axis, (t.axis a).state = .moving → (t.axis a).travelRef ≠ (s.axis a).travelRef →
          ∃ c, t.reported (.axis a) c ∧ c.take 2 = u8 (axisNumber a) ++ u8 2 ∧ (c.drop 3).take 4 = i32 (t.axis a).travelRef)
      ∧ ∀ a : Axis, (t.axis a).fault ≠ (s.axis a).fault → ∀ f, (t.axis a).fault = some f →
          ∃ c, t.reported (.fault a) c ∧ c.take 1 = u8 (axisNumber a)
            ∧ c.drop 6 = u8 f.kind.code ++ f.position.elim [0x80, 0, 0, 0] i32
                ++ f.context.elim [0xFF] (fun x => u8 x.val) ++ u8 f.count

/-- Every well-formed command keeps every field of the configuration in its range (R6, R27, R48, R67, R118, R132, R140, R144,
R155, R175, R183). -/
def Obligations.ConfigurationStaysInRange : Prop :=
  ∀ (c : Instr) (s t : State), s.config.valid → c.wellFormed = true → exec c s = .next t → t.config.valid

/-- The stored image of a configuration in range is 7438 bytes long and reads back as that configuration (R183). How an image is
read as in range is the model's reading (log entry 19). -/
def Obligations.StoredImagesReadBack : Prop :=
  ∀ c : Configuration, c.valid → c.image.length = 7438 ∧ readImage c.image = some c

/-- After reset every law that a step keeps holds. The values of the fields that the manual gives no reset value are the model's
choice (log entries 5, 6, 16, 21). -/
def Obligations.ResetMeetsEveryLaw : Prop :=
  let s := State.reset
  s.axesLawful ∧ s.pumpLaw ∧ s.runLaw ∧ s.queueLaw ∧ s.permitsFresh ∧ s.movesPermitted ∧ s.reportLaw ∧ s.config.valid
    ∧ s.homeLaw ∧ s.cueLaw ∧ s.zonesWithin ∧ s.stageLaw ∧ s.sumWithin ∧ s.grantsWithin ∧ s.demandLaw ∧ s.grantsDelivered
    ∧ s.laneLaw
end

