-- ==== Sys2Proof/Laws/State.lean ====
section
/-! SUPPORT. One lemma per field per update of State: what each named operation leaves as it was, and what it writes. -/

namespace Sys2Proof.Machine

/-! ## What the updates write -/

@[simp] theorem PerAxis.get_set_same {α : Type} (p : PerAxis α) (a : Axis) (v : α) : (p.set a v).get a = v := by
  cases a <;> rfl

@[simp] theorem PerAxis.get_set_other {α : Type} (p : PerAxis α) (a b : Axis) (v : α) (h : b ≠ a) :
    (p.set a v).get b = p.get b := by
  cases a <;> cases b <;> first | rfl | exact absurd rfl h

theorem PerAxis.get_set {α : Type} (p : PerAxis α) (a b : Axis) (v : α) :
    (p.set a v).get b = if b = a then v else p.get b := by
  cases a <;> cases b <;> rfl

@[simp] theorem PerDirection.get_set_same {α : Type} (p : PerDirection α) (d : Direction) (v : α) :
    (p.set d v).get d = v := by
  cases d <;> rfl

@[simp] theorem State.onAxis_axis_same (s : State) (a : Axis) (f : AxisRecord → AxisRecord) :
    (s.onAxis a f).axis a = f (s.axis a) := by
  simp [State.onAxis, State.axis]

@[simp] theorem State.onAxis_axis_other (s : State) (a b : Axis) (f : AxisRecord → AxisRecord) (h : b ≠ a) :
    (s.onAxis a f).axis b = s.axis b := by
  simp [State.onAxis, State.axis, h]

@[simp] theorem State.onZone_same (s : State) (z : Fin 24) (f : Zone → Zone) :
    (s.onZone z f).zones[z] = f s.zones[z] := by
  simp [State.onZone]

theorem State.onZone_other (s : State) (z y : Fin 24) (f : Zone → Zone) (h : z ≠ y) :
    (s.onZone z f).zones[y] = s.zones[y] := by
  simp [State.onZone, Fin.val_ne_of_ne h]

@[simp] theorem State.onContext_same (s : State) (c : Fin 16) (f : Context → Context) :
    (s.onContext c f).contexts[c] = f s.contexts[c] := by
  simp [State.onContext]

theorem State.onContext_other (s : State) (c d : Fin 16) (f : Context → Context) (h : c ≠ d) :
    (s.onContext c f).contexts[d] = s.contexts[d] := by
  simp [State.onContext, Fin.val_ne_of_ne h]

@[simp] theorem State.onSlot_same (s : State) (k : Fin 52) (f : Slot → Slot) :
    (s.onSlot k f).budget.slots[k] = f s.budget.slots[k] := by
  simp [State.onSlot]

theorem State.onSlot_other (s : State) (k j : Fin 52) (f : Slot → Slot) (h : k ≠ j) :
    (s.onSlot k f).budget.slots[j] = s.budget.slots[j] := by
  simp [State.onSlot, Fin.val_ne_of_ne h]

@[simp] theorem State.onPanel_same (s : State) (p : Fin 12) (f : Panel → Panel) :
    (s.onPanel p f).panels[p] = f s.panels[p] := by
  simp [State.onPanel]

@[simp] theorem State.moveTo_state (s : State) (a : Axis) (new : AxisState) :
    ((s.moveTo a new).axis a) = { s.axis a with state := new, drive := driveOff, stall := none } := by
  cases a <;> rfl

@[simp] theorem State.moveTo_axis_other (s : State) (a b : Axis) (new : AxisState) (h : b ≠ a) :
    (s.moveTo a new).axis b = s.axis b := by
  cases a <;> cases b <;> first | rfl | exact absurd rfl h

@[simp] theorem State.post_reports (s : State) (key : ReportKey) (content : List Byte) :
    (s.post key content).link.reports = postTo s.link.reports key content := rfl

@[simp] theorem State.reply_replies (s : State) (kind tag : Byte) (result : Result) (fields : List Byte) :
    (s.reply kind tag result fields).link.replies
      = s.link.replies ++ [{ frame := replyFrame kind tag result fields, delayed := false }] := rfl

@[simp] theorem State.withPumpRun_run (s : State) :
    s.withPumpRun.pump.run = (s.pump.owner.isSome && s.pump.grant == s.raw pumpSlot) := rfl

/-! ## What an update of an axis record leaves as it was -/

@[simp] theorem State.onAxis_now (s : State) (a : Axis) (f : AxisRecord → AxisRecord) : (s.onAxis a f).now = s.now := rfl
@[simp] theorem State.onAxis_freeIndex (s : State) (a : Axis) (f : AxisRecord → AxisRecord) : (s.onAxis a f).freeIndex = s.freeIndex := rfl
@[simp] theorem State.onAxis_dwellIndex (s : State) (a : Axis) (f : AxisRecord → AxisRecord) : (s.onAxis a f).dwellIndex = s.dwellIndex := rfl
@[simp] theorem State.onAxis_unsettled (s : State) (a : Axis) (f : AxisRecord → AxisRecord) : (s.onAxis a f).unsettled = s.unsettled := rfl
@[simp] theorem State.onAxis_pending (s : State) (a : Axis) (f : AxisRecord → AxisRecord) : (s.onAxis a f).pending = s.pending := rfl
@[simp] theorem State.onAxis_config (s : State) (a : Axis) (f : AxisRecord → AxisRecord) : (s.onAxis a f).config = s.config := rfl
@[simp] theorem State.onAxis_budget (s : State) (a : Axis) (f : AxisRecord → AxisRecord) : (s.onAxis a f).budget = s.budget := rfl
@[simp] theorem State.onAxis_zones (s : State) (a : Axis) (f : AxisRecord → AxisRecord) : (s.onAxis a f).zones = s.zones := rfl
@[simp] theorem State.onAxis_frameDeadline (s : State) (a : Axis) (f : AxisRecord → AxisRecord) : (s.onAxis a f).frameDeadline = s.frameDeadline := rfl
@[simp] theorem State.onAxis_cue (s : State) (a : Axis) (f : AxisRecord → AxisRecord) : (s.onAxis a f).cue = s.cue := rfl
@[simp] theorem State.onAxis_sensors (s : State) (a : Axis) (f : AxisRecord → AxisRecord) : (s.onAxis a f).sensors = s.sensors := rfl
@[simp] theorem State.onAxis_gypsy (s : State) (a : Axis) (f : AxisRecord → AxisRecord) : (s.onAxis a f).gypsy = s.gypsy := rfl
@[simp] theorem State.onAxis_contexts (s : State) (a : Axis) (f : AxisRecord → AxisRecord) : (s.onAxis a f).contexts = s.contexts := rfl
@[simp] theorem State.onAxis_queues (s : State) (a : Axis) (f : AxisRecord → AxisRecord) : (s.onAxis a f).queues = s.queues := rfl
@[simp] theorem State.onAxis_inputs (s : State) (a : Axis) (f : AxisRecord → AxisRecord) : (s.onAxis a f).inputs = s.inputs := rfl
@[simp] theorem State.onAxis_vessel (s : State) (a : Axis) (f : AxisRecord → AxisRecord) : (s.onAxis a f).vessel = s.vessel := rfl
@[simp] theorem State.onAxis_permits (s : State) (a : Axis) (f : AxisRecord → AxisRecord) : (s.onAxis a f).permits = s.permits := rfl
@[simp] theorem State.onAxis_pump (s : State) (a : Axis) (f : AxisRecord → AxisRecord) : (s.onAxis a f).pump = s.pump := rfl
@[simp] theorem State.onAxis_chime (s : State) (a : Axis) (f : AxisRecord → AxisRecord) : (s.onAxis a f).chime = s.chime := rfl
@[simp] theorem State.onAxis_panels (s : State) (a : Axis) (f : AxisRecord → AxisRecord) : (s.onAxis a f).panels = s.panels := rfl
@[simp] theorem State.onAxis_runs (s : State) (a : Axis) (f : AxisRecord → AxisRecord) : (s.onAxis a f).runs = s.runs := rfl
@[simp] theorem State.onAxis_link (s : State) (a : Axis) (f : AxisRecord → AxisRecord) : (s.onAxis a f).link = s.link := rfl
@[simp] theorem State.onAxis_store (s : State) (a : Axis) (f : AxisRecord → AxisRecord) : (s.onAxis a f).store = s.store := rfl

/-! ## What an update of a zone record leaves as it was -/

@[simp] theorem State.onZone_now (s : State) (z : Fin 24) (f : Zone → Zone) : (s.onZone z f).now = s.now := rfl
@[simp] theorem State.onZone_freeIndex (s : State) (z : Fin 24) (f : Zone → Zone) : (s.onZone z f).freeIndex = s.freeIndex := rfl
@[simp] theorem State.onZone_dwellIndex (s : State) (z : Fin 24) (f : Zone → Zone) : (s.onZone z f).dwellIndex = s.dwellIndex := rfl
@[simp] theorem State.onZone_unsettled (s : State) (z : Fin 24) (f : Zone → Zone) : (s.onZone z f).unsettled = s.unsettled := rfl
@[simp] theorem State.onZone_pending (s : State) (z : Fin 24) (f : Zone → Zone) : (s.onZone z f).pending = s.pending := rfl
@[simp] theorem State.onZone_config (s : State) (z : Fin 24) (f : Zone → Zone) : (s.onZone z f).config = s.config := rfl
@[simp] theorem State.onZone_budget (s : State) (z : Fin 24) (f : Zone → Zone) : (s.onZone z f).budget = s.budget := rfl
@[simp] theorem State.onZone_frameDeadline (s : State) (z : Fin 24) (f : Zone → Zone) : (s.onZone z f).frameDeadline = s.frameDeadline := rfl
@[simp] theorem State.onZone_cue (s : State) (z : Fin 24) (f : Zone → Zone) : (s.onZone z f).cue = s.cue := rfl
@[simp] theorem State.onZone_axes (s : State) (z : Fin 24) (f : Zone → Zone) : (s.onZone z f).axes = s.axes := rfl
@[simp] theorem State.onZone_sensors (s : State) (z : Fin 24) (f : Zone → Zone) : (s.onZone z f).sensors = s.sensors := rfl
@[simp] theorem State.onZone_gypsy (s : State) (z : Fin 24) (f : Zone → Zone) : (s.onZone z f).gypsy = s.gypsy := rfl
@[simp] theorem State.onZone_contexts (s : State) (z : Fin 24) (f : Zone → Zone) : (s.onZone z f).contexts = s.contexts := rfl
@[simp] theorem State.onZone_queues (s : State) (z : Fin 24) (f : Zone → Zone) : (s.onZone z f).queues = s.queues := rfl
@[simp] theorem State.onZone_inputs (s : State) (z : Fin 24) (f : Zone → Zone) : (s.onZone z f).inputs = s.inputs := rfl
@[simp] theorem State.onZone_vessel (s : State) (z : Fin 24) (f : Zone → Zone) : (s.onZone z f).vessel = s.vessel := rfl
@[simp] theorem State.onZone_permits (s : State) (z : Fin 24) (f : Zone → Zone) : (s.onZone z f).permits = s.permits := rfl
@[simp] theorem State.onZone_pump (s : State) (z : Fin 24) (f : Zone → Zone) : (s.onZone z f).pump = s.pump := rfl
@[simp] theorem State.onZone_chime (s : State) (z : Fin 24) (f : Zone → Zone) : (s.onZone z f).chime = s.chime := rfl
@[simp] theorem State.onZone_panels (s : State) (z : Fin 24) (f : Zone → Zone) : (s.onZone z f).panels = s.panels := rfl
@[simp] theorem State.onZone_runs (s : State) (z : Fin 24) (f : Zone → Zone) : (s.onZone z f).runs = s.runs := rfl
@[simp] theorem State.onZone_link (s : State) (z : Fin 24) (f : Zone → Zone) : (s.onZone z f).link = s.link := rfl
@[simp] theorem State.onZone_store (s : State) (z : Fin 24) (f : Zone → Zone) : (s.onZone z f).store = s.store := rfl

/-! ## What an update of a context leaves as it was -/

@[simp] theorem State.onContext_now (s : State) (c : Fin 16) (f : Context → Context) : (s.onContext c f).now = s.now := rfl
@[simp] theorem State.onContext_freeIndex (s : State) (c : Fin 16) (f : Context → Context) : (s.onContext c f).freeIndex = s.freeIndex := rfl
@[simp] theorem State.onContext_dwellIndex (s : State) (c : Fin 16) (f : Context → Context) : (s.onContext c f).dwellIndex = s.dwellIndex := rfl
@[simp] theorem State.onContext_unsettled (s : State) (c : Fin 16) (f : Context → Context) : (s.onContext c f).unsettled = s.unsettled := rfl
@[simp] theorem State.onContext_pending (s : State) (c : Fin 16) (f : Context → Context) : (s.onContext c f).pending = s.pending := rfl
@[simp] theorem State.onContext_config (s : State) (c : Fin 16) (f : Context → Context) : (s.onContext c f).config = s.config := rfl
@[simp] theorem State.onContext_budget (s : State) (c : Fin 16) (f : Context → Context) : (s.onContext c f).budget = s.budget := rfl
@[simp] theorem State.onContext_zones (s : State) (c : Fin 16) (f : Context → Context) : (s.onContext c f).zones = s.zones := rfl
@[simp] theorem State.onContext_frameDeadline (s : State) (c : Fin 16) (f : Context → Context) : (s.onContext c f).frameDeadline = s.frameDeadline := rfl
@[simp] theorem State.onContext_cue (s : State) (c : Fin 16) (f : Context → Context) : (s.onContext c f).cue = s.cue := rfl
@[simp] theorem State.onContext_axes (s : State) (c : Fin 16) (f : Context → Context) : (s.onContext c f).axes = s.axes := rfl
@[simp] theorem State.onContext_sensors (s : State) (c : Fin 16) (f : Context → Context) : (s.onContext c f).sensors = s.sensors := rfl
@[simp] theorem State.onContext_gypsy (s : State) (c : Fin 16) (f : Context → Context) : (s.onContext c f).gypsy = s.gypsy := rfl
@[simp] theorem State.onContext_queues (s : State) (c : Fin 16) (f : Context → Context) : (s.onContext c f).queues = s.queues := rfl
@[simp] theorem State.onContext_inputs (s : State) (c : Fin 16) (f : Context → Context) : (s.onContext c f).inputs = s.inputs := rfl
@[simp] theorem State.onContext_vessel (s : State) (c : Fin 16) (f : Context → Context) : (s.onContext c f).vessel = s.vessel := rfl
@[simp] theorem State.onContext_permits (s : State) (c : Fin 16) (f : Context → Context) : (s.onContext c f).permits = s.permits := rfl
@[simp] theorem State.onContext_pump (s : State) (c : Fin 16) (f : Context → Context) : (s.onContext c f).pump = s.pump := rfl
@[simp] theorem State.onContext_chime (s : State) (c : Fin 16) (f : Context → Context) : (s.onContext c f).chime = s.chime := rfl
@[simp] theorem State.onContext_panels (s : State) (c : Fin 16) (f : Context → Context) : (s.onContext c f).panels = s.panels := rfl
@[simp] theorem State.onContext_runs (s : State) (c : Fin 16) (f : Context → Context) : (s.onContext c f).runs = s.runs := rfl
@[simp] theorem State.onContext_link (s : State) (c : Fin 16) (f : Context → Context) : (s.onContext c f).link = s.link := rfl
@[simp] theorem State.onContext_store (s : State) (c : Fin 16) (f : Context → Context) : (s.onContext c f).store = s.store := rfl

/-! ## What an update of a load slot leaves as it was -/

@[simp] theorem State.onSlot_now (s : State) (k : Fin 52) (f : Slot → Slot) : (s.onSlot k f).now = s.now := rfl
@[simp] theorem State.onSlot_freeIndex (s : State) (k : Fin 52) (f : Slot → Slot) : (s.onSlot k f).freeIndex = s.freeIndex := rfl
@[simp] theorem State.onSlot_dwellIndex (s : State) (k : Fin 52) (f : Slot → Slot) : (s.onSlot k f).dwellIndex = s.dwellIndex := rfl
@[simp] theorem State.onSlot_unsettled (s : State) (k : Fin 52) (f : Slot → Slot) : (s.onSlot k f).unsettled = s.unsettled := rfl
@[simp] theorem State.onSlot_pending (s : State) (k : Fin 52) (f : Slot → Slot) : (s.onSlot k f).pending = s.pending := rfl
@[simp] theorem State.onSlot_config (s : State) (k : Fin 52) (f : Slot → Slot) : (s.onSlot k f).config = s.config := rfl
@[simp] theorem State.onSlot_zones (s : State) (k : Fin 52) (f : Slot → Slot) : (s.onSlot k f).zones = s.zones := rfl
@[simp] theorem State.onSlot_frameDeadline (s : State) (k : Fin 52) (f : Slot → Slot) : (s.onSlot k f).frameDeadline = s.frameDeadline := rfl
@[simp] theorem State.onSlot_cue (s : State) (k : Fin 52) (f : Slot → Slot) : (s.onSlot k f).cue = s.cue := rfl
@[simp] theorem State.onSlot_axes (s : State) (k : Fin 52) (f : Slot → Slot) : (s.onSlot k f).axes = s.axes := rfl
@[simp] theorem State.onSlot_sensors (s : State) (k : Fin 52) (f : Slot → Slot) : (s.onSlot k f).sensors = s.sensors := rfl
@[simp] theorem State.onSlot_gypsy (s : State) (k : Fin 52) (f : Slot → Slot) : (s.onSlot k f).gypsy = s.gypsy := rfl
@[simp] theorem State.onSlot_contexts (s : State) (k : Fin 52) (f : Slot → Slot) : (s.onSlot k f).contexts = s.contexts := rfl
@[simp] theorem State.onSlot_queues (s : State) (k : Fin 52) (f : Slot → Slot) : (s.onSlot k f).queues = s.queues := rfl
@[simp] theorem State.onSlot_inputs (s : State) (k : Fin 52) (f : Slot → Slot) : (s.onSlot k f).inputs = s.inputs := rfl
@[simp] theorem State.onSlot_vessel (s : State) (k : Fin 52) (f : Slot → Slot) : (s.onSlot k f).vessel = s.vessel := rfl
@[simp] theorem State.onSlot_permits (s : State) (k : Fin 52) (f : Slot → Slot) : (s.onSlot k f).permits = s.permits := rfl
@[simp] theorem State.onSlot_pump (s : State) (k : Fin 52) (f : Slot → Slot) : (s.onSlot k f).pump = s.pump := rfl
@[simp] theorem State.onSlot_chime (s : State) (k : Fin 52) (f : Slot → Slot) : (s.onSlot k f).chime = s.chime := rfl
@[simp] theorem State.onSlot_panels (s : State) (k : Fin 52) (f : Slot → Slot) : (s.onSlot k f).panels = s.panels := rfl
@[simp] theorem State.onSlot_runs (s : State) (k : Fin 52) (f : Slot → Slot) : (s.onSlot k f).runs = s.runs := rfl
@[simp] theorem State.onSlot_link (s : State) (k : Fin 52) (f : Slot → Slot) : (s.onSlot k f).link = s.link := rfl
@[simp] theorem State.onSlot_store (s : State) (k : Fin 52) (f : Slot → Slot) : (s.onSlot k f).store = s.store := rfl

/-! ## What an update of a panel leaves as it was -/

@[simp] theorem State.onPanel_now (s : State) (p : Fin 12) (f : Panel → Panel) : (s.onPanel p f).now = s.now := rfl
@[simp] theorem State.onPanel_freeIndex (s : State) (p : Fin 12) (f : Panel → Panel) : (s.onPanel p f).freeIndex = s.freeIndex := rfl
@[simp] theorem State.onPanel_dwellIndex (s : State) (p : Fin 12) (f : Panel → Panel) : (s.onPanel p f).dwellIndex = s.dwellIndex := rfl
@[simp] theorem State.onPanel_unsettled (s : State) (p : Fin 12) (f : Panel → Panel) : (s.onPanel p f).unsettled = s.unsettled := rfl
@[simp] theorem State.onPanel_pending (s : State) (p : Fin 12) (f : Panel → Panel) : (s.onPanel p f).pending = s.pending := rfl
@[simp] theorem State.onPanel_config (s : State) (p : Fin 12) (f : Panel → Panel) : (s.onPanel p f).config = s.config := rfl
@[simp] theorem State.onPanel_budget (s : State) (p : Fin 12) (f : Panel → Panel) : (s.onPanel p f).budget = s.budget := rfl
@[simp] theorem State.onPanel_zones (s : State) (p : Fin 12) (f : Panel → Panel) : (s.onPanel p f).zones = s.zones := rfl
@[simp] theorem State.onPanel_frameDeadline (s : State) (p : Fin 12) (f : Panel → Panel) : (s.onPanel p f).frameDeadline = s.frameDeadline := rfl
@[simp] theorem State.onPanel_cue (s : State) (p : Fin 12) (f : Panel → Panel) : (s.onPanel p f).cue = s.cue := rfl
@[simp] theorem State.onPanel_axes (s : State) (p : Fin 12) (f : Panel → Panel) : (s.onPanel p f).axes = s.axes := rfl
@[simp] theorem State.onPanel_sensors (s : State) (p : Fin 12) (f : Panel → Panel) : (s.onPanel p f).sensors = s.sensors := rfl
@[simp] theorem State.onPanel_gypsy (s : State) (p : Fin 12) (f : Panel → Panel) : (s.onPanel p f).gypsy = s.gypsy := rfl
@[simp] theorem State.onPanel_contexts (s : State) (p : Fin 12) (f : Panel → Panel) : (s.onPanel p f).contexts = s.contexts := rfl
@[simp] theorem State.onPanel_queues (s : State) (p : Fin 12) (f : Panel → Panel) : (s.onPanel p f).queues = s.queues := rfl
@[simp] theorem State.onPanel_inputs (s : State) (p : Fin 12) (f : Panel → Panel) : (s.onPanel p f).inputs = s.inputs := rfl
@[simp] theorem State.onPanel_vessel (s : State) (p : Fin 12) (f : Panel → Panel) : (s.onPanel p f).vessel = s.vessel := rfl
@[simp] theorem State.onPanel_permits (s : State) (p : Fin 12) (f : Panel → Panel) : (s.onPanel p f).permits = s.permits := rfl
@[simp] theorem State.onPanel_pump (s : State) (p : Fin 12) (f : Panel → Panel) : (s.onPanel p f).pump = s.pump := rfl
@[simp] theorem State.onPanel_chime (s : State) (p : Fin 12) (f : Panel → Panel) : (s.onPanel p f).chime = s.chime := rfl
@[simp] theorem State.onPanel_runs (s : State) (p : Fin 12) (f : Panel → Panel) : (s.onPanel p f).runs = s.runs := rfl
@[simp] theorem State.onPanel_link (s : State) (p : Fin 12) (f : Panel → Panel) : (s.onPanel p f).link = s.link := rfl
@[simp] theorem State.onPanel_store (s : State) (p : Fin 12) (f : Panel → Panel) : (s.onPanel p f).store = s.store := rfl

/-! ## What a posting leaves as it was -/

@[simp] theorem State.post_now (s : State) (key : ReportKey) (content : List Byte) : (s.post key content).now = s.now := rfl
@[simp] theorem State.post_freeIndex (s : State) (key : ReportKey) (content : List Byte) : (s.post key content).freeIndex = s.freeIndex := rfl
@[simp] theorem State.post_dwellIndex (s : State) (key : ReportKey) (content : List Byte) : (s.post key content).dwellIndex = s.dwellIndex := rfl
@[simp] theorem State.post_unsettled (s : State) (key : ReportKey) (content : List Byte) : (s.post key content).unsettled = s.unsettled := rfl
@[simp] theorem State.post_pending (s : State) (key : ReportKey) (content : List Byte) : (s.post key content).pending = s.pending := rfl
@[simp] theorem State.post_config (s : State) (key : ReportKey) (content : List Byte) : (s.post key content).config = s.config := rfl
@[simp] theorem State.post_budget (s : State) (key : ReportKey) (content : List Byte) : (s.post key content).budget = s.budget := rfl
@[simp] theorem State.post_zones (s : State) (key : ReportKey) (content : List Byte) : (s.post key content).zones = s.zones := rfl
@[simp] theorem State.post_frameDeadline (s : State) (key : ReportKey) (content : List Byte) : (s.post key content).frameDeadline = s.frameDeadline := rfl
@[simp] theorem State.post_cue (s : State) (key : ReportKey) (content : List Byte) : (s.post key content).cue = s.cue := rfl
@[simp] theorem State.post_axes (s : State) (key : ReportKey) (content : List Byte) : (s.post key content).axes = s.axes := rfl
@[simp] theorem State.post_sensors (s : State) (key : ReportKey) (content : List Byte) : (s.post key content).sensors = s.sensors := rfl
@[simp] theorem State.post_gypsy (s : State) (key : ReportKey) (content : List Byte) : (s.post key content).gypsy = s.gypsy := rfl
@[simp] theorem State.post_contexts (s : State) (key : ReportKey) (content : List Byte) : (s.post key content).contexts = s.contexts := rfl
@[simp] theorem State.post_queues (s : State) (key : ReportKey) (content : List Byte) : (s.post key content).queues = s.queues := rfl
@[simp] theorem State.post_inputs (s : State) (key : ReportKey) (content : List Byte) : (s.post key content).inputs = s.inputs := rfl
@[simp] theorem State.post_vessel (s : State) (key : ReportKey) (content : List Byte) : (s.post key content).vessel = s.vessel := rfl
@[simp] theorem State.post_permits (s : State) (key : ReportKey) (content : List Byte) : (s.post key content).permits = s.permits := rfl
@[simp] theorem State.post_pump (s : State) (key : ReportKey) (content : List Byte) : (s.post key content).pump = s.pump := rfl
@[simp] theorem State.post_chime (s : State) (key : ReportKey) (content : List Byte) : (s.post key content).chime = s.chime := rfl
@[simp] theorem State.post_panels (s : State) (key : ReportKey) (content : List Byte) : (s.post key content).panels = s.panels := rfl
@[simp] theorem State.post_runs (s : State) (key : ReportKey) (content : List Byte) : (s.post key content).runs = s.runs := rfl
@[simp] theorem State.post_store (s : State) (key : ReportKey) (content : List Byte) : (s.post key content).store = s.store := rfl

/-! ## What a reply leaves as it was -/

@[simp] theorem State.reply_now (s : State) (kind tag : Byte) (result : Result) (fields : List Byte) : (s.reply kind tag result fields).now = s.now := rfl
@[simp] theorem State.reply_freeIndex (s : State) (kind tag : Byte) (result : Result) (fields : List Byte) : (s.reply kind tag result fields).freeIndex = s.freeIndex := rfl
@[simp] theorem State.reply_dwellIndex (s : State) (kind tag : Byte) (result : Result) (fields : List Byte) : (s.reply kind tag result fields).dwellIndex = s.dwellIndex := rfl
@[simp] theorem State.reply_unsettled (s : State) (kind tag : Byte) (result : Result) (fields : List Byte) : (s.reply kind tag result fields).unsettled = s.unsettled := rfl
@[simp] theorem State.reply_pending (s : State) (kind tag : Byte) (result : Result) (fields : List Byte) : (s.reply kind tag result fields).pending = s.pending := rfl
@[simp] theorem State.reply_config (s : State) (kind tag : Byte) (result : Result) (fields : List Byte) : (s.reply kind tag result fields).config = s.config := rfl
@[simp] theorem State.reply_budget (s : State) (kind tag : Byte) (result : Result) (fields : List Byte) : (s.reply kind tag result fields).budget = s.budget := rfl
@[simp] theorem State.reply_zones (s : State) (kind tag : Byte) (result : Result) (fields : List Byte) : (s.reply kind tag result fields).zones = s.zones := rfl
@[simp] theorem State.reply_frameDeadline (s : State) (kind tag : Byte) (result : Result) (fields : List Byte) : (s.reply kind tag result fields).frameDeadline = s.frameDeadline := rfl
@[simp] theorem State.reply_cue (s : State) (kind tag : Byte) (result : Result) (fields : List Byte) : (s.reply kind tag result fields).cue = s.cue := rfl
@[simp] theorem State.reply_axes (s : State) (kind tag : Byte) (result : Result) (fields : List Byte) : (s.reply kind tag result fields).axes = s.axes := rfl
@[simp] theorem State.reply_sensors (s : State) (kind tag : Byte) (result : Result) (fields : List Byte) : (s.reply kind tag result fields).sensors = s.sensors := rfl
@[simp] theorem State.reply_gypsy (s : State) (kind tag : Byte) (result : Result) (fields : List Byte) : (s.reply kind tag result fields).gypsy = s.gypsy := rfl
@[simp] theorem State.reply_contexts (s : State) (kind tag : Byte) (result : Result) (fields : List Byte) : (s.reply kind tag result fields).contexts = s.contexts := rfl
@[simp] theorem State.reply_queues (s : State) (kind tag : Byte) (result : Result) (fields : List Byte) : (s.reply kind tag result fields).queues = s.queues := rfl
@[simp] theorem State.reply_inputs (s : State) (kind tag : Byte) (result : Result) (fields : List Byte) : (s.reply kind tag result fields).inputs = s.inputs := rfl
@[simp] theorem State.reply_vessel (s : State) (kind tag : Byte) (result : Result) (fields : List Byte) : (s.reply kind tag result fields).vessel = s.vessel := rfl
@[simp] theorem State.reply_permits (s : State) (kind tag : Byte) (result : Result) (fields : List Byte) : (s.reply kind tag result fields).permits = s.permits := rfl
@[simp] theorem State.reply_pump (s : State) (kind tag : Byte) (result : Result) (fields : List Byte) : (s.reply kind tag result fields).pump = s.pump := rfl
@[simp] theorem State.reply_chime (s : State) (kind tag : Byte) (result : Result) (fields : List Byte) : (s.reply kind tag result fields).chime = s.chime := rfl
@[simp] theorem State.reply_panels (s : State) (kind tag : Byte) (result : Result) (fields : List Byte) : (s.reply kind tag result fields).panels = s.panels := rfl
@[simp] theorem State.reply_runs (s : State) (kind tag : Byte) (result : Result) (fields : List Byte) : (s.reply kind tag result fields).runs = s.runs := rfl
@[simp] theorem State.reply_store (s : State) (kind tag : Byte) (result : Result) (fields : List Byte) : (s.reply kind tag result fields).store = s.store := rfl

/-! ## What a frame that begins on the line leaves as it was -/

@[simp] theorem State.transmit_now (s : State) (f : Frame) : (s.transmit f).now = s.now := rfl
@[simp] theorem State.transmit_freeIndex (s : State) (f : Frame) : (s.transmit f).freeIndex = s.freeIndex := rfl
@[simp] theorem State.transmit_dwellIndex (s : State) (f : Frame) : (s.transmit f).dwellIndex = s.dwellIndex := rfl
@[simp] theorem State.transmit_unsettled (s : State) (f : Frame) : (s.transmit f).unsettled = s.unsettled := rfl
@[simp] theorem State.transmit_pending (s : State) (f : Frame) : (s.transmit f).pending = s.pending := rfl
@[simp] theorem State.transmit_config (s : State) (f : Frame) : (s.transmit f).config = s.config := rfl
@[simp] theorem State.transmit_budget (s : State) (f : Frame) : (s.transmit f).budget = s.budget := rfl
@[simp] theorem State.transmit_zones (s : State) (f : Frame) : (s.transmit f).zones = s.zones := rfl
@[simp] theorem State.transmit_frameDeadline (s : State) (f : Frame) : (s.transmit f).frameDeadline = s.frameDeadline := rfl
@[simp] theorem State.transmit_cue (s : State) (f : Frame) : (s.transmit f).cue = s.cue := rfl
@[simp] theorem State.transmit_axes (s : State) (f : Frame) : (s.transmit f).axes = s.axes := rfl
@[simp] theorem State.transmit_sensors (s : State) (f : Frame) : (s.transmit f).sensors = s.sensors := rfl
@[simp] theorem State.transmit_gypsy (s : State) (f : Frame) : (s.transmit f).gypsy = s.gypsy := rfl
@[simp] theorem State.transmit_contexts (s : State) (f : Frame) : (s.transmit f).contexts = s.contexts := rfl
@[simp] theorem State.transmit_queues (s : State) (f : Frame) : (s.transmit f).queues = s.queues := rfl
@[simp] theorem State.transmit_inputs (s : State) (f : Frame) : (s.transmit f).inputs = s.inputs := rfl
@[simp] theorem State.transmit_vessel (s : State) (f : Frame) : (s.transmit f).vessel = s.vessel := rfl
@[simp] theorem State.transmit_permits (s : State) (f : Frame) : (s.transmit f).permits = s.permits := rfl
@[simp] theorem State.transmit_pump (s : State) (f : Frame) : (s.transmit f).pump = s.pump := rfl
@[simp] theorem State.transmit_chime (s : State) (f : Frame) : (s.transmit f).chime = s.chime := rfl
@[simp] theorem State.transmit_panels (s : State) (f : Frame) : (s.transmit f).panels = s.panels := rfl
@[simp] theorem State.transmit_runs (s : State) (f : Frame) : (s.transmit f).runs = s.runs := rfl
@[simp] theorem State.transmit_store (s : State) (f : Frame) : (s.transmit f).store = s.store := rfl

/-! ## What the pump run output following its rule leaves as it was -/

@[simp] theorem State.withPumpRun_now (s : State) : s.withPumpRun.now = s.now := rfl
@[simp] theorem State.withPumpRun_freeIndex (s : State) : s.withPumpRun.freeIndex = s.freeIndex := rfl
@[simp] theorem State.withPumpRun_dwellIndex (s : State) : s.withPumpRun.dwellIndex = s.dwellIndex := rfl
@[simp] theorem State.withPumpRun_unsettled (s : State) : s.withPumpRun.unsettled = s.unsettled := rfl
@[simp] theorem State.withPumpRun_pending (s : State) : s.withPumpRun.pending = s.pending := rfl
@[simp] theorem State.withPumpRun_config (s : State) : s.withPumpRun.config = s.config := rfl
@[simp] theorem State.withPumpRun_budget (s : State) : s.withPumpRun.budget = s.budget := rfl
@[simp] theorem State.withPumpRun_zones (s : State) : s.withPumpRun.zones = s.zones := rfl
@[simp] theorem State.withPumpRun_frameDeadline (s : State) : s.withPumpRun.frameDeadline = s.frameDeadline := rfl
@[simp] theorem State.withPumpRun_cue (s : State) : s.withPumpRun.cue = s.cue := rfl
@[simp] theorem State.withPumpRun_axes (s : State) : s.withPumpRun.axes = s.axes := rfl
@[simp] theorem State.withPumpRun_sensors (s : State) : s.withPumpRun.sensors = s.sensors := rfl
@[simp] theorem State.withPumpRun_gypsy (s : State) : s.withPumpRun.gypsy = s.gypsy := rfl
@[simp] theorem State.withPumpRun_contexts (s : State) : s.withPumpRun.contexts = s.contexts := rfl
@[simp] theorem State.withPumpRun_queues (s : State) : s.withPumpRun.queues = s.queues := rfl
@[simp] theorem State.withPumpRun_inputs (s : State) : s.withPumpRun.inputs = s.inputs := rfl
@[simp] theorem State.withPumpRun_vessel (s : State) : s.withPumpRun.vessel = s.vessel := rfl
@[simp] theorem State.withPumpRun_permits (s : State) : s.withPumpRun.permits = s.permits := rfl
@[simp] theorem State.withPumpRun_chime (s : State) : s.withPumpRun.chime = s.chime := rfl
@[simp] theorem State.withPumpRun_panels (s : State) : s.withPumpRun.panels = s.panels := rfl
@[simp] theorem State.withPumpRun_runs (s : State) : s.withPumpRun.runs = s.runs := rfl
@[simp] theorem State.withPumpRun_link (s : State) : s.withPumpRun.link = s.link := rfl
@[simp] theorem State.withPumpRun_store (s : State) : s.withPumpRun.store = s.store := rfl

/-! ## What a change of pump owner leaves as it was -/

@[simp] theorem State.withPump_now (s : State) (owner waiting : Option Hydraulic) : (s.withPump owner waiting).now = s.now := rfl
@[simp] theorem State.withPump_freeIndex (s : State) (owner waiting : Option Hydraulic) : (s.withPump owner waiting).freeIndex = s.freeIndex := rfl
@[simp] theorem State.withPump_dwellIndex (s : State) (owner waiting : Option Hydraulic) : (s.withPump owner waiting).dwellIndex = s.dwellIndex := rfl
@[simp] theorem State.withPump_unsettled (s : State) (owner waiting : Option Hydraulic) : (s.withPump owner waiting).unsettled = s.unsettled := rfl
@[simp] theorem State.withPump_pending (s : State) (owner waiting : Option Hydraulic) : (s.withPump owner waiting).pending = s.pending := rfl
@[simp] theorem State.withPump_config (s : State) (owner waiting : Option Hydraulic) : (s.withPump owner waiting).config = s.config := rfl
@[simp] theorem State.withPump_budget (s : State) (owner waiting : Option Hydraulic) : (s.withPump owner waiting).budget = s.budget := rfl
@[simp] theorem State.withPump_zones (s : State) (owner waiting : Option Hydraulic) : (s.withPump owner waiting).zones = s.zones := rfl
@[simp] theorem State.withPump_frameDeadline (s : State) (owner waiting : Option Hydraulic) : (s.withPump owner waiting).frameDeadline = s.frameDeadline := rfl
@[simp] theorem State.withPump_cue (s : State) (owner waiting : Option Hydraulic) : (s.withPump owner waiting).cue = s.cue := rfl
@[simp] theorem State.withPump_axes (s : State) (owner waiting : Option Hydraulic) : (s.withPump owner waiting).axes = s.axes := rfl
@[simp] theorem State.withPump_sensors (s : State) (owner waiting : Option Hydraulic) : (s.withPump owner waiting).sensors = s.sensors := rfl
@[simp] theorem State.withPump_gypsy (s : State) (owner waiting : Option Hydraulic) : (s.withPump owner waiting).gypsy = s.gypsy := rfl
@[simp] theorem State.withPump_contexts (s : State) (owner waiting : Option Hydraulic) : (s.withPump owner waiting).contexts = s.contexts := rfl
@[simp] theorem State.withPump_queues (s : State) (owner waiting : Option Hydraulic) : (s.withPump owner waiting).queues = s.queues := rfl
@[simp] theorem State.withPump_inputs (s : State) (owner waiting : Option Hydraulic) : (s.withPump owner waiting).inputs = s.inputs := rfl
@[simp] theorem State.withPump_vessel (s : State) (owner waiting : Option Hydraulic) : (s.withPump owner waiting).vessel = s.vessel := rfl
@[simp] theorem State.withPump_permits (s : State) (owner waiting : Option Hydraulic) : (s.withPump owner waiting).permits = s.permits := rfl
@[simp] theorem State.withPump_chime (s : State) (owner waiting : Option Hydraulic) : (s.withPump owner waiting).chime = s.chime := rfl
@[simp] theorem State.withPump_panels (s : State) (owner waiting : Option Hydraulic) : (s.withPump owner waiting).panels = s.panels := rfl
@[simp] theorem State.withPump_runs (s : State) (owner waiting : Option Hydraulic) : (s.withPump owner waiting).runs = s.runs := rfl
@[simp] theorem State.withPump_link (s : State) (owner waiting : Option Hydraulic) : (s.withPump owner waiting).link = s.link := rfl
@[simp] theorem State.withPump_store (s : State) (owner waiting : Option Hydraulic) : (s.withPump owner waiting).store = s.store := rfl

/-! ## What a change of an axis's state leaves as it was -/

@[simp] theorem State.moveTo_now (s : State) (a : Axis) (new : AxisState) : (s.moveTo a new).now = s.now := rfl
@[simp] theorem State.moveTo_freeIndex (s : State) (a : Axis) (new : AxisState) : (s.moveTo a new).freeIndex = s.freeIndex := rfl
@[simp] theorem State.moveTo_dwellIndex (s : State) (a : Axis) (new : AxisState) : (s.moveTo a new).dwellIndex = s.dwellIndex := rfl
@[simp] theorem State.moveTo_unsettled (s : State) (a : Axis) (new : AxisState) : (s.moveTo a new).unsettled = s.unsettled := rfl
@[simp] theorem State.moveTo_pending (s : State) (a : Axis) (new : AxisState) : (s.moveTo a new).pending = s.pending := rfl
@[simp] theorem State.moveTo_config (s : State) (a : Axis) (new : AxisState) : (s.moveTo a new).config = s.config := rfl
@[simp] theorem State.moveTo_budget (s : State) (a : Axis) (new : AxisState) : (s.moveTo a new).budget = s.budget := rfl
@[simp] theorem State.moveTo_zones (s : State) (a : Axis) (new : AxisState) : (s.moveTo a new).zones = s.zones := rfl
@[simp] theorem State.moveTo_frameDeadline (s : State) (a : Axis) (new : AxisState) : (s.moveTo a new).frameDeadline = s.frameDeadline := rfl
@[simp] theorem State.moveTo_cue (s : State) (a : Axis) (new : AxisState) : (s.moveTo a new).cue = s.cue := rfl
@[simp] theorem State.moveTo_sensors (s : State) (a : Axis) (new : AxisState) : (s.moveTo a new).sensors = s.sensors := rfl
@[simp] theorem State.moveTo_gypsy (s : State) (a : Axis) (new : AxisState) : (s.moveTo a new).gypsy = s.gypsy := rfl
@[simp] theorem State.moveTo_contexts (s : State) (a : Axis) (new : AxisState) : (s.moveTo a new).contexts = s.contexts := rfl
@[simp] theorem State.moveTo_queues (s : State) (a : Axis) (new : AxisState) : (s.moveTo a new).queues = s.queues := rfl
@[simp] theorem State.moveTo_inputs (s : State) (a : Axis) (new : AxisState) : (s.moveTo a new).inputs = s.inputs := rfl
@[simp] theorem State.moveTo_vessel (s : State) (a : Axis) (new : AxisState) : (s.moveTo a new).vessel = s.vessel := rfl
@[simp] theorem State.moveTo_permits (s : State) (a : Axis) (new : AxisState) : (s.moveTo a new).permits = s.permits := rfl
@[simp] theorem State.moveTo_pump (s : State) (a : Axis) (new : AxisState) : (s.moveTo a new).pump = s.pump := rfl
@[simp] theorem State.moveTo_panels (s : State) (a : Axis) (new : AxisState) : (s.moveTo a new).panels = s.panels := rfl
@[simp] theorem State.moveTo_runs (s : State) (a : Axis) (new : AxisState) : (s.moveTo a new).runs = s.runs := rfl
@[simp] theorem State.moveTo_link (s : State) (a : Axis) (new : AxisState) : (s.moveTo a new).link = s.link := rfl
@[simp] theorem State.moveTo_store (s : State) (a : Axis) (new : AxisState) : (s.moveTo a new).store = s.store := rfl

/-! ## What a stored demand leaves as it was -/

@[simp] theorem State.withDemand_now (s : State) (slot : Fin 52) (demand : Nat) : (s.withDemand slot demand).now = s.now := rfl
@[simp] theorem State.withDemand_freeIndex (s : State) (slot : Fin 52) (demand : Nat) : (s.withDemand slot demand).freeIndex = s.freeIndex := rfl
@[simp] theorem State.withDemand_dwellIndex (s : State) (slot : Fin 52) (demand : Nat) : (s.withDemand slot demand).dwellIndex = s.dwellIndex := rfl
@[simp] theorem State.withDemand_unsettled (s : State) (slot : Fin 52) (demand : Nat) : (s.withDemand slot demand).unsettled = s.unsettled := rfl
@[simp] theorem State.withDemand_pending (s : State) (slot : Fin 52) (demand : Nat) : (s.withDemand slot demand).pending = s.pending := rfl
@[simp] theorem State.withDemand_config (s : State) (slot : Fin 52) (demand : Nat) : (s.withDemand slot demand).config = s.config := rfl
@[simp] theorem State.withDemand_zones (s : State) (slot : Fin 52) (demand : Nat) : (s.withDemand slot demand).zones = s.zones := rfl
@[simp] theorem State.withDemand_frameDeadline (s : State) (slot : Fin 52) (demand : Nat) : (s.withDemand slot demand).frameDeadline = s.frameDeadline := rfl
@[simp] theorem State.withDemand_cue (s : State) (slot : Fin 52) (demand : Nat) : (s.withDemand slot demand).cue = s.cue := rfl
@[simp] theorem State.withDemand_axes (s : State) (slot : Fin 52) (demand : Nat) : (s.withDemand slot demand).axes = s.axes := rfl
@[simp] theorem State.withDemand_sensors (s : State) (slot : Fin 52) (demand : Nat) : (s.withDemand slot demand).sensors = s.sensors := rfl
@[simp] theorem State.withDemand_gypsy (s : State) (slot : Fin 52) (demand : Nat) : (s.withDemand slot demand).gypsy = s.gypsy := rfl
@[simp] theorem State.withDemand_contexts (s : State) (slot : Fin 52) (demand : Nat) : (s.withDemand slot demand).contexts = s.contexts := rfl
@[simp] theorem State.withDemand_queues (s : State) (slot : Fin 52) (demand : Nat) : (s.withDemand slot demand).queues = s.queues := rfl
@[simp] theorem State.withDemand_inputs (s : State) (slot : Fin 52) (demand : Nat) : (s.withDemand slot demand).inputs = s.inputs := rfl
@[simp] theorem State.withDemand_vessel (s : State) (slot : Fin 52) (demand : Nat) : (s.withDemand slot demand).vessel = s.vessel := rfl
@[simp] theorem State.withDemand_permits (s : State) (slot : Fin 52) (demand : Nat) : (s.withDemand slot demand).permits = s.permits := rfl
@[simp] theorem State.withDemand_chime (s : State) (slot : Fin 52) (demand : Nat) : (s.withDemand slot demand).chime = s.chime := rfl
@[simp] theorem State.withDemand_panels (s : State) (slot : Fin 52) (demand : Nat) : (s.withDemand slot demand).panels = s.panels := rfl
@[simp] theorem State.withDemand_runs (s : State) (slot : Fin 52) (demand : Nat) : (s.withDemand slot demand).runs = s.runs := rfl
@[simp] theorem State.withDemand_link (s : State) (slot : Fin 52) (demand : Nat) : (s.withDemand slot demand).link = s.link := rfl
@[simp] theorem State.withDemand_store (s : State) (slot : Fin 52) (demand : Nat) : (s.withDemand slot demand).store = s.store := rfl

/-! ## What an allocation pass leaves as it was -/

@[simp] theorem State.afterPass_now (s : State) : s.afterPass.now = s.now := by simp only [State.afterPass]
@[simp] theorem State.afterPass_freeIndex (s : State) : s.afterPass.freeIndex = s.freeIndex := by simp only [State.afterPass]
@[simp] theorem State.afterPass_dwellIndex (s : State) : s.afterPass.dwellIndex = s.dwellIndex := by simp only [State.afterPass]
@[simp] theorem State.afterPass_unsettled (s : State) : s.afterPass.unsettled = s.unsettled := by simp only [State.afterPass]
@[simp] theorem State.afterPass_pending (s : State) : s.afterPass.pending = s.pending := by simp only [State.afterPass]
@[simp] theorem State.afterPass_config (s : State) : s.afterPass.config = s.config := by simp only [State.afterPass]
@[simp] theorem State.afterPass_zones (s : State) : s.afterPass.zones = s.zones := by simp only [State.afterPass]
@[simp] theorem State.afterPass_frameDeadline (s : State) : s.afterPass.frameDeadline = s.frameDeadline := by simp only [State.afterPass]
@[simp] theorem State.afterPass_cue (s : State) : s.afterPass.cue = s.cue := by simp only [State.afterPass]
@[simp] theorem State.afterPass_axes (s : State) : s.afterPass.axes = s.axes := by simp only [State.afterPass]
@[simp] theorem State.afterPass_sensors (s : State) : s.afterPass.sensors = s.sensors := by simp only [State.afterPass]
@[simp] theorem State.afterPass_gypsy (s : State) : s.afterPass.gypsy = s.gypsy := by simp only [State.afterPass]
@[simp] theorem State.afterPass_contexts (s : State) : s.afterPass.contexts = s.contexts := by simp only [State.afterPass]
@[simp] theorem State.afterPass_queues (s : State) : s.afterPass.queues = s.queues := by simp only [State.afterPass]
@[simp] theorem State.afterPass_inputs (s : State) : s.afterPass.inputs = s.inputs := by simp only [State.afterPass]
@[simp] theorem State.afterPass_vessel (s : State) : s.afterPass.vessel = s.vessel := by simp only [State.afterPass]
@[simp] theorem State.afterPass_permits (s : State) : s.afterPass.permits = s.permits := by simp only [State.afterPass]
@[simp] theorem State.afterPass_pump (s : State) : s.afterPass.pump = s.pump := by simp only [State.afterPass]
@[simp] theorem State.afterPass_chime (s : State) : s.afterPass.chime = s.chime := by simp only [State.afterPass]
@[simp] theorem State.afterPass_panels (s : State) : s.afterPass.panels = s.panels := by simp only [State.afterPass]
@[simp] theorem State.afterPass_runs (s : State) : s.afterPass.runs = s.runs := by simp only [State.afterPass]
@[simp] theorem State.afterPass_link (s : State) : s.afterPass.link = s.link := by simp only [State.afterPass]
@[simp] theorem State.afterPass_store (s : State) : s.afterPass.store = s.store := by simp only [State.afterPass]

/-! ## What an entry to HOLD leaves as it was -/

@[simp] theorem State.enterHold_now (s : State) (a : Axis) : (s.enterHold a).now = s.now := rfl
@[simp] theorem State.enterHold_freeIndex (s : State) (a : Axis) : (s.enterHold a).freeIndex = s.freeIndex := rfl
@[simp] theorem State.enterHold_dwellIndex (s : State) (a : Axis) : (s.enterHold a).dwellIndex = s.dwellIndex := rfl
@[simp] theorem State.enterHold_unsettled (s : State) (a : Axis) : (s.enterHold a).unsettled = s.unsettled := rfl
@[simp] theorem State.enterHold_pending (s : State) (a : Axis) : (s.enterHold a).pending = s.pending := rfl
@[simp] theorem State.enterHold_config (s : State) (a : Axis) : (s.enterHold a).config = s.config := rfl
@[simp] theorem State.enterHold_budget (s : State) (a : Axis) : (s.enterHold a).budget = s.budget := rfl
@[simp] theorem State.enterHold_zones (s : State) (a : Axis) : (s.enterHold a).zones = s.zones := rfl
@[simp] theorem State.enterHold_frameDeadline (s : State) (a : Axis) : (s.enterHold a).frameDeadline = s.frameDeadline := rfl
@[simp] theorem State.enterHold_cue (s : State) (a : Axis) : (s.enterHold a).cue = s.cue := rfl
@[simp] theorem State.enterHold_sensors (s : State) (a : Axis) : (s.enterHold a).sensors = s.sensors := rfl
@[simp] theorem State.enterHold_gypsy (s : State) (a : Axis) : (s.enterHold a).gypsy = s.gypsy := rfl
@[simp] theorem State.enterHold_contexts (s : State) (a : Axis) : (s.enterHold a).contexts = s.contexts := rfl
@[simp] theorem State.enterHold_queues (s : State) (a : Axis) : (s.enterHold a).queues = s.queues := rfl
@[simp] theorem State.enterHold_inputs (s : State) (a : Axis) : (s.enterHold a).inputs = s.inputs := rfl
@[simp] theorem State.enterHold_vessel (s : State) (a : Axis) : (s.enterHold a).vessel = s.vessel := rfl
@[simp] theorem State.enterHold_permits (s : State) (a : Axis) : (s.enterHold a).permits = s.permits := rfl
@[simp] theorem State.enterHold_pump (s : State) (a : Axis) : (s.enterHold a).pump = s.pump := rfl
@[simp] theorem State.enterHold_panels (s : State) (a : Axis) : (s.enterHold a).panels = s.panels := rfl
@[simp] theorem State.enterHold_runs (s : State) (a : Axis) : (s.enterHold a).runs = s.runs := rfl
@[simp] theorem State.enterHold_store (s : State) (a : Axis) : (s.enterHold a).store = s.store := rfl

/-! ## What an entry to STOPPING leaves as it was -/

@[simp] theorem State.enterStopping_now (s : State) (a : Axis) : (s.enterStopping a).now = s.now := rfl
@[simp] theorem State.enterStopping_freeIndex (s : State) (a : Axis) : (s.enterStopping a).freeIndex = s.freeIndex := rfl
@[simp] theorem State.enterStopping_dwellIndex (s : State) (a : Axis) : (s.enterStopping a).dwellIndex = s.dwellIndex := rfl
@[simp] theorem State.enterStopping_unsettled (s : State) (a : Axis) : (s.enterStopping a).unsettled = s.unsettled := rfl
@[simp] theorem State.enterStopping_pending (s : State) (a : Axis) : (s.enterStopping a).pending = s.pending := rfl
@[simp] theorem State.enterStopping_config (s : State) (a : Axis) : (s.enterStopping a).config = s.config := rfl
@[simp] theorem State.enterStopping_budget (s : State) (a : Axis) : (s.enterStopping a).budget = s.budget := rfl
@[simp] theorem State.enterStopping_zones (s : State) (a : Axis) : (s.enterStopping a).zones = s.zones := rfl
@[simp] theorem State.enterStopping_frameDeadline (s : State) (a : Axis) : (s.enterStopping a).frameDeadline = s.frameDeadline := rfl
@[simp] theorem State.enterStopping_cue (s : State) (a : Axis) : (s.enterStopping a).cue = s.cue := rfl
@[simp] theorem State.enterStopping_sensors (s : State) (a : Axis) : (s.enterStopping a).sensors = s.sensors := rfl
@[simp] theorem State.enterStopping_gypsy (s : State) (a : Axis) : (s.enterStopping a).gypsy = s.gypsy := rfl
@[simp] theorem State.enterStopping_contexts (s : State) (a : Axis) : (s.enterStopping a).contexts = s.contexts := rfl
@[simp] theorem State.enterStopping_queues (s : State) (a : Axis) : (s.enterStopping a).queues = s.queues := rfl
@[simp] theorem State.enterStopping_inputs (s : State) (a : Axis) : (s.enterStopping a).inputs = s.inputs := rfl
@[simp] theorem State.enterStopping_vessel (s : State) (a : Axis) : (s.enterStopping a).vessel = s.vessel := rfl
@[simp] theorem State.enterStopping_permits (s : State) (a : Axis) : (s.enterStopping a).permits = s.permits := rfl
@[simp] theorem State.enterStopping_pump (s : State) (a : Axis) : (s.enterStopping a).pump = s.pump := rfl
@[simp] theorem State.enterStopping_panels (s : State) (a : Axis) : (s.enterStopping a).panels = s.panels := rfl
@[simp] theorem State.enterStopping_runs (s : State) (a : Axis) : (s.enterStopping a).runs = s.runs := rfl
@[simp] theorem State.enterStopping_store (s : State) (a : Axis) : (s.enterStopping a).store = s.store := rfl

/-! ## What an entry to IDLE leaves as it was -/

@[simp] theorem State.enterIdle_now (s : State) (a : Axis) : (s.enterIdle a).now = s.now := rfl
@[simp] theorem State.enterIdle_freeIndex (s : State) (a : Axis) : (s.enterIdle a).freeIndex = s.freeIndex := rfl
@[simp] theorem State.enterIdle_dwellIndex (s : State) (a : Axis) : (s.enterIdle a).dwellIndex = s.dwellIndex := rfl
@[simp] theorem State.enterIdle_unsettled (s : State) (a : Axis) : (s.enterIdle a).unsettled = s.unsettled := rfl
@[simp] theorem State.enterIdle_pending (s : State) (a : Axis) : (s.enterIdle a).pending = s.pending := rfl
@[simp] theorem State.enterIdle_config (s : State) (a : Axis) : (s.enterIdle a).config = s.config := rfl
@[simp] theorem State.enterIdle_budget (s : State) (a : Axis) : (s.enterIdle a).budget = s.budget := rfl
@[simp] theorem State.enterIdle_zones (s : State) (a : Axis) : (s.enterIdle a).zones = s.zones := rfl
@[simp] theorem State.enterIdle_frameDeadline (s : State) (a : Axis) : (s.enterIdle a).frameDeadline = s.frameDeadline := rfl
@[simp] theorem State.enterIdle_cue (s : State) (a : Axis) : (s.enterIdle a).cue = s.cue := rfl
@[simp] theorem State.enterIdle_sensors (s : State) (a : Axis) : (s.enterIdle a).sensors = s.sensors := rfl
@[simp] theorem State.enterIdle_gypsy (s : State) (a : Axis) : (s.enterIdle a).gypsy = s.gypsy := rfl
@[simp] theorem State.enterIdle_contexts (s : State) (a : Axis) : (s.enterIdle a).contexts = s.contexts := rfl
@[simp] theorem State.enterIdle_queues (s : State) (a : Axis) : (s.enterIdle a).queues = s.queues := rfl
@[simp] theorem State.enterIdle_inputs (s : State) (a : Axis) : (s.enterIdle a).inputs = s.inputs := rfl
@[simp] theorem State.enterIdle_vessel (s : State) (a : Axis) : (s.enterIdle a).vessel = s.vessel := rfl
@[simp] theorem State.enterIdle_permits (s : State) (a : Axis) : (s.enterIdle a).permits = s.permits := rfl
@[simp] theorem State.enterIdle_pump (s : State) (a : Axis) : (s.enterIdle a).pump = s.pump := rfl
@[simp] theorem State.enterIdle_panels (s : State) (a : Axis) : (s.enterIdle a).panels = s.panels := rfl
@[simp] theorem State.enterIdle_runs (s : State) (a : Axis) : (s.enterIdle a).runs = s.runs := rfl
@[simp] theorem State.enterIdle_store (s : State) (a : Axis) : (s.enterIdle a).store = s.store := rfl

/-! ## What an AXIS report leaves as it was -/

@[simp] theorem State.reportAxis_now (s : State) (a : Axis) : (s.reportAxis a).now = s.now := rfl
@[simp] theorem State.reportAxis_freeIndex (s : State) (a : Axis) : (s.reportAxis a).freeIndex = s.freeIndex := rfl
@[simp] theorem State.reportAxis_dwellIndex (s : State) (a : Axis) : (s.reportAxis a).dwellIndex = s.dwellIndex := rfl
@[simp] theorem State.reportAxis_unsettled (s : State) (a : Axis) : (s.reportAxis a).unsettled = s.unsettled := rfl
@[simp] theorem State.reportAxis_pending (s : State) (a : Axis) : (s.reportAxis a).pending = s.pending := rfl
@[simp] theorem State.reportAxis_config (s : State) (a : Axis) : (s.reportAxis a).config = s.config := rfl
@[simp] theorem State.reportAxis_budget (s : State) (a : Axis) : (s.reportAxis a).budget = s.budget := rfl
@[simp] theorem State.reportAxis_zones (s : State) (a : Axis) : (s.reportAxis a).zones = s.zones := rfl
@[simp] theorem State.reportAxis_frameDeadline (s : State) (a : Axis) : (s.reportAxis a).frameDeadline = s.frameDeadline := rfl
@[simp] theorem State.reportAxis_cue (s : State) (a : Axis) : (s.reportAxis a).cue = s.cue := rfl
@[simp] theorem State.reportAxis_axes (s : State) (a : Axis) : (s.reportAxis a).axes = s.axes := rfl
@[simp] theorem State.reportAxis_sensors (s : State) (a : Axis) : (s.reportAxis a).sensors = s.sensors := rfl
@[simp] theorem State.reportAxis_gypsy (s : State) (a : Axis) : (s.reportAxis a).gypsy = s.gypsy := rfl
@[simp] theorem State.reportAxis_contexts (s : State) (a : Axis) : (s.reportAxis a).contexts = s.contexts := rfl
@[simp] theorem State.reportAxis_queues (s : State) (a : Axis) : (s.reportAxis a).queues = s.queues := rfl
@[simp] theorem State.reportAxis_inputs (s : State) (a : Axis) : (s.reportAxis a).inputs = s.inputs := rfl
@[simp] theorem State.reportAxis_vessel (s : State) (a : Axis) : (s.reportAxis a).vessel = s.vessel := rfl
@[simp] theorem State.reportAxis_permits (s : State) (a : Axis) : (s.reportAxis a).permits = s.permits := rfl
@[simp] theorem State.reportAxis_pump (s : State) (a : Axis) : (s.reportAxis a).pump = s.pump := rfl
@[simp] theorem State.reportAxis_chime (s : State) (a : Axis) : (s.reportAxis a).chime = s.chime := rfl
@[simp] theorem State.reportAxis_panels (s : State) (a : Axis) : (s.reportAxis a).panels = s.panels := rfl
@[simp] theorem State.reportAxis_runs (s : State) (a : Axis) : (s.reportAxis a).runs = s.runs := rfl
@[simp] theorem State.reportAxis_store (s : State) (a : Axis) : (s.reportAxis a).store = s.store := rfl

/-! ## What a ZONE report leaves as it was -/

@[simp] theorem State.reportZone_now (s : State) (z : Fin 24) : (s.reportZone z).now = s.now := rfl
@[simp] theorem State.reportZone_freeIndex (s : State) (z : Fin 24) : (s.reportZone z).freeIndex = s.freeIndex := rfl
@[simp] theorem State.reportZone_dwellIndex (s : State) (z : Fin 24) : (s.reportZone z).dwellIndex = s.dwellIndex := rfl
@[simp] theorem State.reportZone_unsettled (s : State) (z : Fin 24) : (s.reportZone z).unsettled = s.unsettled := rfl
@[simp] theorem State.reportZone_pending (s : State) (z : Fin 24) : (s.reportZone z).pending = s.pending := rfl
@[simp] theorem State.reportZone_config (s : State) (z : Fin 24) : (s.reportZone z).config = s.config := rfl
@[simp] theorem State.reportZone_budget (s : State) (z : Fin 24) : (s.reportZone z).budget = s.budget := rfl
@[simp] theorem State.reportZone_zones (s : State) (z : Fin 24) : (s.reportZone z).zones = s.zones := rfl
@[simp] theorem State.reportZone_frameDeadline (s : State) (z : Fin 24) : (s.reportZone z).frameDeadline = s.frameDeadline := rfl
@[simp] theorem State.reportZone_cue (s : State) (z : Fin 24) : (s.reportZone z).cue = s.cue := rfl
@[simp] theorem State.reportZone_axes (s : State) (z : Fin 24) : (s.reportZone z).axes = s.axes := rfl
@[simp] theorem State.reportZone_sensors (s : State) (z : Fin 24) : (s.reportZone z).sensors = s.sensors := rfl
@[simp] theorem State.reportZone_gypsy (s : State) (z : Fin 24) : (s.reportZone z).gypsy = s.gypsy := rfl
@[simp] theorem State.reportZone_contexts (s : State) (z : Fin 24) : (s.reportZone z).contexts = s.contexts := rfl
@[simp] theorem State.reportZone_queues (s : State) (z : Fin 24) : (s.reportZone z).queues = s.queues := rfl
@[simp] theorem State.reportZone_inputs (s : State) (z : Fin 24) : (s.reportZone z).inputs = s.inputs := rfl
@[simp] theorem State.reportZone_vessel (s : State) (z : Fin 24) : (s.reportZone z).vessel = s.vessel := rfl
@[simp] theorem State.reportZone_permits (s : State) (z : Fin 24) : (s.reportZone z).permits = s.permits := rfl
@[simp] theorem State.reportZone_pump (s : State) (z : Fin 24) : (s.reportZone z).pump = s.pump := rfl
@[simp] theorem State.reportZone_chime (s : State) (z : Fin 24) : (s.reportZone z).chime = s.chime := rfl
@[simp] theorem State.reportZone_panels (s : State) (z : Fin 24) : (s.reportZone z).panels = s.panels := rfl
@[simp] theorem State.reportZone_runs (s : State) (z : Fin 24) : (s.reportZone z).runs = s.runs := rfl
@[simp] theorem State.reportZone_store (s : State) (z : Fin 24) : (s.reportZone z).store = s.store := rfl

/-! ## What a new notice queue leaves as it was -/

@[simp] theorem State.playNotices_now (s : State) (notices : List Notice) : (s.playNotices notices).now = s.now := rfl
@[simp] theorem State.playNotices_freeIndex (s : State) (notices : List Notice) : (s.playNotices notices).freeIndex = s.freeIndex := rfl
@[simp] theorem State.playNotices_dwellIndex (s : State) (notices : List Notice) : (s.playNotices notices).dwellIndex = s.dwellIndex := rfl
@[simp] theorem State.playNotices_unsettled (s : State) (notices : List Notice) : (s.playNotices notices).unsettled = s.unsettled := rfl
@[simp] theorem State.playNotices_pending (s : State) (notices : List Notice) : (s.playNotices notices).pending = s.pending := rfl
@[simp] theorem State.playNotices_config (s : State) (notices : List Notice) : (s.playNotices notices).config = s.config := rfl
@[simp] theorem State.playNotices_budget (s : State) (notices : List Notice) : (s.playNotices notices).budget = s.budget := rfl
@[simp] theorem State.playNotices_zones (s : State) (notices : List Notice) : (s.playNotices notices).zones = s.zones := rfl
@[simp] theorem State.playNotices_frameDeadline (s : State) (notices : List Notice) : (s.playNotices notices).frameDeadline = s.frameDeadline := rfl
@[simp] theorem State.playNotices_cue (s : State) (notices : List Notice) : (s.playNotices notices).cue = s.cue := rfl
@[simp] theorem State.playNotices_axes (s : State) (notices : List Notice) : (s.playNotices notices).axes = s.axes := rfl
@[simp] theorem State.playNotices_sensors (s : State) (notices : List Notice) : (s.playNotices notices).sensors = s.sensors := rfl
@[simp] theorem State.playNotices_gypsy (s : State) (notices : List Notice) : (s.playNotices notices).gypsy = s.gypsy := rfl
@[simp] theorem State.playNotices_contexts (s : State) (notices : List Notice) : (s.playNotices notices).contexts = s.contexts := rfl
@[simp] theorem State.playNotices_queues (s : State) (notices : List Notice) : (s.playNotices notices).queues = s.queues := rfl
@[simp] theorem State.playNotices_inputs (s : State) (notices : List Notice) : (s.playNotices notices).inputs = s.inputs := rfl
@[simp] theorem State.playNotices_vessel (s : State) (notices : List Notice) : (s.playNotices notices).vessel = s.vessel := rfl
@[simp] theorem State.playNotices_permits (s : State) (notices : List Notice) : (s.playNotices notices).permits = s.permits := rfl
@[simp] theorem State.playNotices_pump (s : State) (notices : List Notice) : (s.playNotices notices).pump = s.pump := rfl
@[simp] theorem State.playNotices_panels (s : State) (notices : List Notice) : (s.playNotices notices).panels = s.panels := rfl
@[simp] theorem State.playNotices_runs (s : State) (notices : List Notice) : (s.playNotices notices).runs = s.runs := rfl
@[simp] theorem State.playNotices_link (s : State) (notices : List Notice) : (s.playNotices notices).link = s.link := rfl
@[simp] theorem State.playNotices_store (s : State) (notices : List Notice) : (s.playNotices notices).store = s.store := rfl

/-! ## What a tick leaves as it was -/

@[simp] theorem State.tick_freeIndex (s : State) : s.tick.freeIndex = s.freeIndex := rfl
@[simp] theorem State.tick_dwellIndex (s : State) : s.tick.dwellIndex = s.dwellIndex := rfl
@[simp] theorem State.tick_unsettled (s : State) : s.tick.unsettled = s.unsettled := rfl
@[simp] theorem State.tick_pending (s : State) : s.tick.pending = s.pending := rfl
@[simp] theorem State.tick_config (s : State) : s.tick.config = s.config := rfl
@[simp] theorem State.tick_budget (s : State) : s.tick.budget = s.budget := rfl
@[simp] theorem State.tick_zones (s : State) : s.tick.zones = s.zones := rfl
@[simp] theorem State.tick_frameDeadline (s : State) : s.tick.frameDeadline = s.frameDeadline := rfl
@[simp] theorem State.tick_cue (s : State) : s.tick.cue = s.cue := rfl
@[simp] theorem State.tick_axes (s : State) : s.tick.axes = s.axes := rfl
@[simp] theorem State.tick_sensors (s : State) : s.tick.sensors = s.sensors := rfl
@[simp] theorem State.tick_gypsy (s : State) : s.tick.gypsy = s.gypsy := rfl
@[simp] theorem State.tick_contexts (s : State) : s.tick.contexts = s.contexts := rfl
@[simp] theorem State.tick_queues (s : State) : s.tick.queues = s.queues := rfl
@[simp] theorem State.tick_inputs (s : State) : s.tick.inputs = s.inputs := rfl
@[simp] theorem State.tick_vessel (s : State) : s.tick.vessel = s.vessel := rfl
@[simp] theorem State.tick_permits (s : State) : s.tick.permits = s.permits := rfl
@[simp] theorem State.tick_pump (s : State) : s.tick.pump = s.pump := rfl
@[simp] theorem State.tick_chime (s : State) : s.tick.chime = s.chime := rfl
@[simp] theorem State.tick_panels (s : State) : s.tick.panels = s.panels := rfl
@[simp] theorem State.tick_runs (s : State) : s.tick.runs = s.runs := rfl
@[simp] theorem State.tick_link (s : State) : s.tick.link = s.link := rfl
@[simp] theorem State.tick_store (s : State) : s.tick.store = s.store := rfl

end Sys2Proof.Machine
end

