-- ==== Sys2Proof/Laws/Fixed.lean ====
section
/-! SUPPORT. What the signals between the blocks never change: `State.still` through every handler and through a run of
signals; `State.fixed` follows, and holds through replies and the transmitter's choice too. -/

namespace Sys2Proof.Machine

/-- What no signal changes: what `State.fixed` keeps, and the Link Interface but for its report queue. -/
def State.still (s : State) : State := { s.fixed with link := { s.link with reports := [] } }

/-- States that agree on `State.still` agree on `State.fixed`. -/
theorem State.fixed_of_still {s t : State} (h : t.still = s.still) : t.fixed = s.fixed := by
  have h1 : t.fixed = { t.still with link := { t.still.link with
      replies := [], sending := none, reports := [], reportNumber := 0 } } := rfl
  have h2 : s.fixed = { s.still with link := { s.still.link with
      replies := [], sending := none, reports := [], reportNumber := 0 } } := rfl
  rw [h1, h2, h]

/-- States that agree on `State.still` agree on the Link Interface but for its report queue. -/
theorem State.link_of_still {s t : State} (h : t.still = s.still) :
    { t.link with reports := [] } = { s.link with reports := [] } :=
  congrArg (fun x : State => x.link) h

/-- States that agree on `State.still` have the same frames on their way to the host. -/
theorem State.outgoing_of_still {s t : State} (h : t.still = s.still) : t.outgoing = s.outgoing := by
  have h1 := congrArg (fun l : Link => l.sending) (State.link_of_still h)
  have h2 := congrArg (fun l : Link => l.replies) (State.link_of_still h)
  simp only at h1 h2
  simp only [State.outgoing, h1, h2]

/-! ## The updates -/

@[simp] theorem State.onAxis_still (s : State) (a : Axis) (f : AxisRecord → AxisRecord) :
    (s.onAxis a f).still = s.still := rfl
@[simp] theorem State.onZone_still (s : State) (z : Fin 24) (f : Zone → Zone) : (s.onZone z f).still = s.still := rfl
@[simp] theorem State.onContext_still (s : State) (c : Fin 16) (f : Context → Context) :
    (s.onContext c f).still = s.still := rfl
@[simp] theorem State.onSlot_still (s : State) (k : Fin 52) (f : Slot → Slot) : (s.onSlot k f).still = s.still := rfl
@[simp] theorem State.post_still (s : State) (key : ReportKey) (content : List Byte) :
    (s.post key content).still = s.still := rfl
@[simp] theorem State.reportAxis_still (s : State) (a : Axis) : (s.reportAxis a).still = s.still := rfl
@[simp] theorem State.reportZone_still (s : State) (z : Fin 24) : (s.reportZone z).still = s.still := rfl
@[simp] theorem State.withPumpRun_still (s : State) : s.withPumpRun.still = s.still := rfl
@[simp] theorem State.withPump_still (s : State) (o w : Option Hydraulic) : (s.withPump o w).still = s.still := rfl
@[simp] theorem State.withDemand_still (s : State) (k : Fin 52) (d : Nat) : (s.withDemand k d).still = s.still := rfl
@[simp] theorem State.moveTo_still (s : State) (a : Axis) (new : AxisState) : (s.moveTo a new).still = s.still := rfl
@[simp] theorem State.enterHold_still (s : State) (a : Axis) : (s.enterHold a).still = s.still := rfl
@[simp] theorem State.enterStopping_still (s : State) (a : Axis) : (s.enterStopping a).still = s.still := rfl
@[simp] theorem State.enterIdle_still (s : State) (a : Axis) : (s.enterIdle a).still = s.still := rfl
@[simp] theorem State.playNotices_still (s : State) (n : List Notice) : (s.playNotices n).still = s.still := rfl

@[simp] theorem State.afterPass_still (s : State) : s.afterPass.still = s.still := by
  simp only [State.afterPass, State.still, State.fixed]

@[simp] theorem State.enterFault_still (s : State) (a : Axis) (k : FaultKind) : (s.enterFault a k).still = s.still := rfl

@[simp] theorem State.driveOn_still (s : State) (a : Axis) : (s.driveOn a).still = s.still := by
  unfold State.driveOn; split <;> rfl

@[simp] theorem State.takeStep_still (s : State) (a : Axis) : (s.takeStep a).still = s.still := by
  unfold State.takeStep
  split
  · rfl
  · split
    · rfl
    · split <;> rfl

@[simp] theorem State.travelReport_still (s : State) (a : Axis) : (s.travelReport a).still = s.still := by
  unfold State.travelReport
  split
  · split <;> rfl
  · rfl

@[simp] theorem State.activateHead_still (s : State) (a : Axis) : (s.activateHead a).still = s.still := by
  unfold State.activateHead
  split
  · split <;> rfl
  · rfl

@[simp] theorem State.release_still (s : State) (c : Fin 16) (a : Axis) : (s.release c a).still = s.still := rfl
@[simp] theorem State.bind_still (s : State) (c : Fin 16) (o : Owner) (a : Axis) : (s.bind c o a).still = s.still := rfl
@[simp] theorem State.makeRun_still (s : State) (a : Axis) (c : Fin 16) (p : Fin 12) (t : Nat) :
    (s.makeRun a c p t).still = s.still := rfl
@[simp] theorem State.stopNotice_still (s : State) : s.stopNotice.still = s.still := rfl

@[simp] theorem State.joinNotice_still (s : State) (n : Notice) : (s.joinNotice n).still = s.still := by
  unfold State.joinNotice; split <;> rfl

@[simp] theorem State.denyTone_still (s : State) (z : Fin 24) : (s.denyTone z).still = s.still := by
  unfold State.denyTone; split
  · simp
  · rfl

@[simp] theorem reportZoneChange_still (z : Fin 24) (before : Zone) (s : State) :
    (reportZoneChange z before s).still = s.still := by
  unfold reportZoneChange; split <;> simp

@[simp] theorem reportFault_still (a : Axis) (k : FaultKind) (p : Option Int) (s : State) :
    (reportFault a k p s).still = s.still := by
  unfold reportFault; split <;> simp

@[simp] theorem enterMoving_still (a : Axis) (s : State) : (enterMoving a s).still = s.still := by
  simp [enterMoving]

@[simp] theorem State.startDwell_still (s : State) (a : Axis) : (s.startDwell a).still = s.still := rfl

@[simp] theorem State.countDwell_still (s : State) : s.countDwell.still = s.still := rfl

@[simp] theorem enterDwell_still (a : Axis) (s : State) : (enterDwell a s).1.still = s.still := by
  unfold enterDwell
  simp only
  split
  · simp
  · split <;> simp

@[simp] theorem enterPreparing_still (a : Axis) (s : State) : (enterPreparing a s).1.still = s.still := by
  unfold enterPreparing
  simp only
  split <;> split <;> simp

@[simp] theorem addHold_still (a : Axis) (r : HoldReason) (s : State) : (addHold a r s).still = s.still := by
  unfold addHold
  simp only
  split
  · split <;> simp
  · rfl

@[simp] theorem changeZone_still (l : Bool) (z : Fin 24) (f : Zone → Zone) (s : State) :
    (changeZone l z f s).1.still = s.still := rfl

@[simp] theorem recallScene_still (z : Fin 24) (n : Fin 32) (s : State) : (recallScene z n s).1.still = s.still := by
  unfold recallScene; simp only; split <;> simp

@[simp] theorem admitStep_still (c : Fin 16) (t : Step) (s : State) : (admitStep c t s).1.still = s.still := by
  unfold admitStep
  simp only
  split
  · simp
  · split <;> simp

@[simp] theorem endAxis_still (a : Axis) (s : State) : (endAxis a s).1.still = s.still := by
  unfold endAxis
  simp only
  split <;> try simp
  split <;> simp

@[simp] theorem endStop_still (a : Axis) (s : State) : (endStop a s).1.still = s.still := by
  unfold endStop
  simp only
  split
  · simp
  · split
    · simp
    · split <;> simp

/-! ## The handlers -/

@[simp] theorem deliverTo_still (k : Fin 52) (g : Nat) (s : State) : (deliverTo k g s).1.still = s.still := by
  unfold deliverTo
  split
  · exact reportZoneChange_still _ _ _
  · exact reportZoneChange_still _ _ _
  · split
    · unfold deliverPump
      simp only
      split
      · rfl
      · split
        · rfl
        · split <;> rfl
    · split
      · unfold deliverWindlass
        simp only
        split
        · rfl
        · split <;> rfl
      · rfl

@[simp] theorem reportBudget_still (content : List Byte) (copy : PostedCopy) (s : State) :
    (reportBudget content copy s).still = s.still := by
  unfold reportBudget; split <;> rfl

@[simp] theorem sendOn_still (item : Outgoing) (s : State) : (sendOn item s).1.still = s.still := by
  cases item <;> simp [sendOn]

@[simp] theorem takeUp_still (a : Axis) (s : State) : (takeUp a s).1.still = s.still := by
  unfold takeUp
  split
  · split <;> simp
  · simp

@[simp] theorem endEntry_still (a : Axis) (s : State) : (endEntry a s).1.still = s.still := by
  unfold endEntry; split <;> simp

@[simp] theorem testGates_still (a : Axis) (s : State) : (testGates a s).1.still = s.still := by
  unfold testGates
  simp only
  split
  · split
    · split <;> simp
    · simp
  · simp

@[simp] theorem nextStep_still (a : Axis) (c : Fin 16) (s : State) : (nextStep a c s).1.still = s.still := by
  unfold nextStep
  simp only
  split
  · simp
  · split
    · simp
    · split
      · first | rfl | simp
      · (repeat' split) <;> simp

@[simp] theorem endDwell_still (a : Axis) (s : State) : (endDwell a s).1.still = s.still := by
  unfold endDwell
  simp only
  split
  · split
    · simp
    · simp
    · split <;> simp
  · simp

@[simp] theorem removeHold_still (a : Axis) (r : HoldReason) (s : State) : (removeHold a r s).1.still = s.still := by
  unfold removeHold
  simp only
  split
  · split
    · split <;> simp
    · simp
  · simp

@[simp] theorem travelled_still (a : Axis) (p : Option Int) (s : State) : (travelled a p s).1.still = s.still := by
  unfold travelled
  simp only
  split
  · split
    · simp
    · split <;> simp
  · simp

@[simp] theorem faultHead_still (a : Axis) (e : Bool) (s : State) : (faultHead a e s).1.still = s.still := by
  unfold faultHead
  split
  · simp
  · split
    · simp
    · split <;> simp

@[simp] theorem fault_still (a : Axis) (k : FaultKind) (s : State) : (fault a k s).1.still = s.still := by
  unfold fault
  simp only
  split
  · simp
  · split <;> simp

@[simp] theorem endProgram_still (c : Fin 16) (e : EndStatus) (s : State) : (endProgram c e s).1.still = s.still := by
  unfold endProgram
  split
  · simp
  · simp only
    split <;> simp

@[simp] theorem freeContext_still (c : Fin 16) (e : EndStatus) (s : State) : (freeContext c e s).1.still = s.still := by
  unfold freeContext
  split
  · simp
  · simp only
    split <;> simp

@[simp] theorem deliverPermit_still (a : Axis) (d : Direction) (v : Bool) (s : State) :
    (deliverPermit a d v s).1.still = s.still := by
  unfold deliverPermit
  simp only
  split
  · split <;> simp
  · simp

@[simp] theorem requestPump_still (h : Hydraulic) (s : State) : (requestPump h s).1.still = s.still := by
  unfold requestPump
  split
  · simp
  · split
    · simp
    · split <;> simp

@[simp] theorem releasePump_still (h : Hydraulic) (s : State) : (releasePump h s).1.still = s.still := by
  unfold releasePump
  split
  · simp
  · split
    · simp
    · split <;> simp

@[simp] theorem handOver_still (s : State) : (handOver s).1.still = s.still := by
  unfold handOver; split <;> simp

@[simp] theorem cueFrame_still (s : State) : (cueFrame s).1.still = s.still := by
  unfold cueFrame
  split
  · rfl
  · simp only
    split
    · rfl
    · split
      · rfl
      · split <;> rfl

@[simp] theorem zoneAction_still (z : Fin 24) (b : Binding) (s : State) : (zoneAction z b s).1.still = s.still := by
  unfold zoneAction
  split <;> try rfl
  split <;> simp

@[simp] theorem startPanel_still (c : Fin 16) (p : Fin 12) (a : Axis) (x y : Int) (s : State) :
    (startPanel c p a x y s).1.still = s.still := by
  simp [startPanel]

@[simp] theorem dispatchGoto_still (p : Fin 12) (t : Nat) (b : Binding) (s : State) :
    (dispatchGoto p t b s).1.still = s.still := by
  unfold dispatchGoto
  simp only
  split
  · simp
  · split
    · simp
    · split
      · simp
      · simp
      · split <;> simp

@[simp] theorem dispatchZone_still (p : Fin 12) (t : Nat) (b : Binding) (s : State) :
    (dispatchZone p t b s).1.still = s.still := by
  unfold dispatchZone
  simp only
  split <;> simp

@[simp] theorem dispatchAck_still (p : Fin 12) (t : Nat) (s : State) : (dispatchAck p t s).1.still = s.still := by
  unfold dispatchAck
  simp only
  split <;> simp

@[simp] theorem dispatchReport_still (p : Fin 12) (t : Nat) (s : State) : (dispatchReport p t s).1.still = s.still := rfl

@[simp] theorem press_still (p : Fin 12) (t : Nat) (s : State) : (press p t s).1.still = s.still := by
  unfold press
  split
  · unfold resumePress
    simp only
    split <;> rfl
  · simp only
    split <;> simp

@[simp] theorem release_still (p : Fin 12) (t : Nat) (s : State) : (release p t s).1.still = s.still := by
  unfold release; split <;> rfl

@[simp] theorem actionResult_still (p : Fin 12) (r : ActionResult) (c : List Byte) (s : State) :
    (actionResult p r c s).still = s.still := by
  unfold actionResult
  simp only
  split <;> simp

/-- No signal changes what `State.still` keeps. -/
@[simp] theorem handle_still (signal : Signal) (s : State) : (handle signal s).1.still = s.still := by
  cases signal <;> simp only [handle] <;> try simp
  · unfold postDemand; split <;> simp
  · rfl
  · rfl
  · rfl
  · rfl

/-! ## Runs of signals -/

/-- A turn changes nothing that `State.still` keeps. -/
theorem turn_still (sent : List Outgoing) (signal : Signal) (rest : List Signal) (s : State) :
    (turn sent signal rest s).2.2.still = s.still := by
  unfold turn
  split
  · rfl
  · exact sendOn_still _ _
  · exact handle_still _ _

/-- A run of signals changes nothing that `State.still` keeps. -/
@[simp] theorem run_still (n : Nat) (sent : List Outgoing) (l : List Signal) (s : State) :
    (run n sent l s).still = s.still := by
  induction n generalizing sent l s with
  | zero => cases l <;> rfl
  | succ n ih =>
    cases l with
    | nil => rfl
    | cons x rest => exact (ih _ _ _).trans (turn_still _ _ _ _)

@[simp] theorem settle_still (h : Handled) : (settle h).still = h.1.still := run_still _ _ _ _

@[simp] theorem State.send_still (s : State) (x : Signal) : (s.send x).still = s.still := settle_still _

@[simp] theorem settle_fixed (h : Handled) : (settle h).fixed = h.1.fixed := State.fixed_of_still (settle_still h)

@[simp] theorem State.send_fixed (s : State) (x : Signal) : (s.send x).fixed = s.fixed :=
  State.fixed_of_still (State.send_still s x)

@[simp] theorem settle_outgoing (h : Handled) : (settle h).outgoing = h.1.outgoing :=
  State.outgoing_of_still (settle_still h)

@[simp] theorem State.send_outgoing (s : State) (x : Signal) : (s.send x).outgoing = s.outgoing :=
  State.outgoing_of_still (State.send_still s x)

@[simp] theorem State.reply_fixed (s : State) (kind tag : Byte) (result : Result) (fields : List Byte) :
    (s.reply kind tag result fields).fixed = s.fixed := rfl

@[simp] theorem State.kick_fixed (s : State) : s.kick.fixed = s.fixed := by
  unfold State.kick
  split
  · rfl
  · rfl
  · split
    · rfl
    · split
      · rfl
      · rfl

/-! ## The fields that `State.fixed` keeps -/

/-- States that agree on `State.fixed` agree on each field that it keeps. -/
theorem State.fixed_fields {s t : State} (h : t.fixed = s.fixed) :
    t.now = s.now ∧ t.freeIndex = s.freeIndex ∧ t.pending = s.pending ∧ t.config = s.config
      ∧ t.budget.history = s.budget.history ∧ t.budget.mode = s.budget.mode
      ∧ t.budget.meterDeadline = s.budget.meterDeadline ∧ t.frameDeadline = s.frameDeadline ∧ t.sensors = s.sensors
      ∧ t.gypsy.count = s.gypsy.count ∧ t.inputs = s.inputs ∧ t.vessel = s.vessel ∧ t.panels = s.panels
      ∧ t.link.base = s.link.base ∧ t.store = s.store := by
  simpa only [State.fixed, State.mk.injEq, Budget.mk.injEq, Gypsy.mk.injEq, true_and, and_true, and_assoc] using h

end Sys2Proof.Machine
end

