-- ==== Sys2Proof/Laws/Looks.lean ====
section
/-! SUPPORT. The zones and the staged cue: most signals leave both alone, and every signal but those of the output frame and
of a panel press leaves the looks of the zones and the staged cue. -/

namespace Sys2Proof.Machine

/-- The zones and the Cue Unit. -/
def State.indoor (s : State) : Vector Zone 24 × Cue := (s.zones, s.cue)

/-- The looks of the zones and the Cue Unit. -/
def State.aspect (s : State) : Vector Zone 24 × Cue := (s.looks, s.cue)

/-- States that agree on `State.indoor` agree on `State.aspect`. -/
theorem State.aspect_of_indoor {s t : State} (h : t.indoor = s.indoor) : t.aspect = s.aspect := by
  have h1 : t.zones = s.zones := congrArg Prod.fst h
  have h2 : t.cue = s.cue := congrArg Prod.snd h
  simp only [State.aspect, State.looks, h1, h2]

/-! ## The updates -/

@[simp] theorem State.onAxis_indoor (s : State) (a : Axis) (f : AxisRecord → AxisRecord) :
    (s.onAxis a f).indoor = s.indoor := rfl
@[simp] theorem State.onContext_indoor (s : State) (c : Fin 16) (f : Context → Context) :
    (s.onContext c f).indoor = s.indoor := rfl
@[simp] theorem State.onSlot_indoor (s : State) (k : Fin 52) (f : Slot → Slot) : (s.onSlot k f).indoor = s.indoor := rfl
@[simp] theorem State.post_indoor (s : State) (key : ReportKey) (content : List Byte) :
    (s.post key content).indoor = s.indoor := rfl
@[simp] theorem State.reportAxis_indoor (s : State) (a : Axis) : (s.reportAxis a).indoor = s.indoor := rfl
@[simp] theorem State.reportZone_indoor (s : State) (z : Fin 24) : (s.reportZone z).indoor = s.indoor := rfl
@[simp] theorem State.withPumpRun_indoor (s : State) : s.withPumpRun.indoor = s.indoor := rfl
@[simp] theorem State.withPump_indoor (s : State) (o w : Option Hydraulic) : (s.withPump o w).indoor = s.indoor := rfl
@[simp] theorem State.withDemand_indoor (s : State) (k : Fin 52) (d : Nat) : (s.withDemand k d).indoor = s.indoor := rfl
@[simp] theorem State.moveTo_indoor (s : State) (a : Axis) (new : AxisState) : (s.moveTo a new).indoor = s.indoor := rfl
@[simp] theorem State.enterHold_indoor (s : State) (a : Axis) : (s.enterHold a).indoor = s.indoor := rfl
@[simp] theorem State.enterStopping_indoor (s : State) (a : Axis) : (s.enterStopping a).indoor = s.indoor := rfl
@[simp] theorem State.enterIdle_indoor (s : State) (a : Axis) : (s.enterIdle a).indoor = s.indoor := rfl
@[simp] theorem State.playNotices_indoor (s : State) (n : List Notice) : (s.playNotices n).indoor = s.indoor := rfl
@[simp] theorem State.afterPass_indoor (s : State) : s.afterPass.indoor = s.indoor := by
  simp only [State.afterPass, State.indoor]

@[simp] theorem State.enterFault_indoor (s : State) (a : Axis) (k : FaultKind) : (s.enterFault a k).indoor = s.indoor := rfl
@[simp] theorem State.driveOn_indoor (s : State) (a : Axis) : (s.driveOn a).indoor = s.indoor := by
  unfold State.driveOn; split <;> rfl

@[simp] theorem State.takeStep_indoor (s : State) (a : Axis) : (s.takeStep a).indoor = s.indoor := by
  unfold State.takeStep
  split
  · rfl
  · split
    · rfl
    · split <;> rfl

@[simp] theorem State.travelReport_indoor (s : State) (a : Axis) : (s.travelReport a).indoor = s.indoor := by
  unfold State.travelReport
  split
  · split <;> rfl
  · rfl

@[simp] theorem State.activateHead_indoor (s : State) (a : Axis) : (s.activateHead a).indoor = s.indoor := by
  unfold State.activateHead
  split
  · split <;> rfl
  · rfl

@[simp] theorem State.release_indoor (s : State) (c : Fin 16) (a : Axis) : (s.release c a).indoor = s.indoor := rfl
@[simp] theorem State.bind_indoor (s : State) (c : Fin 16) (o : Owner) (a : Axis) : (s.bind c o a).indoor = s.indoor := rfl
@[simp] theorem State.makeRun_indoor (s : State) (a : Axis) (c : Fin 16) (p : Fin 12) (t : Nat) :
    (s.makeRun a c p t).indoor = s.indoor := rfl
@[simp] theorem State.stopNotice_indoor (s : State) : s.stopNotice.indoor = s.indoor := rfl
@[simp] theorem State.joinNotice_indoor (s : State) (n : Notice) : (s.joinNotice n).indoor = s.indoor := by
  unfold State.joinNotice; split <;> rfl

@[simp] theorem State.denyTone_indoor (s : State) (z : Fin 24) : (s.denyTone z).indoor = s.indoor := by
  unfold State.denyTone; split
  · simp
  · rfl

@[simp] theorem reportZoneChange_indoor (z : Fin 24) (before : Zone) (s : State) :
    (reportZoneChange z before s).indoor = s.indoor := by
  unfold reportZoneChange; split <;> simp

@[simp] theorem reportFault_indoor (a : Axis) (k : FaultKind) (p : Option Int) (s : State) :
    (reportFault a k p s).indoor = s.indoor := by
  unfold reportFault; split <;> simp

@[simp] theorem enterMoving_indoor (a : Axis) (s : State) : (enterMoving a s).indoor = s.indoor := by
  simp [enterMoving]

@[simp] theorem State.startDwell_indoor (s : State) (a : Axis) : (s.startDwell a).indoor = s.indoor := rfl

@[simp] theorem State.countDwell_indoor (s : State) : s.countDwell.indoor = s.indoor := rfl

@[simp] theorem enterDwell_indoor (a : Axis) (s : State) : (enterDwell a s).1.indoor = s.indoor := by
  unfold enterDwell
  simp only
  split
  · simp
  · split <;> simp

@[simp] theorem enterPreparing_indoor (a : Axis) (s : State) : (enterPreparing a s).1.indoor = s.indoor := by
  unfold enterPreparing
  simp only
  split <;> split <;> simp

@[simp] theorem addHold_indoor (a : Axis) (r : HoldReason) (s : State) : (addHold a r s).indoor = s.indoor := by
  unfold addHold
  simp only
  split
  · split <;> simp
  · rfl

@[simp] theorem admitStep_indoor (c : Fin 16) (t : Step) (s : State) : (admitStep c t s).1.indoor = s.indoor := by
  unfold admitStep
  simp only
  split
  · simp
  · split <;> simp

@[simp] theorem endAxis_indoor (a : Axis) (s : State) : (endAxis a s).1.indoor = s.indoor := by
  unfold endAxis
  simp only
  split <;> try simp
  split <;> simp

@[simp] theorem endStop_indoor (a : Axis) (s : State) : (endStop a s).1.indoor = s.indoor := by
  unfold endStop
  simp only
  split
  · simp
  · split
    · simp
    · split <;> simp

/-! ## The handlers -/

@[simp] theorem takeUp_indoor (a : Axis) (s : State) : (takeUp a s).1.indoor = s.indoor := by
  unfold takeUp
  split
  · split <;> simp
  · simp

@[simp] theorem endEntry_indoor (a : Axis) (s : State) : (endEntry a s).1.indoor = s.indoor := by
  unfold endEntry; split <;> simp

@[simp] theorem testGates_indoor (a : Axis) (s : State) : (testGates a s).1.indoor = s.indoor := by
  unfold testGates
  simp only
  split
  · split
    · split <;> simp
    · simp
  · simp

@[simp] theorem nextStep_indoor (a : Axis) (c : Fin 16) (s : State) : (nextStep a c s).1.indoor = s.indoor := by
  unfold nextStep
  simp only
  split
  · simp
  · split
    · simp
    · split
      · first | rfl | simp
      · (repeat' split) <;> simp

@[simp] theorem endDwell_indoor (a : Axis) (s : State) : (endDwell a s).1.indoor = s.indoor := by
  unfold endDwell
  simp only
  split
  · split
    · simp
    · simp
    · split <;> simp
  · simp

@[simp] theorem removeHold_indoor (a : Axis) (r : HoldReason) (s : State) : (removeHold a r s).1.indoor = s.indoor := by
  unfold removeHold
  simp only
  split
  · split
    · split <;> simp
    · simp
  · simp

@[simp] theorem travelled_indoor (a : Axis) (p : Option Int) (s : State) : (travelled a p s).1.indoor = s.indoor := by
  unfold travelled
  simp only
  split
  · split
    · simp
    · split <;> simp
  · simp

@[simp] theorem faultHead_indoor (a : Axis) (e : Bool) (s : State) : (faultHead a e s).1.indoor = s.indoor := by
  unfold faultHead
  split
  · simp
  · split
    · simp
    · split <;> simp

@[simp] theorem fault_indoor (a : Axis) (k : FaultKind) (s : State) : (fault a k s).1.indoor = s.indoor := by
  unfold fault
  simp only
  split
  · simp
  · split <;> simp

@[simp] theorem endProgram_indoor (c : Fin 16) (e : EndStatus) (s : State) : (endProgram c e s).1.indoor = s.indoor := by
  unfold endProgram
  split
  · simp
  · simp only
    split <;> simp

@[simp] theorem freeContext_indoor (c : Fin 16) (e : EndStatus) (s : State) : (freeContext c e s).1.indoor = s.indoor := by
  unfold freeContext
  split
  · simp
  · simp only
    split <;> simp

@[simp] theorem deliverPermit_indoor (a : Axis) (d : Direction) (v : Bool) (s : State) :
    (deliverPermit a d v s).1.indoor = s.indoor := by
  unfold deliverPermit
  simp only
  split
  · split <;> simp
  · simp

@[simp] theorem requestPump_indoor (h : Hydraulic) (s : State) : (requestPump h s).1.indoor = s.indoor := by
  unfold requestPump
  split
  · simp
  · split
    · simp
    · split <;> simp

@[simp] theorem releasePump_indoor (h : Hydraulic) (s : State) : (releasePump h s).1.indoor = s.indoor := by
  unfold releasePump
  split
  · simp
  · split
    · simp
    · split <;> simp

@[simp] theorem handOver_indoor (s : State) : (handOver s).1.indoor = s.indoor := by
  unfold handOver; split <;> simp

@[simp] theorem startPanel_indoor (c : Fin 16) (p : Fin 12) (a : Axis) (x y : Int) (s : State) :
    (startPanel c p a x y s).1.indoor = s.indoor := by
  simp [startPanel]

@[simp] theorem dispatchGoto_indoor (p : Fin 12) (t : Nat) (b : Binding) (s : State) :
    (dispatchGoto p t b s).1.indoor = s.indoor := by
  unfold dispatchGoto
  simp only
  split
  · simp
  · split
    · simp
    · split
      · simp
      · simp
      · split <;> simp

@[simp] theorem dispatchAck_indoor (p : Fin 12) (t : Nat) (s : State) : (dispatchAck p t s).1.indoor = s.indoor := by
  unfold dispatchAck
  simp only
  split <;> simp

@[simp] theorem dispatchReport_indoor (p : Fin 12) (t : Nat) (s : State) : (dispatchReport p t s).1.indoor = s.indoor := rfl
@[simp] theorem release_indoor (p : Fin 12) (t : Nat) (s : State) : (release p t s).1.indoor = s.indoor := by
  unfold release; split <;> rfl

@[simp] theorem actionResult_indoor (p : Fin 12) (r : ActionResult) (c : List Byte) (s : State) :
    (actionResult p r c s).indoor = s.indoor := by
  unfold actionResult
  simp only
  split <;> simp

/-! ## The handlers that touch a zone -/

/-- A zone replaced by one of the same look leaves the looks. -/
theorem State.onZone_looks (s : State) (z : Fin 24) (f : Zone → Zone) (h : (f s.zones[z]).look = s.zones[z].look) :
    (s.onZone z f).looks = s.looks := by
  apply Vector.ext
  intro i hi
  simp only [State.looks, State.onZone, Vector.getElem_map, Fin.getElem_fin, Vector.getElem_set]
  split
  · next e => subst e; simpa using h
  · rfl

/-- Outputs follow without a change of look. -/
@[simp] theorem Zone.rescale_look (z : Zone) : z.rescale.look = z.look := by
  simp only [Zone.rescale, Zone.look, Zone.onChannels, Zone.mk.injEq, true_and, and_true]
  apply Vector.ext
  intro i hi
  simp

/-- The running stage follows without a change of look. -/
@[simp] theorem Zone.rerun_look (c : ZoneConfig) (z : Zone) : (z.rerun c).look = z.look := rfl

/-- The climate is worked out without a change of look. -/
@[simp] theorem Zone.workOut_look (c : ZoneConfig) (z : Zone) : (z.workOut c).look = z.look := by
  unfold Zone.workOut
  simp only
  split <;> rfl

@[simp] theorem lightDemand_aspect (z : Fin 24) (s : State) : (lightDemand z s).1.aspect = s.aspect := by
  simp only [lightDemand, State.aspect, Prod.mk.injEq]
  exact ⟨State.onZone_looks _ _ _ (by simp only [Zone.rescale_look]; rfl), rfl⟩

@[simp] theorem climateWork_aspect (z : Fin 24) (s : State) : (climateWork z s).1.aspect = s.aspect := by
  simp only [climateWork, State.aspect, Prod.mk.injEq]
  exact ⟨State.onZone_looks _ _ _ (Zone.workOut_look _ _), rfl⟩

@[simp] theorem deliverLight_aspect (z : Fin 24) (g : Nat) (s : State) : (deliverLight z g s).aspect = s.aspect := by
  unfold deliverLight
  rw [State.aspect_of_indoor (reportZoneChange_indoor _ _ _)]
  simp only [State.aspect, Prod.mk.injEq]
  exact ⟨State.onZone_looks _ _ _ (by simp only [Zone.rescale_look]; rfl), rfl⟩

@[simp] theorem deliverClimate_aspect (z : Fin 24) (g : Nat) (s : State) : (deliverClimate z g s).aspect = s.aspect := by
  unfold deliverClimate
  rw [State.aspect_of_indoor (reportZoneChange_indoor _ _ _)]
  simp only [State.aspect, Prod.mk.injEq]
  exact ⟨State.onZone_looks _ _ _ rfl, rfl⟩

@[simp] theorem deliverPump_indoor (g : Nat) (s : State) : (deliverPump g s).1.indoor = s.indoor := by
  unfold deliverPump
  simp only
  split
  · rfl
  · split
    · rfl
    · split <;> rfl

@[simp] theorem deliverWindlass_indoor (g : Nat) (s : State) : (deliverWindlass g s).1.indoor = s.indoor := by
  unfold deliverWindlass
  simp only
  split
  · rfl
  · split <;> rfl

@[simp] theorem reportBudget_aspect (content : List Byte) (copy : PostedCopy) (s : State) :
    (reportBudget content copy s).aspect = s.aspect := by
  unfold reportBudget; split <;> rfl

@[simp] theorem sendOn_aspect (item : Outgoing) (s : State) : (sendOn item s).1.aspect = s.aspect := by
  cases item with
  | report content copy => exact reportBudget_aspect _ _ _
  | grant k g =>
    simp only [sendOn]
    unfold deliverTo
    split
    · exact deliverLight_aspect _ _ _
    · exact deliverClimate_aspect _ _ _
    · split
      · exact State.aspect_of_indoor (deliverPump_indoor _ _)
      · split
        · exact State.aspect_of_indoor (deliverWindlass_indoor _ _)
        · rfl

/-! ## Signals that leave the looks and the cue -/

/-- The signals of the output frame and of a panel press act on the zones or on the cue; no other signal sends one. -/
def Signal.calm : Signal → Bool
  | .cueFrame => false
  | .cueApplied _ _ _ => false
  | .press _ _ => false
  | .post _ _ => true
  | .pass => true
  | .passEnd => true
  | .lightDemand _ => true
  | .climateWork _ => true
  | .reportZone _ _ => true
  | .takeUp _ => true
  | .endEntry _ => true
  | .testGates _ => true
  | .endDwell _ => true
  | .addHold _ _ => true
  | .removeHold _ _ => true
  | .travelled _ _ => true
  | .fault _ _ => true
  | .reportFault _ _ _ => true
  | .reportAxis _ => true
  | .endProgram _ _ => true
  | .freeContext _ _ => true
  | .evaluatePermits => true
  | .deliverPermit _ _ _ => true
  | .requestPump _ => true
  | .releasePump _ => true
  | .handOver => true
  | .release _ _ => true
  | .actionResult _ _ _ => true

/-- A calm signal leaves the looks of the zones and the cue. -/
theorem handle_aspect (x : Signal) (h : x.calm = true) (s : State) : (handle x s).1.aspect = s.aspect := by
  cases x with
  | cueFrame => cases h
  | cueApplied m n l => cases h
  | press p t => cases h
  | lightDemand z => exact lightDemand_aspect _ _
  | climateWork z => exact climateWork_aspect _ _
  | post k d => simp only [handle]; unfold postDemand; split <;> rfl
  | pass => exact State.aspect_of_indoor (State.afterPass_indoor s)
  | passEnd => rfl
  | reportZone z b => exact State.aspect_of_indoor (reportZoneChange_indoor _ _ _)
  | takeUp a => exact State.aspect_of_indoor (takeUp_indoor _ _)
  | endEntry a => exact State.aspect_of_indoor (endEntry_indoor _ _)
  | testGates a => exact State.aspect_of_indoor (testGates_indoor _ _)
  | endDwell a => exact State.aspect_of_indoor (endDwell_indoor _ _)
  | addHold a r => exact State.aspect_of_indoor (addHold_indoor _ _ _)
  | removeHold a r => exact State.aspect_of_indoor (removeHold_indoor _ _ _)
  | travelled a b => exact State.aspect_of_indoor (travelled_indoor _ _ _)
  | fault a k => exact State.aspect_of_indoor (fault_indoor _ _ _)
  | reportFault a k p => exact State.aspect_of_indoor (reportFault_indoor _ _ _ _)
  | reportAxis a => rfl
  | endProgram c e => exact State.aspect_of_indoor (endProgram_indoor _ _ _)
  | freeContext c e => exact State.aspect_of_indoor (freeContext_indoor _ _ _)
  | evaluatePermits => rfl
  | deliverPermit a d v => exact State.aspect_of_indoor (deliverPermit_indoor _ _ _ _)
  | requestPump h => exact State.aspect_of_indoor (requestPump_indoor _ _)
  | releasePump h => exact State.aspect_of_indoor (releasePump_indoor _ _)
  | handOver => exact State.aspect_of_indoor (handOver_indoor _)
  | release p t => exact State.aspect_of_indoor (release_indoor _ _ _)
  | actionResult p r c => exact State.aspect_of_indoor (actionResult_indoor _ _ _ _)

/-! ## What calm signals send -/

/-- Every signal of a list is calm. -/
def allCalm (l : List Signal) : Bool := l.all (·.calm)

@[simp] theorem allCalm_nil : allCalm [] = true := rfl
@[simp] theorem allCalm_cons (x : Signal) (l : List Signal) : allCalm (x :: l) = (x.calm && allCalm l) := by
  simp [allCalm]
@[simp] theorem allCalm_append (l m : List Signal) : allCalm (l ++ m) = (allCalm l && allCalm m) := by
  simp [allCalm]

/-- A list of signals of one calm form is calm. -/
theorem allCalm_map {α : Type} (l : List α) (f : α → Signal) (h : ∀ x, (f x).calm = true) :
    allCalm (l.map f) = true := by
  simp [allCalm, h]

@[simp] theorem idleSignals_calm (a : Axis) : allCalm (idleSignals a) = true := by cases a <;> rfl
@[simp] theorem windlassDemand_calm (a : Axis) (d : Nat) : allCalm (windlassDemand a d) = true := by cases a <;> rfl
@[simp] theorem pumpSignals_calm (a : Axis) : allCalm (pumpSignals a) = true := by cases a <;> rfl

@[simp] theorem faultReleases_calm (a : Axis) : allCalm (faultReleases a) = true := by cases a <;> rfl

@[simp] theorem enterDwell_calm (a : Axis) (s : State) : allCalm (enterDwell a s).2 = true := by
  unfold enterDwell
  simp only
  (repeat' split) <;> rfl

@[simp] theorem enterPreparing_calm (a : Axis) (s : State) : allCalm (enterPreparing a s).2 = true := by
  unfold enterPreparing
  cases a <;> simp only [hydraulicOf] <;> (repeat' split) <;> rfl

@[simp] theorem nextStep_calm (a : Axis) (c : Fin 16) (s : State) : allCalm (nextStep a c s).2 = true := by
  unfold nextStep
  simp only
  (repeat' split) <;> simp

@[simp] theorem faultHead_calm (a : Axis) (e : Bool) (s : State) : allCalm (faultHead a e s).2 = true := by
  unfold faultHead
  (repeat' split) <;> simp [Signal.calm]

@[simp] theorem endAxis_calm (a : Axis) (s : State) : allCalm (endAxis a s).2 = true := by
  unfold endAxis
  cases a <;> simp only <;> split <;> rfl

/-- What a pass has sent on sends calm signals alone. -/
@[simp] theorem sendOn_calm (item : Outgoing) (s : State) : allCalm (sendOn item s).2 = true := by
  cases item with
  | report content copy => rfl
  | grant k g =>
    simp only [sendOn]
    unfold deliverTo deliverPump deliverWindlass
    simp only
    (repeat' split) <;> rfl

/-- A calm signal sends calm signals alone. -/
theorem handle_calm (x : Signal) (h : x.calm = true) (s : State) : allCalm (handle x s).2 = true := by
  cases x with
  | cueFrame => cases h
  | cueApplied m n l => cases h
  | press p t => cases h
  | lightDemand z => rfl
  | climateWork z => rfl
  | post k d => simp only [handle]; unfold postDemand; split <;> rfl
  | pass => rfl
  | passEnd => rfl
  | reportZone z b => rfl
  | takeUp a => simp only [handle]; unfold takeUp; (repeat' split) <;> simp
  | endEntry a => simp only [handle]; unfold endEntry; split <;> rfl
  | testGates a => simp only [handle]; unfold testGates; simp only; (repeat' split) <;> simp
  | endDwell a => simp only [handle]; unfold endDwell; simp only; (repeat' split) <;> simp [Signal.calm]
  | addHold a r => rfl
  | removeHold a r => simp only [handle]; unfold removeHold; simp only; (repeat' split) <;> simp [Signal.calm]
  | travelled a b => simp only [handle]; unfold travelled; simp only; (repeat' split) <;> simp [Signal.calm]
  | fault a k =>
    simp only [handle]
    unfold fault
    simp only
    (repeat' split) <;> simp [Signal.calm]
  | reportFault a k p => rfl
  | reportAxis a => rfl
  | endProgram c e => simp only [handle]; unfold endProgram; simp only; (repeat' split) <;> simp [Signal.calm]
  | freeContext c e =>
    simp only [handle]
    unfold freeContext
    simp only
    split
    · rfl
    · split
      · rfl
      · exact allCalm_map _ _ fun _ => rfl
  | evaluatePermits => exact allCalm_map _ _ fun _ => rfl
  | deliverPermit a d v => simp only [handle]; unfold deliverPermit; simp only; (repeat' split) <;> rfl
  | requestPump h => simp only [handle]; unfold requestPump; (repeat' split) <;> rfl
  | releasePump h => simp only [handle]; unfold releasePump; (repeat' split) <;> rfl
  | handOver => simp only [handle]; unfold handOver; (repeat' split) <;> rfl
  | release p t => simp only [handle]; unfold release; (repeat' split) <;> rfl
  | actionResult p r c => rfl

/-- A turn with calm signals leaves calm signals, the looks of the zones and the cue. -/
theorem turn_calm (sent : List Outgoing) (x : Signal) (rest : List Signal) (s : State) (hx : x.calm = true)
    (hr : allCalm rest = true) :
    allCalm (turn sent x rest s).2.1 = true ∧ (turn sent x rest s).2.2.aspect = s.aspect := by
  unfold turn
  split
  · exact ⟨hr, rfl⟩
  · exact ⟨by simp [hr, Signal.calm], sendOn_aspect _ _⟩
  · exact ⟨by simp [hr, handle_calm x hx s], handle_aspect x hx s⟩

/-- A run of calm signals leaves the looks of the zones and the cue. -/
theorem run_aspect (n : Nat) (sent : List Outgoing) (l : List Signal) (s : State) (h : allCalm l = true) :
    (run n sent l s).aspect = s.aspect := by
  induction n generalizing sent l s with
  | zero => cases l <;> rfl
  | succ n ih =>
    cases l with
    | nil => rfl
    | cons x rest =>
      simp only [allCalm_cons, Bool.and_eq_true] at h
      obtain ⟨h1, h2⟩ := turn_calm sent x rest s h.1 h.2
      exact (ih _ _ _ h1).trans h2

/-- An event whose signals are calm leaves the looks of the zones and the cue that its own changes leave. -/
theorem settle_aspect (h : Handled) (hc : allCalm h.2 = true) : (settle h).aspect = h.1.aspect := run_aspect _ _ _ _ hc

end Sys2Proof.Machine
end

