-- ==== Sys2Proof/Laws/Line.lean ====
section
/-! SUPPORT. The transmitter's choice (R173, R177): what `State.kick` changes, and what a reply and the choice that follows it
do together. -/

namespace Sys2Proof.Machine

/-- The transmitter's choice changes the Link Interface alone. -/
@[simp] theorem State.kick_core (s : State) : s.kick.core = s.core := by
  unfold State.kick
  split
  · rfl
  · rfl
  · split
    · rfl
    · split <;> rfl

/-- The transmitter's choice leaves the zones and the Cue Unit. -/
@[simp] theorem State.kick_aspect (s : State) : s.kick.aspect = s.aspect := by
  unfold State.kick
  split
  · rfl
  · rfl
  · split
    · rfl
    · split <;> rfl

@[simp] theorem State.reply_aspect (s : State) (kind tag : Byte) (result : Result) (fields : List Byte) :
    (s.reply kind tag result fields).aspect = s.aspect := rfl
@[simp] theorem State.reply_core (s : State) (kind tag : Byte) (result : Result) (fields : List Byte) :
    (s.reply kind tag result fields).core = s.core := rfl
@[simp] theorem State.reply_quiet (s : State) (kind tag : Byte) (result : Result) (fields : List Byte) :
    (s.reply kind tag result fields).link.quiet = s.link.quiet := rfl

/-- A reply goes behind every frame on its way to the host. -/
@[simp] theorem State.reply_outgoing (s : State) (kind tag : Byte) (result : Result) (fields : List Byte) :
    (s.reply kind tag result fields).outgoing = s.outgoing ++ [replyFrame kind tag result fields] := by
  simp [State.outgoing, State.reply]

/-- While a frame is on its way to the host, the transmitter's choice sends no report: the rest of the Link Interface and
the frames on their way stay. -/
theorem State.kick_busy (s : State) (h : s.outgoing ≠ []) :
    s.kick.link.quiet = s.link.quiet ∧ s.kick.outgoing = s.outgoing := by
  unfold State.kick
  split
  · exact ⟨rfl, rfl⟩
  · next r rest h1 h2 => exact ⟨rfl, by simp [State.outgoing, State.transmit, h1, h2]⟩
  · next h1 h2 => simp [State.outgoing, h1, h2] at h

/-- A reply and the choice that follows it change nothing but the frames on their way to the host. -/
theorem reply_kick_onlyAnswers (s : State) (kind tag : Byte) (result : Result) (fields : List Byte) :
    s.onlyAnswers (s.reply kind tag result fields).kick (replyFrame kind tag result fields) := by
  have h := State.kick_busy (s.reply kind tag result fields) (by simp)
  exact ⟨by simp, by rw [h.1]; simp, by rw [h.2]; simp⟩

/-- While a frame is on the transmit line the transmitter chooses nothing (R173). -/
theorem State.kick_sending (s : State) (h : s.link.sending.isSome = true) : s.kick = s := by
  unfold State.kick
  split
  · rfl
  · next h1 _ => simp [h1] at h
  · next h1 _ => simp [h1] at h

/-- The transmitter's choice puts a frame on the transmit line or changes nothing. -/
theorem State.kick_cases (s : State) : s.kick = s ∨ s.kick.link.sending.isSome = true := by
  unfold State.kick
  split
  · exact .inl rfl
  · exact .inr rfl
  · split
    · exact .inl rfl
    · split
      · exact .inl rfl
      · exact .inr rfl

/-- A state whose transmitter has chosen chooses nothing more. -/
theorem State.kick_kick (s : State) : s.kick.kick = s.kick := by
  rcases s.kick_cases with h | h
  · rw [h, h]
  · exact State.kick_sending _ h

/-- The chosen report is the START entry, else the first urgent one, else the first of all. -/
theorem chooseReport_isSome (queue : List ReportEntry) : (chooseReport queue).isSome = !queue.isEmpty := by
  cases queue with
  | nil => rfl
  | cons e rest => simp [chooseReport]

end Sys2Proof.Machine
end

