-- ==== Sys2Proof/Tests/Slice0.lean ====
section
/-! SUPPORT. Small tests of the model: ill-formed commands, the manual's worked numbers, and for each statement with
hypotheses a state and operands that meet them. -/

namespace Sys2Proof.Tests

set_option Elab.async false

open Sys2Proof Sys2Proof.Machine

/-! ## Ill-formed commands -/

/-- A scene record of nothing. -/
def noScene : SceneFields := { levels := Vector.replicate 4 none, fade := 0, setpoint := none, mode := none }

/-- A cue entry that sets a setpoint. -/
def cueEntry : CueFields := { zone := 0, kind := 2, levels := Vector.replicate 4 none, fade := 0, value := 220 }

/-- The fields of a zone. -/
def zoneFields : ZoneFields :=
  { rated := #v[80, 60, 60, 40], fan := 8, stage1 := 60, stage2 := 140, crewOnly := 0, passage := 0, volume := 200,
    startScene := 255 }

/-- The fields of an axis. -/
def axisFields : AxisFields :=
  { presets := #v[0, 300, 600, 900], warnTime := 3000, prepareTimeout := 30, warnPattern := 0, deckLevel := 400,
    maxRode := 90000, pulses := 8, chain := 720, rating := 850, warnZones := [3, 0, 3] }

/-- The first and last step of a program. -/
def oneStep : StepFields :=
  { first := true, legStart := false, final := true, leg := 0, seq := 0, start := 0, target := 300, speed := none,
    dwell := some 100 }

/-- The fields of a panel. -/
def panelFields : PanelFields :=
  { cls := 1, home := 5, base := 4, limit := 7, permissions := #v[1, 0, 0], oversample := 4, threshold := 600,
    coefficients := #v[81920, 0, -2621440, 0, 52429, -655360], width := 1240, height := 800 }

/-- A tag map entry. -/
def tagFields : TagFields := { x0 := 560, y0 := 200, x1 := 680, y1 := 260, tag := 12 }

/-- A binding. -/
def bindingFields : BindingFields := { kind := 1, target := 255, argument := 3, axis := 0, preset := 0, holdToRun := 0 }

/-- Commands whose operands do not fit their fields: the line, the budget and the zones. -/
def illFormedFirst : List Instr :=
  [.frameReceived [], .unknownRequest 0 0x50, .reset 0 256, .setLink 0 65536, .setSupply 0 65536 0, .setSupply 0 0 256,
   .setSlot 0 256 0 0 0 0 0, .setSlot 0 0 256 0 0 0 0, .setSlot 0 0 0 256 0 0 0, .setSlot 0 0 0 0 65536 0 0,
   .setSlot 0 0 0 0 0 65536 0, .setSlot 0 0 0 0 0 0 65536, .setAuxDemand 0 256 0, .setAuxDemand 0 50 65536,
   .getBudget 0 (some 256), .baseLoadSample 65536, .setZone 0 256 zoneFields,
   .setZone 0 0 { zoneFields with rated := #v[65536, 0, 0, 0] }, .setZone 0 0 { zoneFields with fan := 65536 },
   .setZone 0 0 { zoneFields with stage1 := 65536 }, .setZone 0 0 { zoneFields with stage2 := 65536 },
   .setZone 0 0 { zoneFields with crewOnly := 256 }, .setZone 0 0 { zoneFields with passage := 256 },
   .setZone 0 0 { zoneFields with volume := 256 }, .setZone 0 0 { zoneFields with startScene := 256 },
   .setLevels 0 256 (Vector.replicate 4 none) 0, .setLevels 0 0 (Vector.replicate 4 (some 65536)) 0,
   .setLevels 0 0 (Vector.replicate 4 none) 65536, .setSetpoint 0 256 0, .setSetpoint 0 0 65536, .setMode 0 256 0,
   .setMode 0 0 256, .getZone 0 256, .temperatureSample 0 (-401), .temperatureSample 0 1001]

/-- Scenes, cues, axes and programs. -/
def illFormedSecond : List Instr :=
  [.storeScene 0 256 none, .storeScene 0 0 (some { noScene with levels := Vector.replicate 4 (some 65536) }),
   .storeScene 0 0 (some { noScene with fade := 65536 }), .storeScene 0 0 (some { noScene with setpoint := some 65536 }),
   .storeScene 0 0 (some { noScene with mode := some 256 }), .recallScene 0 256 0, .recallScene 0 0 256,
   .cueAdd 0 { cueEntry with zone := 256 }, .cueAdd 0 { cueEntry with kind := 256, value := 0 },
   .cueAdd 0 { cueEntry with fade := 10 }, .cueAdd 0 { cueEntry with value := 65536 },
   .cueAdd 0 { cueEntry with levels := Vector.replicate 4 (some 1) }, .cueAdd 0 { cueEntry with kind := 1 },
   .cueAdd 0 { cueEntry with kind := 4 },
   .cueAdd 0 { cueEntry with kind := 1, value := 0, fade := 65536 },
   .cueAdd 0 { cueEntry with kind := 1, value := 0, levels := Vector.replicate 4 (some 65536) }, .cueCommit 0 256,
   .cueStatus 0 (some 256), .setAxis 0 256 axisFields,
   .setAxis 0 0 { axisFields with presets := #v[2147483648, 0, 0, 0] }, .setAxis 0 0 { axisFields with warnTime := 65536 },
   .setAxis 0 0 { axisFields with prepareTimeout := 256 }, .setAxis 0 0 { axisFields with warnPattern := 256 },
   .setAxis 0 0 { axisFields with deckLevel := 65536 }, .setAxis 0 0 { axisFields with maxRode := 4294967296 },
   .setAxis 0 0 { axisFields with pulses := 256 }, .setAxis 0 0 { axisFields with chain := 65536 },
   .setAxis 0 0 { axisFields with rating := 65536 }, .setAxis 0 0 { axisFields with warnZones := [256] },
   .setAxis 0 0 { axisFields with warnZones := List.replicate 208 0 }, .getAxis 0 256, .ackFault 0 256,
   .positionSample .hatch 32768, .positionSample .hatch (-32769), .openProgram 0 256 0, .openProgram 0 0 256,
   .programStep 0 256 oneStep, .programStep 0 0 { oneStep with leg := 256 },
   .programStep 0 0 { oneStep with seq := 65536 }, .programStep 0 0 { oneStep with start := 2147483648 },
   .programStep 0 0 { oneStep with target := -2147483649 }, .programStep 0 0 { oneStep with speed := some 256 },
   .programStep 0 0 { oneStep with dwell := some 65536 }, .cancelAtBoundary 0 256, .cancelImmediate 0 256,
   .pauseProgram 0 256, .resumeProgram 0 256, .getProgram 0 (some 256)]

/-- Interlocks, chime, panels and bindings. -/
def illFormedThird : List Instr :=
  [.setInterlock 0 256 0 none, .setInterlock 0 3 0 none, .setInterlock 0 0 256 none,
   .setInterlock 0 0 0 (some [(256, 0)]), .setInterlock 0 0 0 (some [(0, 256)]),
   .setInterlock 0 0 0 (some (List.replicate 119 (0, 0))), .setInterlock 0 4 1 none, .setInterlock 0 4 0 (some []),
   .setInterlockCommon 0 (some (65536, 0)), .setInterlockCommon 0 (some (0, 65536)), .setVessel 0 65536 0 0 0,
   .setVessel 0 0 256 0 0, .setVessel 0 0 0 256 0, .setVessel 0 0 0 0 256, .setPattern 0 256 none,
   .setPattern 0 0 (some (256, [])), .setPattern 0 0 (some (0, [(256, 0)])), .setPattern 0 0 (some (0, [(0, 65536)])),
   .setPattern 0 0 (some (0, List.replicate 80 (0, 10))), .chimePlay 0 256 1 [], .chimePlay 0 0 256 [],
   .chimePlay 0 0 1 [256], .chimePlay 0 0 1 (List.replicate 237 0), .setPanel 0 256 none,
   .setPanel 0 0 (some { panelFields with cls := 256 }), .setPanel 0 0 (some { panelFields with home := 256 }),
   .setPanel 0 0 (some { panelFields with base := 256 }), .setPanel 0 0 (some { panelFields with limit := 256 }),
   .setPanel 0 0 (some { panelFields with permissions := #v[256, 0, 0] }),
   .setPanel 0 0 (some { panelFields with oversample := 256 }),
   .setPanel 0 0 (some { panelFields with threshold := 65536 }),
   .setPanel 0 0 (some { panelFields with coefficients := #v[2147483648, 0, 0, 0, 0, 0] }),
   .setPanel 0 0 (some { panelFields with width := 65536 }), .setPanel 0 0 (some { panelFields with height := 65536 }),
   .setTagmap 0 256 0 tagFields, .setTagmap 0 0 256 tagFields, .setTagmap 0 0 0 { tagFields with x0 := 65536 },
   .setTagmap 0 0 0 { tagFields with y0 := 65536 }, .setTagmap 0 0 0 { tagFields with x1 := 65536 },
   .setTagmap 0 0 0 { tagFields with y1 := 65536 }, .setTagmap 0 0 0 { tagFields with tag := 256 }, .getPanel 0 256 0,
   .getPanel 0 0 256, .panelFrame 0 (.touch 65536 0 0), .panelFrame 0 (.touch 0 65536 0), .panelFrame 0 (.touch 0 0 65536),
   .setBinding 0 256 none, .setBinding 0 1 (some { bindingFields with kind := 256 }),
   .setBinding 0 1 (some { bindingFields with target := 256 }),
   .setBinding 0 1 (some { bindingFields with argument := 65536 }),
   .setBinding 0 1 (some { bindingFields with axis := 256 }), .setBinding 0 1 (some { bindingFields with preset := 256 }),
   .setBinding 0 1 (some { bindingFields with holdToRun := 256 })]

theorem test_illFormed_line_budget_zones : illFormedFirst.all (fun i => !i.wellFormed) = true := by decide +kernel

theorem test_illFormed_scenes_axes_programs : illFormedSecond.all (fun i => !i.wellFormed) = true := by decide +kernel

theorem test_illFormed_interlocks_chime_panels : illFormedThird.all (fun i => !i.wellFormed) = true := by decide +kernel

/-- The records that the ill-formed commands are made from are well-formed. -/
theorem test_wellFormed_records :
    zoneFields.wellFormed && noScene.wellFormed && cueEntry.wellFormed && axisFields.wellFormed && oneStep.wellFormed
      && panelFields.wellFormed && tagFields.wellFormed && bindingFields.wellFormed = true := by decide +kernel

/-! ## The manual's worked numbers -/

/-- The state that a command leaves. -/
def after (i : Instr) (s : State) : State :=
  match exec i s with
  | .next t => t
  | .fault f => nomatch f
  | .refused _ => s

/-- The usable supply's two examples (R11's chapter, section 1.3): S = 2500, R = 10 and S = 1333, R = 15. -/
theorem test_usable_supply : usableSupply 2500 10 = 2250 ∧ usableSupply 1333 15 = 1134 := by decide

/-- The two fades of R31's table: frames 1, 2, 3, 100 and 200. -/
theorem test_fade_levels :
    [1, 2, 3, 100].map (fun k => fadeLevel 200 700 k 200) = [202, 205, 207, 450]
      ∧ [1, 2, 3, 100].map (fun k => fadeLevel 700 200 k 200) = [698, 695, 693, 450] := by decide

/-- The sky lounge scaled (section 2.3): levels 500, 400, 250 at d = 178 and g = 70, and 1000, 800, 500 at g = 100. -/
theorem test_scaled_outputs :
    [500, 400, 250].map (fun l => scaledOutput l 70 178) = [196, 157, 98]
      ∧ [1000, 800, 500].map (fun l => scaledOutput l 100 178) = [561, 449, 280]
      ∧ [1000, 800, 500].map (fun l => scaledOutput l 178 178) = [1000, 800, 500] := by decide

/-- R36's examples: 223 is taken as 220, 100 as 160 and 400 as 300. -/
theorem test_setpoints : clampSetpoint 223 = 220 ∧ clampSetpoint 100 = 160 ∧ clampSetpoint 400 = 300 := by decide

/-- The worked rode arithmetic (R66): counts 664, 669, 1001 and 1334 at P = 8 and L = 720. -/
theorem test_rode :
    [664, 669, 1001, 1334].map (rodeOf factory.gear) = [59760, 60210, 90090, 120060] := by decide +kernel

/-- The worked transform (R143): the means 512 and 300 give (600, 230), and 30 gives X = -3. -/
theorem test_transform :
    (storedPanel panelFields).map (fun c => (c.screen 512 300, (c.screen 30 300).1)) = some ((600, 230), -3) := by
  decide +kernel

/-- The worked climate (R37): setpoint 220 and temperature 204 in OCCUPIED demand STAGE2 with HEAT. -/
theorem test_climate :
    let s := State.reset.onZone 11 fun z => { z with mode := .occupied, setpoint := 220 }
    let t := after (.temperatureSample 11 204) s
    t.zones[(11 : Fin 24)].climate.demanded = .stage2 ∧ t.zones[(11 : Fin 24)].climate.direction = .heat := by
  decide +kernel

/-- The worked pass of chapter 1: its five demands, the running hold-off of slot 35, and a base-load sample of 920. -/
def beforeWorkedPass : State :=
  let demand (k : Fin 52) (e : Nat) (s : State) : State := s.onSlot k fun x => { x with raw := e, effective := e }
  let s : State := { State.reset with budget := { State.reset.budget with
    mode := .normal, history := [900, 950, 1010, 980, 960, 940, 930] } }
  let s := (demand 49 850 (demand 2 120 (demand 32 140 (demand 35 140 (demand 5 178 s))))).onSlot 35 fun x =>
    { x with grant := 60, delivered := 60, holdOffEnds := some 1000 }
  let ranked (k : Fin 52) (p : Nat) (s : State) : State :=
    { s with config := { s.config with slots := s.config.slots.set k { s.config.slots[k] with priority := p } } }
  let s := ranked 32 15 (ranked 5 10 s)
  let stages (z : Fin 24) (s : State) : State :=
    { s with config := { s.config with zones := s.config.zones.set z {
      s.config.zones[z] with fan := 8, stage1 := 60, stage2 := 140 } } }
  let s := stages 8 (stages 11 s)
  { s with config := { s.config with supply := 2500, reserve := 10 } }

theorem test_worked_pass :
    let t := after (.baseLoadSample 920) beforeWorkedPass
    [49, 2, 32, 35, 5].map (fun k : Fin 52 => t.budget.slots[k].grant) = [850, 120, 140, 60, 70]
      ∧ t.budget.result.headroom = 0 ∧ t.budget.result.available = 1240 := by
  decide +kernel

/-- A pulse at 65535 while paying out and at 0 while hauling leaves the count (R66). -/
theorem test_pulse_limits :
    pulsedCount false true 65535 = 65535 ∧ pulsedCount false false 0 = 0 ∧ pulsedCount true true 7 = 0 := by decide

/-- The edges of the arrival test (section 4.1): an OUT step to 60000 arrives at 59760, an IN step at 60210, not at 60300. -/
theorem test_arrival :
    let out : Step := { first := true, legStart := false, final := true, leg := 0, seq := 0, start := 0, target := 60000,
                        speed := none, dwell := none }
    let back : Step := { out with start := 90000 }
    out.arrived .windlass (some 59760) = true ∧ back.arrived .windlass (some 60210) = true
      ∧ back.arrived .windlass (some 60300) = false := by decide

/-- Two panels' map: the lower-numbered entry is found, both edges included (R144). -/
theorem test_tag_at :
    let e (x0 y0 x1 y1 tag : Nat) : TagEntry := { x0, y0, x1, y1, tag }
    let map := ((Vector.replicate 32 (e 0 0 0 0 0)).set 0 (e 560 200 680 260 12)).set 2 (e 0 0 1239 799 30)
    tagAt map 600 230 = 12 ∧ tagAt map 680 260 = 12 ∧ tagAt map 681 260 = 30 ∧ tagAt map 1240 0 = 0 := by
  decide +kernel

/-- An inverted test holds when it is false, and an unknown test never holds (R121). -/
theorem test_terms :
    let t : Term := { test := 11, invert := true }
    t.holds .isFalse = true ∧ t.holds .isTrue = false ∧ t.holds .unknown = false := by decide

/-- Priorities of reports: an urgent entry goes behind the urgent ones and before the rest (R176). -/
theorem test_urgent_reports :
    (postTo [⟨.fault .hatch, []⟩, ⟨.axis .hatch, []⟩] (.programEnd 3) []).map (·.key) =
      [.fault .hatch, .programEnd 3, .axis .hatch] := by decide

/-- An allocator that has seen no sample is in HOLD mode and gives nothing to a new demand (R2, R17). -/
theorem test_hold_gives_nothing :
    let t := after (.setAuxDemand 1 50 100) State.reset
    t.raw 50 = 100 ∧ t.budget.slots[(50 : Fin 52)].grant = 0 := by decide +kernel

/-- UNKNOWN_REQUEST is answered by kind 0xFF with result 6 (R170). -/
theorem test_unknown_request :
    (after (.unknownRequest 7 0x77) State.reset).link.replies.map (·.frame) =
      [{ kind := 0xFF, tag := 7, payload := [6] }] := by decide +kernel

/-- GET_PROGRAM on a FREE context: state FREE and markers, the context number's among them (R116). -/
theorem test_free_context :
    (after (.getProgram 7 (some 3)) State.reset).link.replies.map (·.frame.payload.take 4) = [[0, 0xFF, 0, 0xFF]] := by
  decide +kernel

/-- A WARM_RESET that no accepted RESET has asked for, or one that is asked for while a reply waits, resets nothing (R180). -/
theorem test_reset_not_due :
    let replies : List Reply := [{ frame := { kind := 0x83, tag := 1, payload := [0, 2] }, delayed := false }]
    let s : State := { State.reset with link := { State.reset.link with resetPending := some .warm, replies := replies } }
    (after .warmReset State.reset).store.lastReset = .powerOn ∧ (after .warmReset s).store.lastReset = .powerOn := by
  decide +kernel

/-- The factory's stored image is 7438 bytes long (R183). -/
theorem test_image_length : factory.image.length = 7438 := by decide +kernel

/-! ## Witnesses: states and operands that meet the hypotheses of the statements -/

/-- The reset state with one command waiting. -/
def waiting (i : Instr) : State := { State.reset with pending := [i] }

/-- A step with one command waiting answers what a command that completes leaves. -/
theorem step_after {i : Instr} {s t : State} (h : exec i { s with pending := [] } = .next t) :
    step { s with pending := [i] } = .next (after i { s with pending := [] }) := by
  have hs : step { s with pending := [i] } = exec i { s with pending := [] } := rfl
  rw [hs, after, h]

/-- The part after START has been sent: the receiver hunts, and nothing waits to be sent. -/
def listening : State :=
  { State.reset with link := { State.reset.link with
      receiving := true, sending := none, reports := [], silenceDeadline := some 1000 } }

/-- A frame on its way to the host. -/
def someFrame : Frame := { kind := 0x81, tag := 1, payload := [0] }

/-- A state whose transmitter sends a frame of this kind, with these replies and reports waiting. -/
def sendingFrame (kind : Byte) (replies : List Reply) (reports : List ReportEntry) : State :=
  { listening with link := { listening.link with
      sending := some { frame := { someFrame with kind := kind }, line := [] }, replies := replies, reports := reports } }

theorem witness_StepRunsFrontCommand :
    (waiting .warmReset).pending = [.warmReset] ∧ State.reset.pending = [] := ⟨rfl, rfl⟩

theorem witness_RequestFramesAreExamined :
    (Instr.setLink 5 65535).wellFormed = true ∧ (requestFrame (.setLink 5 65535)).isSome = true
      ∧ (Instr.setAxis 5 2 axisFields).wellFormed = true ∧ (requestFrame (.setAxis 5 2 axisFields)).isSome = true := by
  decide +kernel

theorem witness_FramesAreCarriedOut :
    ((Instr.getZone 5 255).wellFormed = true ∧ (requestFrame (.getZone 5 255)).isSome = true)
      ∧ ((List.replicate 240 (0 : Byte)).length ≤ 240 ∧ listening.link.receiving = true ∧ listening.link.gathered = []
          ∧ listening.link.buffer = [] ∧ listening.link.takes = true) := by decide +kernel

theorem witness_BadFramesAreDiscarded :
    let full : State := { listening with link := { listening.link with buffer := List.replicate 4 someFrame } }
    let half : State := { listening with link := { listening.link with
      gathered := [⟨0x5A, true⟩, ⟨0xC3, true⟩], gapDeadline := some 5 } }
    let f : Frame := { kind := 1, tag := 2, payload := [] }
    (full.link.receiving = true ∧ full.link.gathered = [] ∧ 4 ≤ full.link.buffer.length)
      ∧ ((0x5A : Byte) ∉ f.line.dropLast.tail ∧ (0 : Byte) ≠ 0x5A ∧ some (0 : Byte) ≠ f.line.getLast?)
      ∧ (half.link.gapDeadline ≠ none ∧ 2 ≤ half.link.gathered.length ∧ scan half.link.gathered = .wait
          ∧ ∀ b ∈ half.link.gathered.tail, b.value ≠ 0x5A)
      ∧ listening.link.gapDeadline = none := by decide +kernel

theorem witness_RequestsAreAnsweredOnce : (0x77 : Byte) ∉ requestKinds := by decide

theorem witness_FrameSentMovesTheLine :
    let reply : Reply := { frame := someFrame, delayed := false }
    let start : ReportEntry := ⟨.start, [0, 1, 0]⟩
    let urgent : ReportEntry := ⟨.fault .hatch, []⟩
    let plain : ReportEntry := ⟨.axis .hatch, []⟩
    let s (replies : List Reply) (reports : List ReportEntry) := sendingFrame 0x81 replies reports
    ((s [reply] []).link.sending.isSome = true ∧ (s [reply] []).link.replies = [reply])
      ∧ ((s [] []).link.replies = [] ∧ (s [] []).link.reports = [])
      ∧ ((s [] [start, plain]).link.reports = [] ++ start :: [plain] ∧ start.key = .start)
      ∧ ((s [] [urgent, plain]).link.reports = [] ++ urgent :: [plain] ∧ urgent.key.urgent = true)
      ∧ ((s [] [plain]).link.reports = [] ++ plain :: [] ∧ plain.key.urgent = false)
      ∧ (s [] []).link.resetPending = none ∧ (sendingFrame 0xE0 [] []).link.buffer = []
      ∧ listening.link.sending = none
      ∧ (let busy : State := { (s [] []) with link := { (s [] []).link with
           buffer := [someFrame, { someFrame with tag := 2 }] } }
         let idle : State := { busy with link := { busy.link with sending := none } }
         busy.link.sending.isSome = true ∧ idle.kick.link.takes = true
           ∧ (carryFrame someFrame
               { idle.kick with link := { idle.kick.link with buffer := idle.kick.link.buffer.tail } }).kick.link.takes = true
           ∧ (after .frameSent busy).link.buffer = []) := by decide +kernel

theorem witness_LinkSilenceHoldsLinkPrograms :
    State.reset.link.silenceDeadline = none ∧ listening.link.silenceDeadline ≠ none := by decide

theorem witness_ReadsAnswerAndChangeNothing :
    let e : CueEntry := { zone := 0, change := .setpoint 220 }
    let s : State := { State.reset with cue := { State.reset.cue with entries := [e] } }
    s.cue.entries[0]? = some e := by decide

theorem witness_NumbersOutOfRangeAreRefused :
    51 < 52 ∧ 49 < 50 ∧ 23 < 24 ∧ 31 < 32 ∧ State.reset.cue.entries.length ≤ 0 ∧ 2 < 3 ∧ 3 < 4
      ∧ (2 ≤ 2 ∧ 1 < 2) ∧ 15 < 16 ∧ 1 < 2 ∧ 7 < 8
      ∧ 11 < 12 := by decide

/-! ### The budget and the zones -/

/-- Slots 23, 24, 47, 48 and 49 demand power in NORMAL mode, and slot 24's hold-off runs. -/
def demanding : State :=
  let demand (k : Fin 52) (s : State) : State := s.onSlot k fun x => { x with raw := 60, effective := 60 }
  let s := demand 23 (demand 24 (demand 47 (demand 48 (demand 49 State.reset))))
  (({ s with budget := { s.budget with mode := .normal, meterDeadline := some 500, history := [100] } } : State).onSlot 24
    fun x => { x with holdOffEnds := some 1000 })

theorem witness_BudgetRequestsTakePasses :
    (50 : Nat) ≤ (50 : Fin 52).val ∧ State.reset.budget.slots[(50 : Fin 52)].raw ≠ min 65535 4000
      ∧ State.reset.budget.slots[(51 : Fin 52)].raw = min 0 4000
      ∧ (after (.setSupply 1 2500 10) State.reset).unsettled = false
      ∧ (after (.setSlot 1 5 1 10 600 40 0) State.reset).unsettled = false
      ∧ (after (.setAuxDemand 1 50 100) State.reset).unsettled = false := by decide +kernel

theorem witness_MeterAndHoldOffsTakePasses :
    State.reset.budget.meterDeadline = none ∧ demanding.budget.meterDeadline ≠ none
      ∧ demanding.budget.slots[(48 : Fin 52)].holdOffEnds = none
      ∧ demanding.budget.slots[(24 : Fin 52)].holdOffEnds ≠ none
      ∧ (after (.baseLoadSample 900) State.reset).unsettled = false
      ∧ (after .meterSilenceExpiry demanding).unsettled = false
      ∧ (after (.holdOffExpiry 24) demanding).unsettled = false := by decide +kernel

theorem witness_PassesGrantByClass :
    let s : State := { demanding with budget := { demanding.budget with mode := .hold } }
    (demanding.budget.mode = .normal ∧ ∀ k ∈ ([23, 24, 47, 48, 49] : List (Fin 52)), k ∈ demanding.ranked)
      ∧ s.budget.mode = .hold
      ∧ ∀ k ∈ ([23, 24, 47, 48] : List (Fin 52)),
          s.config.slots[k].enabled = true ∧ s.budget.slots[k].effective ≠ 0 := by decide +kernel

theorem witness_PassesEndWithDeliveryAndReport :
    demanding.budget.posted ≠ some demanding.passCopy
      ∧ (let s : State := { demanding with pending := [.baseLoadSample 100] }
         let t := after (.baseLoadSample 100) { demanding with pending := [] }
         step s = .next t ∧ t.unsettled = false ∧ t.budget.passNumber ≠ s.budget.passNumber ∧ t.budget.passNumber ≠ 0
           ∧ t.budget.posted ≠ s.budget.posted) :=
  ⟨by decide +kernel, step_after rfl, by decide +kernel⟩

theorem witness_grantsDelivered :
    (waiting .outputFrame).grantsDelivered ∧ ∃ t, step (waiting .outputFrame) = .next t := by
  refine ⟨?_, _, rfl⟩
  unfold State.grantsDelivered
  decide +kernel

theorem witness_SetZoneStoresTheFields :
    State.reset.config.zones[(0 : Fin 24)].stageCurrents ≠
      (storedZone { zoneFields with stage2 := 400 }).stageCurrents
      ∧ (after (.setZone 1 0 { zoneFields with stage2 := 400 }) State.reset).unsettled = false := by decide +kernel

theorem witness_ZoneRequestsChangeTheZone :
    (∃ i : Fin 4, ((#v[none, some 1000, none, none] : Vector (Option Nat) 4)[i]).isSome = true)
      ∧ 2 < 3 ∧ 2 = State.reset.zones[(23 : Fin 24)].mode.code ∧ (1 ≤ 2 ∧ 1 ≠ State.reset.zones[(23 : Fin 24)].mode.code) := by
  decide +kernel

theorem witness_TemperatureDecidesTheClimate :
    State.reset.zones[(0 : Fin 24)].climate.lossDeadline = none
      ∧ (after (.temperatureSample 0 204) State.reset).zones[(0 : Fin 24)].climate.lossDeadline ≠ none := by
  decide +kernel

theorem witness_FadesFollowTheirLines :
    let c : Channel :=
      { level := 200, target := 700, fadeStart := 200, framesDone := 0, framesTotal := 200, fading := true, output := 0 }
    State.reset.cue.commit = none
      ∧ c.fading = true ∧ c.framesDone = 0 ∧ c.level = c.fadeStart ∧ 199 < c.framesTotal ∧ 0 < c.framesTotal := by decide

/-! ### Cues -/

/-- An AFTER_FADES commit is pending over one entry. -/
def committed : State :=
  { State.reset with cue := { State.reset.cue with
      entries := [{ zone := 0, change := .setpoint 220 }], commit := some .afterFades, capDeadline := some 30000 } }

theorem witness_CueAddStagesTheEntry :
    let staged : State := { committed with cue := { committed.cue with commit := none } }
    committed.cue.commit ≠ none ∧ staged.cue.commit = none
      ∧ (23 < 24 ∧ 3 < 4 ∧ 31 < 32 ∧ 255 < 256)
      ∧ (∃ e, storedEntry cueEntry = some e ∧ ∃ x ∈ staged.cue.entries, e.matches x = true)
      ∧ ∃ e, storedEntry { cueEntry with zone := 23 } = some e ∧ ∀ x ∈ staged.cue.entries, e.matches x = false :=
  ⟨by decide, rfl, by decide, ⟨_, rfl, by decide⟩, ⟨_, rfl, by decide⟩⟩

theorem witness_CueListIsClearedAndCommitted :
    committed.cue.commit ≠ none ∧ State.reset.cue.commit = none ∧ State.reset.cue.capDeadline = none := by decide

theorem witness_PendingCueIsAppliedAtItsFrame :
    committed.cue.commit = some .afterFades ∧ (after .outputFrame committed).unsettled = false := by decide +kernel

/-! ### Axes -/

/-- A step of the hatch from 0 to 300. -/
def hatchStep (final : Bool) : Step :=
  { first := true, legStart := false, final := final, leg := 0, seq := 0, start := 0, target := 300, speed := none,
    dwell := some 100 }

/-- The hatch executes a program of LINK in context 0: its state, its hold set, its timers and its drive as given, context 1
queued behind it, the pump its own, and its position 100. -/
def running (state : AxisState) (holds : HoldSet) (final : Bool) (steps : List Step) : State :=
  let s := { listening with
    contexts := (listening.contexts.set 0
      { contextStart with state := .active, owner := some .link, axis := some .hatch, steps := steps }).set 1
      { contextStart with state := .queued, owner := some .link, axis := some .hatch },
    queues := { hatch := [0, 1], platform := [], windlass := [] },
    sensors := { listening.sensors with hatch :=
      { position := some 100, sampledAt := some 0, fresh := true, staleDeadline := some 200 } },
    permits := { listening.permits with hatch := { out := true, inward := true } },
    config := { listening.config with interlocks := { listening.config.interlocks with
      hatch := { out := [], inward := [] } } },
    pump := { owner := some .hatch, waiting := none, grant := 0, run := true } }
  s.onAxis .hatch fun r =>
    { r with
      state := state, holds := holds, current := some { context := 0, step := hatchStep final },
      warnStart := if state = .preparing then some 0 else none,
      prepareDeadline := if state = .preparing then some 30000 else none,
      dwellDeadline := if state = .dwell then some 100 else none,
      stopDeadline := if state = .stopping then some 500 else none,
      stall := if state = .moving then some { deadline := 1000, startedAt := 100 } else none,
      drive := if state = .moving then moveDrive .out .normal else driveOff }

/-- The hatch is in FAULT, with a fresh sensor. -/
def faulted : State :=
  { (listening.onAxis .hatch fun r => { r with
      state := .fault, fault := some { kind := .stall, position := some 100, context := none, count := 1 } }) with
    sensors := { listening.sensors with hatch :=
      { position := some 100, sampledAt := some 0, fresh := true, staleDeadline := some 200 } } }

theorem running_context (state : AxisState) (holds : HoldSet) (final : Bool) (steps : List Step) (c : Fin 16) :
    (running state holds final steps).contexts[c] =
      if c = 0 then { contextStart with state := .active, owner := some .link, axis := some .hatch, steps := steps }
      else if c = 1 then { contextStart with state := .queued, owner := some .link, axis := some .hatch }
      else contextStart := by
  fin_cases c <;> rfl

theorem running_queueLaw {state : AxisState} {holds : HoldSet} {final : Bool} {steps : List Step}
    (h : state ≠ .idle ∧ state ≠ .fault) : (running state holds final steps).queueLaw := by
  obtain ⟨hi, hf⟩ := h
  have hq : ∀ a, (running state holds final steps).queue a = if a = .hatch then [0, 1] else [] := by
    intro a; cases a <;> rfl
  refine ⟨?_, ?_, ?_, ?_, ?_, ?_⟩
  · intro a; rw [hq]; cases a <;> decide
  · intro c a; rw [hq, running_context]
    by_cases h0 : c = 0
    · subst h0; cases a <;> simp
    · by_cases h1 : c = 1
      · subst h1; cases a <;> simp
      · cases a <;> simp [h0, h1, contextStart]
  · intro c; rw [running_context]
    split
    · simp
    · split <;> simp [contextStart]
  · intro c; rw [running_context]
    split
    · simp
    · split <;> simp [contextStart]
  · intro c a; rw [running_context]
    by_cases h0 : c = 0
    · subst h0; cases a <;> simp [State.head, hq]
    · by_cases h1 : c = 1 <;> simp [h0, h1, contextStart]
  · refine fun _ => ⟨?_, ?_, ?_⟩
    · intro a c h
      cases a
      · obtain rfl : 0 = c := Option.some.inj h
        exact ⟨fun h => (nomatch h), fun h => absurd h hf⟩
      · cases h
      · cases h
    · intro a h
      cases a
      · exact absurd h (by rintro (h | h); exacts [hi h, hf h])
      · rfl
      · rfl
    · intro a x h
      cases a
      · obtain rfl : { context := 0, step := hatchStep final } = x := Option.some.inj h
        exact ⟨rfl, Or.inl rfl⟩
      · cases h
      · cases h

/-- The hold set with LINK_PAUSE alone. -/
def paused : HoldSet := { noHolds with linkPause := true }

/-- A fresh hatch sensor at a position, after a sample of it. -/
def sampled (p : Int) (s : State) : State := s.withSample .hatch p

theorem witness_SetAxisStoresTheFields :
    State.reset.store.saving = none ∧ (State.reset.axis .hatch).state = .idle
      ∧ axisFields.presets.toList.all (withinLimits State.reset.config.gear .hatch) = true := by decide +kernel

/-- The windlass rests with 122 pulses counted: 10980 mm of rode, inside the limit that the factory's maximum rode sets. -/
def rodeOut : State := { listening with gypsy := { listening.gypsy with count := 122 } }

/-- A SET_AXIS whose maximum rode the rode passes by more than the margin is an onset of OVERTRAVEL (R84, R88). -/
theorem witness_setAxis_overtravel :
    let stored : State := { rodeOut with config := { rodeOut.config with gear :=
      { maxRode := 10000, pulses := 8, chain := 1000, rating := 850 } } }
    let fields : AxisFields := { axisFields with maxRode := 10000, pulses := 8, chain := 1000 }
    beyondMargin stored.config.gear .windlass (stored.measured .windlass) = true
      ∧ beyondMargin rodeOut.config.gear .windlass (rodeOut.measured .windlass) = false
      ∧ rodeOut.store.saving = none ∧ (rodeOut.axis .windlass).state = .idle
      ∧ ((after (.setAxis 1 2 fields) rodeOut).axis .windlass).state = .fault := by decide +kernel

/-- A program waits behind the fault, with no step. -/
def faultedQueue : State :=
  { faulted with
    contexts := faulted.contexts.set 0 { contextStart with state := .queued, owner := some .link, axis := some .hatch },
    queues := { hatch := [0], platform := [], windlass := [] } }

/-- The same with a step in the program. -/
def faultedProgram : State := faultedQueue.onContext 0 fun x => { x with steps := [hatchStep true] }

/-- An axis enters PREPARING with no fault of its entry: what `State.mayPrepare` asks of the hatch with the step `hatchStep`. -/
theorem mayPrepare_hatch {s : State} {x : Option CurrentStep} (hf : s.sensors.hatch.fresh = true)
    (hp : s.pump.waiting = none) (hx : ∀ y, x = some y → y.step.dwellTime ≠ 0) : s.mayPrepare .hatch x :=
  ⟨⟨hf, fun h => absurd hp h⟩, fun _ y hy _ => hx y hy⟩

/-- Contexts and queues without a current step are bound to each other, where the finitely many tests of that say so. -/
theorem queueLaw_of_idle {s : State} (hc : ∀ a, (s.axis a).current = none)
    (h : ∀ a ∈ allAxes, (s.queue a).Nodup ∧ ∀ c : Fin 16, (c ∈ s.queue a ↔ s.contexts[c].axis = some a)
      ∧ (s.contexts[c].state = .active ∨ s.contexts[c].state = .closing → s.contexts[c].axis = some a → s.head a = some c)
      ∧ (s.head a = some c → (s.contexts[c].state = .queued → (s.axis a).state = .fault)
        ∧ ((s.axis a).state = .fault → s.contexts[c].state ≠ .active)))
    (hf : ∀ c : Fin 16, (s.contexts[c].state = .free ↔ s.contexts[c].axis = none)
      ∧ (s.contexts[c].state = .free ↔ s.contexts[c].owner = none)) : s.queueLaw := by
  have h' (a : Axis) := h a (by cases a <;> decide)
  exact ⟨fun a => (h' a).1, fun c a => ((h' a).2 c).1, fun c => (hf c).1, fun c => (hf c).2,
    fun c a => ((h' a).2 c).2.1, fun _ => ⟨fun a c => ((h' a).2 c).2.2, fun a _ => hc a, fun a x hx => by simp [hc] at hx⟩⟩

/-- Axis records without a moving axis are lawful, where the finitely many tests of that say so. -/
theorem axesLawful_of {s : State} (h : ∀ a ∈ allAxes, ((s.axis a).state = .fault ↔ (s.axis a).fault.isSome = true)
      ∧ (s.axis a).state ≠ .moving ∧ (s.axis a).drive = driveOff ∧ (s.axis a).stall = none
      ∧ ((s.axis a).state ≠ .preparing → (s.axis a).warnStart = none ∧ (s.axis a).prepareDeadline = none)
      ∧ ((s.axis a).state ≠ .dwell → (s.axis a).dwellDeadline = none)
      ∧ ((s.axis a).state ≠ .stopping → (s.axis a).stopDeadline = none)
      ∧ ((s.axis a).state = .dwell → (s.axis a).holds = noHolds ∧ (s.axis a).current.isSome = true)
      ∧ ((s.axis a).state = .hold → (s.axis a).holds ≠ noHolds)
      ∧ ((s.axis a).state = .stopping → (s.axis a).current = none → (s.axis a).holds = noHolds)
      ∧ ((s.axis a).state = .idle ∨ (s.axis a).state = .fault → (s.axis a).holds = noHolds ∧ (s.axis a).current = none)) :
    s.axesLawful := by
  intro a
  obtain ⟨h1, h2, h3, h4, h5, h6, h7, h8, h9, h10, h11⟩ := h a (by cases a <;> decide)
  exact ⟨h1, fun h => absurd h h2, fun _ => ⟨h3, h4⟩, h5, h6, h7, h8, h9, h10, h11⟩

theorem witness_ackFault_queueLaw : faultedQueue.queueLaw ∧ faultedProgram.queueLaw :=
  ⟨queueLaw_of_idle (by intro a; cases a <;> rfl) (by decide +kernel) (by decide +kernel),
   queueLaw_of_idle (by intro a; cases a <;> rfl) (by decide +kernel) (by decide +kernel)⟩

theorem witness_ackFault_takesUp :
    faultedProgram.axesLawful ∧ faultedProgram.mayPrepare .hatch (some { context := 0, step := hatchStep true })
      ∧ (let t := after (.ackFault 0 0) faultedProgram
         t.unsettled = false ∧ faultedProgram.contexts[(0 : Fin 16)].steps = hatchStep true :: []
           ∧ (t.axis .hatch).state = .preparing ∧ (t.axis .hatch).prepareDeadline = some 30000
           ∧ t.pump.owner = some .hatch) := by
  exact ⟨axesLawful_of (by decide +kernel), mayPrepare_hatch rfl rfl (by rintro _ ⟨⟩; decide), by decide +kernel⟩

theorem witness_AckFaultLeavesFault :
    let queued := faultedQueue
    (after (.ackFault 0 0) queued).unsettled = false ∧ (faulted.axis .hatch).state = .fault
      ∧ (faulted.causes .hatch).any id = false ∧ faulted.head .hatch = none
      ∧ queued.head .hatch = some 0 ∧ queued.contexts[(0 : Fin 16)].steps = []
      ∧ queued.contexts[(0 : Fin 16)].state = .queued := by decide +kernel

theorem witness_PositionSamplesDriveTheAxis :
    let s := running .moving noHolds true []
    let far := running .hold paused true []
    (∀ p ∈ ([294, 295] : List Int), (sampled p s).workedPermits = s.permits ∧ beyondMargin s.config.gear .hatch (some p) = false)
      ∧ (s.axis .hatch).state = .moving ∧ (s.axis .hatch).current = some { context := 0, step := hatchStep true }
      ∧ (hatchStep true).dwellTime ≠ 0
      ∧ ((sampled 931 far).workedPermits = far.permits ∧ beyondMargin far.config.gear .hatch (some 931) = true
          ∧ beyondMargin far.config.gear .hatch (far.measured .hatch) = false ∧ (far.axis .hatch).state ≠ .fault
          ∧ (far.axis .hatch).state ≠ .moving) := by decide +kernel

/-- The windlass executes a program, with three reverse pulses counted. -/
def windlassAt (state : AxisState) (reverse : Nat) : State :=
  { (listening.onAxis .windlass fun r => { r with
      state := state,
      current := some { context := 2, step := { hatchStep true with target := 30000 } } }) with
    gypsy := { count := 10, reverse := reverse, grant := 0 } }

theorem witness_PulsesCountTheRode :
    let s := windlassAt .moving 3
    ((s.axis .windlass).state ≠ .idle ∧ (s.axis .windlass).state ≠ .fault ∧ s.gypsy.reverse = 3
        ∧ ((s.axis .windlass).current.map fun c => c.step.direction) = some .out)
      ∧ (State.reset.inputs.anchorHome = true → State.reset.gypsy.count = 0) := by decide +kernel

/-- The windlass pays out towards a step's target with this many pulses counted, the anchor-home switch as given, and this
maximum rode. -/
def payingOut (count : Nat) (home : Bool) (maxRode : Nat) : State :=
  let s := windlassAt .moving 0
  { s with
    inputs := { s.inputs with anchorHome := home }, gypsy := { s.gypsy with count := count },
    config := { s.config with gear := { s.config.gear with maxRode := maxRode } } }

theorem witness_pulses_check_the_rode :
    let s := payingOut 10 false 90000
    let out := payingOut 122 false 10000
    let home : State := { payingOut 0 true 90000 with inputs := { s.inputs with anchorHome := true } }
    ((s.axis .windlass).current.any fun c => decide (c.step.direction = .inward)) = false
      ∧ (s.measured .windlass = some 900 ∧ (s.axis .windlass).state = .moving
          ∧ beyondMargin s.config.gear .windlass (some 990) = false
          ∧ ((after (.windlassPulse true) s).axis .windlass).state = .moving)
      ∧ (beyondMargin out.config.gear .windlass (some 11070) = true
          ∧ beyondMargin out.config.gear .windlass (out.measured .windlass) = false
          ∧ ((out.axis .windlass).current.all fun c => !c.step.arrived .windlass (some 11070)) = true
          ∧ ((after (.windlassPulse true) out).axis .windlass).state = .fault)
      ∧ (home.measured .windlass = some 0 ∧ home.workedPermits = s.permits
          ∧ ((after (.anchorHomeChange true) s).axis .windlass).state = .moving) := by decide +kernel

theorem witness_homeLaw : (waiting (.windlassPulse true)).homeLaw ∧ ∃ t, step (waiting (.windlassPulse true)) = .next t :=
  ⟨fun _ => rfl, _, rfl⟩

theorem witness_DetectedFaultsAreEntered :
    let s := running .moving noHolds true []
    State.reset.sensors.hatch.staleDeadline = none ∧ s.sensors.hatch.staleDeadline ≠ none
      ∧ ((s.axis .hatch).state ≠ .idle ∧ (s.axis .hatch).state ≠ .fault) ∧ (faulted.axis .hatch).state = .fault
      ∧ faulted.sensors.hatch.staleDeadline ≠ none
      ∧ (State.reset.inputs.overload = false ∧ (windlassAt .moving 0).inputs.overload = false
          ∧ ((windlassAt .moving 0).axis .windlass).state ≠ .idle)
      ∧ (State.reset.axis .hatch).stall = none
      ∧ ((s.axis .hatch).stall = some { deadline := 1000, startedAt := 100 }
          ∧ (s.axis .hatch).current = some { context := 0, step := hatchStep true }
          ∧ (s.axis .hatch).state = .moving ∧ ¬ minimumProgress .hatch ≤ s.progressAt .hatch - 100) := by
  decide +kernel

theorem witness_detectedFaults_endPrograms :
    (running .moving noHolds true []).queueLaw
      ∧ (let s := running .moving noHolds true []
         (s.axis .hatch).takesReason = true ∧ s.head .hatch = some 0 ∧ s.pump.owner = some .hatch
           ∧ s.pump.waiting ≠ some .hatch ∧ (after (.staleTimerExpiry .hatch) s).unsettled = false) :=
  ⟨running_queueLaw (by decide), by decide +kernel⟩

/-- The hatch stops without a step, and the context at its head holds none. -/
def stoppingEmpty : State := (running .stopping noHolds true []).onAxis .hatch fun r => { r with current := none }

/-- The same with a step waiting at the head. -/
def stoppingNext : State := stoppingEmpty.onContext 0 fun x => { x with steps := [hatchStep true] }

theorem witness_stopTimer_queueLaw : stoppingEmpty.queueLaw ∧ stoppingNext.queueLaw :=
  ⟨queueLaw_of_idle (by intro a; cases a <;> rfl) (by decide +kernel) (by decide +kernel),
   queueLaw_of_idle (by intro a; cases a <;> rfl) (by decide +kernel) (by decide +kernel)⟩

theorem witness_stopTimer_takesUp :
    stoppingNext.axesLawful ∧ stoppingNext.mayPrepare .hatch (some { context := 0, step := hatchStep true })
      ∧ (let t := after (.stopTimerExpiry .hatch) stoppingNext
         (stoppingNext.axis .hatch).current = none ∧ stoppingNext.contexts[(0 : Fin 16)].state = .active
           ∧ t.unsettled = false ∧ (t.axis .hatch).state = .preparing)
      ∧ stoppingEmpty.pump.owner = some .hatch ∧ stoppingEmpty.pump.waiting ≠ some .hatch :=
  ⟨axesLawful_of (by decide +kernel), mayPrepare_hatch rfl rfl (by rintro _ ⟨⟩; decide), by decide +kernel, rfl, by decide⟩

theorem witness_WarnAndStopTimesMoveTheAxis :
    let s := running .preparing noHolds true []
    let met : State := { s with pump := { s.pump with grant := s.raw pumpSlot } }
    let stopping := running .stopping noHolds true []
    let held := running .stopping paused true []
    let ended := stoppingEmpty
    let stale := { stopping with sensors := { stopping.sensors with hatch := { stopping.sensors.hatch with fresh := false } } }
    ((State.reset.axis .hatch).warnStart = none ∧ (State.reset.axis .hatch).current = none)
      ∧ ((met.axis .hatch).warnStart ≠ none ∧ (met.axis .hatch).state = .preparing ∧ (met.axis .hatch).holds = noHolds
          ∧ met.pump.owner = some .hatch ∧ met.permit .hatch .out = true
          ∧ (hatchStep true).arrived .hatch (met.measured .hatch) = false)
      ∧ ((stopping.axis .hatch).stopDeadline ≠ none ∧ (stopping.axis .hatch).state = .stopping
          ∧ (stopping.axis .hatch).current ≠ none ∧ (stopping.axis .hatch).holds = noHolds)
      ∧ (stopping.sensors.hatch.fresh = true ∧ stopping.pump.waiting = none ∧ (hatchStep true).dwellTime ≠ 0
          ∧ (after (.stopTimerExpiry .hatch) stopping).unsettled = false)
      ∧ (stale.sensors.get .hatch).fresh = false
      ∧ (held.axis .hatch).holds ≠ noHolds
      ∧ ((ended.axis .hatch).current = none ∧ ended.contexts[(0 : Fin 16)].steps = []
          ∧ (after (.stopTimerExpiry .hatch) ended).unsettled = false) := by decide +kernel

theorem witness_DwellEndFinishesTheStep :
    let closing := (running .dwell noHolds false []).onContext 0 fun x => { x with state := .closing }
    let final := running .dwell noHolds true []
    let more := running .dwell noHolds false [{ hatchStep true with start := 300, target := 600 }]
    ((State.reset.axis .hatch).dwellDeadline = none)
      ∧ ((final.axis .hatch).dwellDeadline ≠ none ∧ (final.axis .hatch).state = .dwell
          ∧ (final.axis .hatch).current = some { context := 0, step := hatchStep true })
      ∧ closing.contexts[(0 : Fin 16)].state = .closing
      ∧ (running .dwell noHolds false []).contexts[(0 : Fin 16)].steps = []
      ∧ (more.head .hatch = some 0 ∧ more.contexts[(0 : Fin 16)].steps ≠ [])
      ∧ (after (.dwellEnd .hatch) final).unsettled = false := by decide +kernel

theorem witness_dwellEnd_queueLaw : (running .dwell noHolds true []).queueLaw := running_queueLaw (by decide)

/-- The hatch ends its dwell at the final step of a program, with these steps in the program behind it. -/
def succeeded (steps : List Step) : State :=
  { running .dwell noHolds true [] with
    contexts := (running .dwell noHolds true []).contexts.set 1
      { contextStart with state := .queued, owner := some .link, axis := some .hatch, steps := steps } }

theorem witness_dwellEnd_successor :
    (∀ steps, (succeeded steps).queue .hatch = 0 :: 1 :: [] ∧ (succeeded steps).contexts[(1 : Fin 16)].steps = steps)
      ∧ (after (.dwellEnd .hatch) (succeeded [])).unsettled = false
      ∧ (succeeded [hatchStep true]).axesLawful
      ∧ (succeeded [hatchStep true]).mayPrepare .hatch (some { context := 1, step := hatchStep true })
      ∧ (let t := after (.dwellEnd .hatch) (succeeded [hatchStep true])
         t.unsettled = false ∧ (t.axis .hatch).state = .preparing ∧ t.contexts[(0 : Fin 16)].state = .free) :=
  ⟨fun _ => ⟨rfl, rfl⟩, by decide +kernel, axesLawful_of (by decide +kernel),
   mayPrepare_hatch rfl rfl (by rintro _ ⟨⟩; decide), by decide +kernel⟩

/-! ### Programs -/

theorem witness_ProgramStepsPassTheirChecks :
    let s := running .hold { noHolds with starved := true, linkPause := true } false []
    let alone := running .hold { noHolds with starved := true } false []
    s.contexts[(0 : Fin 16)].axis = some .hatch ∧ s.contexts[(0 : Fin 16)].admission = .open
      ∧ (s.head .hatch = some 0 ∧ s.contexts[(0 : Fin 16)].state = .active)
      ∧ ((s.axis .hatch).holds.starved = true ∧ (s.axis .hatch).state = .hold)
      ∧ ((alone.axis .hatch).holds = { noHolds with starved := true } ∧ alone.sensors.hatch.fresh = true
          ∧ alone.pump.waiting = none)
      ∧ (after (.programStep 0 1 oneStep) s).unsettled = false := by decide +kernel

/-- The hatch is in IDLE, at 100, and the head of its queue is an ACTIVE context that has no step yet. -/
def idleHead : State :=
  { (running .idle noHolds true []).onAxis .hatch fun r => { r with current := none } with pump := pumpStart }

theorem witness_programStep_takesUp :
    let first : StepFields := { oneStep with start := 100 }
    idleHead.queueLaw ∧ idleHead.axesLawful
      ∧ (∀ y : Step, y.dwellTime ≠ 0 → idleHead.mayPrepare .hatch (some { context := 0, step := y }))
      ∧ (idleHead.contexts[(0 : Fin 16)].state = .active ∧ (idleHead.axis .hatch).state = .idle
          ∧ idleHead.head .hatch = some 0)
      ∧ (let t := after (.programStep 0 0 first) idleHead
         t.unsettled = false ∧ (t.axis .hatch).state = .preparing ∧ (t.axis .hatch).warnStart = some 0
           ∧ t.contexts[(0 : Fin 16)].admission = .done ∧ t.contexts[(0 : Fin 16)].steps = []) :=
  ⟨queueLaw_of_idle (by intro a; cases a <;> rfl) (by decide +kernel) (by decide +kernel), axesLawful_of (by decide +kernel),
   fun _ hy => mayPrepare_hatch rfl rfl (by rintro _ ⟨⟩; exact hy), by decide +kernel, by decide +kernel⟩

theorem witness_programStep_queueLaw :
    (running .hold { noHolds with starved := true, linkPause := true } false []).queueLaw := running_queueLaw (by decide)

theorem witness_CancelsEndOrClosePrograms :
    let s := running .moving noHolds true []
    let closing := s.onContext 0 fun x => { x with state := .closing }
    (s.contexts[(0 : Fin 16)].state = .active ∧ s.hasCurrent 0 = true ∧ s.contexts[(1 : Fin 16)].state = .queued
        ∧ s.contexts[(1 : Fin 16)].axis = some .hatch)
      ∧ closing.contexts[(0 : Fin 16)].state = .closing
      ∧ (after (.cancelImmediate 0 0) s).unsettled = false ∧ (after (.cancelImmediate 0 0) closing).unsettled = false := by
  decide +kernel

theorem witness_cancel_queueLaw : (running .moving noHolds true []).queueLaw := running_queueLaw (by decide)

theorem witness_TimersEndPrograms :
    let s := running .preparing noHolds true []
    let starved := (running .hold { noHolds with starved := true } false []).onContext 0 fun x =>
      { x with starveDeadline := some 2000 }
    let held : State := { (running .hold { noHolds with released := true } true []) with
      runs := { State.reset.runs with
        hatch := some { context := 0, panel := 1, tag := 2, released := true, deadline := some 10000 } } }
    ((State.reset.axis .hatch).prepareDeadline = none ∧ (s.axis .hatch).prepareDeadline ≠ none
        ∧ s.head .hatch = some 0 ∧ (after (.prepareTimerExpiry .hatch) s).unsettled = false)
      ∧ (State.reset.contexts[(0 : Fin 16)].starveDeadline = none ∧ starved.contexts[(0 : Fin 16)].starveDeadline ≠ none
          ∧ starved.contexts[(0 : Fin 16)].axis = some .hatch
          ∧ (after (.starvationTimerExpiry 0) starved).unsettled = false)
      ∧ (State.reset.runs.hatch = none ∧ (held.runs.get .hatch).isSome = true
          ∧ held.contexts[(0 : Fin 16)].axis = some .hatch
          ∧ (after (.releaseTimerExpiry .hatch) held).unsettled = false) := by decide +kernel

theorem witness_timers_queueLaw :
    (running .preparing noHolds true []).queueLaw
      ∧ (running .hold { noHolds with starved := true } false []).queueLaw
      ∧ (running .hold { noHolds with released := true } true []).queueLaw :=
  ⟨running_queueLaw (by decide), running_queueLaw (by decide), running_queueLaw (by decide)⟩

theorem witness_PauseAndResumeHoldTheAxis :
    let s := running .moving noHolds true []
    let alone := running .hold paused true []
    let ready := (running .preparing paused true []).onAxis .hatch fun r => { r with warnReached := true }
    State.reset.contexts[(0 : Fin 16)].state = .free
      ∧ (s.contexts[(0 : Fin 16)].state = .active ∧ s.contexts[(0 : Fin 16)].axis = some .hatch
          ∧ (s.axis .hatch).takesReason = true)
      ∧ ((alone.axis .hatch).state = .hold
          ∧ ({ (alone.axis .hatch).holds with linkPause := false, linkSilent := false } : HoldSet) = noHolds
          ∧ noHolds ≠ (alone.axis .hatch).holds)
      ∧ (alone.sensors.hatch.fresh = true ∧ alone.pump.waiting = none
          ∧ (after (.resumeProgram 0 0) alone).unsettled = false)
      ∧ ((ready.axis .hatch).state = .preparing ∧ (ready.axis .hatch).warnReached = true
          ∧ (ready.axis .hatch).current = some { context := 0, step := hatchStep true }
          ∧ ready.gatesMet .hatch (hatchStep true) = true
          ∧ (hatchStep true).arrived .hatch (ready.measured .hatch) = false) := by decide +kernel

/-- A paused hatch whose warn time is 0: every gate is met as soon as it prepares again. -/
def unwarned : State :=
  let s := running .hold paused true []
  { s with config := { s.config with axes := s.config.axes.set .hatch { s.config.axes.hatch with warnTime := 0 } } }

theorem witness_resume_without_warning :
    unwarned.mayPrepare .hatch (some { context := 0, step := hatchStep true })
      ∧ ((after (.resumeProgram 0 0) unwarned).axis .hatch).state = .moving :=
  ⟨mayPrepare_hatch rfl rfl (by rintro _ ⟨⟩; decide), by decide +kernel⟩

theorem witness_InputsWorkThePermits :
    let s (state : AxisState) (value : Bool) : State :=
      { running state noHolds true [] with
        permits := { State.reset.permits with hatch := { out := value, inward := value } } }
    (∀ state : AxisState, ∀ value : Bool,
      (((s state value).axis .hatch).current.bind fun c => c.step.direction.interlock) = some .out
        ∧ (s state value).permit .hatch .out = value ∧ ((s state value).axis .hatch).state = state)
      ∧ ((s .moving false).axis .hatch).takesReason = true ∧ ((s .moving false).axis .hatch).holds.interlock = false := by
  refine ⟨fun state value => ?_, by decide +kernel⟩
  cases value <;> exact ⟨rfl, rfl, rfl⟩

theorem witness_windlass_grants :
    let s := (windlassAt .moving 0).onSlot windlassSlot fun k => { k with raw := 850 }
    let held := (windlassAt .hold 0).onAxis .windlass fun r => { r with holds := { noHolds with shed := true } }
    (849 < s.raw windlassSlot ∧ 850 = s.raw windlassSlot ∧ s.raw windlassSlot < 851)
      ∧ ((s.axis .windlass).takesReason = true ∧ (s.axis .windlass).holds.shed = false)
      ∧ (0 = held.raw windlassSlot ∧ (held.axis .windlass).holds.shed = true ∧ (held.axis .windlass).state = .hold) := by
  decide +kernel

/-- The hatch prepares with the pump its own, the pump rating granted, a hold-off set for slot 48, and the platform or nothing
waiting. -/
def handing (waiting : Option Hydraulic) : State :=
  let s := (running .preparing noHolds true []).onSlot pumpSlot fun k =>
    { k with raw := 900, effective := 900, grant := 900, delivered := 900 }
  { s with
    pump := { s.pump with waiting := waiting, grant := 900 },
    config := { s.config with
      pumpRating := 900, slots := s.config.slots.set pumpSlot { s.config.slots[pumpSlot] with holdOff := 5 } } }

theorem witness_pump_queueLaw (w : Option Hydraulic) : (handing w).queueLaw :=
  running_queueLaw (state := .preparing) (by decide)

theorem witness_pump_axesLawful (w : Option Hydraulic) : (handing w).axesLawful := by
  intro a
  cases a <;> simp [AxisRecord.lawful, handing, running, State.axis, PerAxis.get, State.onAxis, PerAxis.set, listening,
    State.reset, axisStart, noHolds]

theorem witness_PumpIsRequestedAndHandedOn :
    (∀ w : Option Hydraulic, w = none ∨ w = some .platform →
      (handing w).contexts[(0 : Fin 16)].axis = some .hatch ∧ (handing w).contexts[(0 : Fin 16)].state = .active
        ∧ (handing w).pump.owner = some .hatch ∧ ((handing w).axis .hatch).state = .preparing
        ∧ (handing w).pump.waiting = w ∧ 0 < (handing w).budget.slots[pumpSlot].grant
        ∧ (handing w).budget.slots[pumpSlot].grant ≤ (handing w).config.pumpRating
        ∧ (handing w).config.slots[pumpSlot].holdOff ≠ 0 ∧ (handing w).demandLaw)
      ∧ (after (.cancelImmediate 0 0) (handing none)).unsettled = false := by
  refine ⟨?_, by decide +kernel⟩
  rintro w (rfl | rfl) <;>
    exact ⟨rfl, rfl, rfl, rfl, rfl, by decide +kernel, by decide +kernel, by decide +kernel, fun _ => by decide +kernel⟩

/-! ### The chime, the panels and the store -/

/-- A notice plays its first note, and the hatch's motion lane sounds. -/
def sounding : State :=
  let s := State.reset.joinNotice { pattern := 0, zones := [3], repeats := 1, played := 0 }
  { s with chime := { s.chime with lanes := { s.chime.lanes with hatch := s.startNote 0 0 } } }

theorem witness_ChimeLanesPlayTheirNotes :
    (State.reset.chime.playing = none ∧ State.reset.chime.lanes.hatch = none)
      ∧ (sounding.chime.playing.isSome = true ∧ sounding.chime.notices.head?.isSome = true)
      ∧ (sounding.chime.lanes.get .hatch).isSome = true := by decide +kernel

/-- Panel 0 holds tag 12 pressed at (600, 230). -/
def pressed : State :=
  State.reset.onPanel 0 fun p => { p with touch := .down 12 600 230, silenceDeadline := some 1000 }

theorem witness_PanelRecordsAreStored :
    State.reset.panels[(0 : Fin 12)].touch.code ≠ 2 ∧ pressed.panels[(0 : Fin 12)].touch = .down 12 600 230 := by
  decide +kernel

theorem witness_PanelFramesActOnTheTouchState :
    let map := State.reset.config.tagMaps[(0 : Fin 12)].set 1 { x0 := 560, y0 := 200, x1 := 680, y1 := 260, tag := 12 }
    (map[(1 : Fin 32)].tag ≠ 0 ∧ ∀ j : Fin 32, j < 1 → map[j].tag = 0)
      ∧ (∀ j : Fin 32, State.reset.config.tagMaps[(0 : Fin 12)][j].tag = 0)
      ∧ (State.reset.panels[(0 : Fin 12)].touch = .absent ∧ pressed.panels[(0 : Fin 12)].touch = .down 12 600 230)
      ∧ (State.reset.panels[(0 : Fin 12)].silenceDeadline = none ∧ pressed.panels[(0 : Fin 12)].silenceDeadline ≠ none) := by
  decide +kernel

/-- Tag 12 bound to a kind, with a hold-to-run flag. -/
def boundTo (kind : BindingKind) (s : State) : State :=
  { s with config := { s.config with bindings := s.config.bindings.set 11 { emptyBinding with kind := kind } } }

theorem witness_AllowedActionsActOnTheZone :
    ∀ k ∈ ([.scene, .levelUp, .levelDown, .setpointUp, .setpointDown, .mode] : List BindingKind),
      ((boundTo k State.reset).binding 12).kind = k ∧ ((boundTo k State.reset).binding 12).argument = (0 : Fin 32).val := by
  decide +kernel

/-- A hold-to-run program runs from panel 0 and tag 12. -/
def heldRun (released : Bool) : State :=
  { State.reset with runs := { State.reset.runs with
      hatch := some { context := 0, panel := 0, tag := 12, released := released, deadline := none } } }

theorem witness_PressesPassTheAuthorityChecks :
    State.reset.findRun 0 12 true = none
      ∧ (∀ k ∈ ([.none, .scene, .mode, .axisGoto, .chimeAck, .reportOnly] : List BindingKind),
          (boundTo k State.reset).binding 12 = { emptyBinding with kind := k })
      ∧ (BindingKind.scene.code = 1 ∧ BindingKind.mode.code = 6)
      ∧ ((heldRun true).findRun 0 12 true).isSome = true ∧ ((heldRun false).findRun 0 12 false).isSome = true
      ∧ (heldRun true).findRun 0 12 false = none := by decide +kernel

/-- Tag 12 of the HELM panel 0 is bound to the hatch's first preset, and the hatch is at rest at 100. -/
def latchedGoto : State :=
  let s := sampled 100 listening
  { boundTo .axisGoto s with config := { (boundTo .axisGoto s).config with
      panels := s.config.panels.set 0 { s.config.panels[(0 : Fin 12)] with
        cls := .helm, permissions := { hatch := true, platform := false, windlass := false } } } }

theorem witness_presses_takeUp :
    latchedGoto.axesLawful ∧ latchedGoto.findRun 0 12 true = none
      ∧ (∀ y : Step, y.dwellTime ≠ 0 → latchedGoto.mayPrepare .hatch (some { context := 0, step := y }))
      ∧ (let u := settle (handle (.press 0 12) latchedGoto)
         u.unsettled = false ∧ (latchedGoto.axis .hatch).state = .idle ∧ (u.axis .hatch).state = .preparing
           ∧ u.queue .hatch = [0]) :=
  ⟨axesLawful_of (by decide +kernel), by decide +kernel,
   fun _ hy => mayPrepare_hatch rfl rfl (by rintro _ ⟨⟩; exact hy), by decide +kernel⟩

/-- In the reply an unread target is 0, while R155 stores HOME, which the image carries as 0xFF (R155, R182, R183). -/
theorem test_unread_target :
    ({ emptyBinding with kind := .axisGoto } : Binding).replyBytes.take 2 = [7, 0]
      ∧ ({ emptyBinding with kind := .axisGoto } : Binding).bytes.take 2 = [7, 0xFF]
      ∧ ({ emptyBinding with kind := .scene } : Binding).replyBytes.take 2 = [1, 0xFF] := by decide

theorem witness_SavesWriteTheImage :
    let s : State := { State.reset with store := { State.reset.store with
      eeprom := [1, 2], saving := some { image := [3, 4], deadline := 400 } } }
    State.reset.store.saving = none ∧ s.store.saving = some { image := [3, 4], deadline := 400 }
      ∧ s.store.eeprom.length = ([3, 4] : List Byte).length := by decide +kernel

/-- An accepted reset whose reply has been sent. -/
def resetDue (kind : ResetKind) : State :=
  { listening with link := { listening.link with resetPending := some kind, receiving := false } }

theorem witness_StartUpsInstallTheImage :
    (resetDue .cold).link.resetPending = some .cold ∧ (resetDue .cold).link.sending = none
      ∧ (resetDue .cold).link.replies = [] ∧ State.reset.store.saving = none
      ∧ (after (.coldReset .silent inputsStart) (resetDue .cold)).unsettled = false
      ∧ (after (.powerOn .silent inputsStart) State.reset).unsettled = false := by
  decide +kernel

theorem witness_WarmResetKeepsTheConfiguration :
    (resetDue .warm).link.resetPending = some .warm ∧ (resetDue .warm).link.sending = none
      ∧ (resetDue .warm).link.replies = [] ∧ (resetDue .warm).store.saving = none
      ∧ (resetDue .warm).budget.mode = .hold ∧ (after .warmReset (resetDue .warm)).unsettled = false
      ∧ ∀ z : Fin 24, ∀ i : Fin 4, (resetDue .warm).zones[z].channels[i].fading = false := by decide +kernel

/-! ### The laws -/

theorem witness_GrantsStayWithinTheirBounds :
    (waiting .outputFrame).sumWithin ∧ (waiting .outputFrame).grantsWithin ∧ (∃ t, step (waiting .outputFrame) = .next t)
      ∧ (after .outputFrame State.reset).budget.mode = .hold := by
  refine ⟨fun h => absurd h (by decide), ?_, ⟨_, rfl⟩, by decide +kernel⟩
  unfold State.grantsWithin
  decide +kernel

theorem witness_AxisRecordsStayLawful : State.reset.axesLawful := by
  intro a
  cases a <;>
    simp [AxisRecord.lawful, State.reset, State.axis, PerAxis.get, axisStart, noHolds]

theorem witness_PumpServesOneAxis : State.reset.pumpLaw ∧ State.reset.runLaw := by
  refine ⟨?_, ?_⟩
  · intro h; cases h <;> decide
  · unfold State.runLaw; decide

theorem witness_QueuesHoldTheirContexts :
    (running .moving noHolds true []).queueLaw ∧ ∃ t, step (running .moving noHolds true []) = .next t :=
  ⟨running_queueLaw (by decide), _, rfl⟩

theorem witness_NoAxisMovesWithoutItsPermit :
    State.reset.axesLawful ∧ State.reset.permitsFresh ∧ State.reset.movesPermitted := by
  refine ⟨witness_AxisRecordsStayLawful, ?_, ?_⟩
  · unfold State.permitsFresh; decide +kernel
  · intro _ a d h; cases a <;> exact absurd h (by decide)

theorem witness_DemandsFollowTheirOwners :
    State.reset.demandLaw ∧ State.reset.queueLaw :=
  ⟨fun _ => by decide +kernel,
   queueLaw_of_idle (by intro a; cases a <;> rfl) (by decide +kernel) (by decide +kernel)⟩

theorem witness_MotionLanesFollowTheirAxes : State.reset.laneLaw := by
  refine ⟨by decide +kernel, fun a => ?_⟩
  unfold AxisState.warns
  cases a <;> decide +kernel

theorem witness_ReportsFollowTheChanges :
    let s := waiting (.setSetpoint 1 0 300)
    let t := after (.setSetpoint 1 0 300) { State.reset with pending := [] }
    step s = .next t ∧ t.unsettled = false ∧ t.zones[(0 : Fin 24)].setpoint ≠ s.zones[(0 : Fin 24)].setpoint
      ∧ ∃ f, (faulted.axis .hatch).fault = some f :=
  ⟨step_after rfl, by decide +kernel, by decide +kernel, _, rfl⟩

theorem witness_reports_axis_and_fault :
    let s : State := { running .moving noHolds true [] with pending := [.overloadInput false, .cancelImmediate 0 0] }
    let u : State := { windlassAt .moving 0 with pending := [.overloadInput true] }
    (after (.cancelImmediate 0 0) s).unsettled = false
      ∧ ((after (.cancelImmediate 0 0) s).axis .hatch).state ≠ (s.axis .hatch).state
      ∧ (after (.overloadInput true) u).unsettled = false
      ∧ ((after (.overloadInput true) u).axis .windlass).fault ≠ (u.axis .windlass).fault
      ∧ ((after (.overloadInput true) u).axis .windlass).fault.isSome = true := by decide +kernel

theorem witness_reports_travel :
    let s : State := { running .moving noHolds true [] with pending := [.positionSample .hatch 150] }
    let t := after (.positionSample .hatch 150) s
    t.unsettled = false ∧ (t.axis .hatch).state = .moving ∧ (t.axis .hatch).travelRef ≠ (s.axis .hatch).travelRef := by
  decide +kernel

theorem witness_sensorLaw :
    State.reset.sensorLaw ∧ (waiting (.positionSample .hatch 150)).sensorLaw ∧ (running .moving noHolds true []).sensorLaw := by
  refine ⟨?_, ?_, ?_⟩ <;> intro h <;> cases h <;> decide

theorem witness_QueuesKeepTheirOrder : State.reset.reportLaw ∧ State.reset.cueLaw := by
  unfold State.reportLaw State.cueLaw
  decide +kernel

theorem witness_ZonesStayWithinTheirGrants : State.reset.zonesWithin ∧ State.reset.stageLaw := by
  refine ⟨?_, ?_⟩
  · intro _
    unfold Zone.foreseen Channel.onFade Zone.outputsFollow
    decide +kernel
  · unfold State.stageLaw Zone.runsWithin
    decide +kernel

theorem witness_factory_valid : factory.valid := by
  refine ⟨by decide, by decide, ?_, ?_, ?_, ?_, by decide, ?_, ?_, by decide, by decide, ?_, ?_, ?_, ?_, by decide,
    by decide⟩
  · unfold SlotConfig.valid; decide +kernel
  · unfold ZoneConfig.valid; decide +kernel
  · unfold Scene.valid; decide +kernel
  · intro a; cases a <;> (unfold AxisConfig.valid; decide +kernel)
  · unfold GearConfig.valid; decide +kernel
  · intro a d; cases a <;> cases d <;> decide +kernel
  · unfold Pattern.valid; decide +kernel
  · unfold PanelConfig.valid; decide +kernel
  · unfold TagEntry.valid; decide +kernel
  · unfold Binding.valid; decide +kernel

theorem witness_StoredImagesReadBack : factory.valid := witness_factory_valid

theorem witness_ConfigurationStaysInRange :
    State.reset.config.valid ∧ (Instr.setSupply 0 65535 255).wellFormed = true
      ∧ ∃ t, exec (.setSupply 0 65535 255) State.reset = .next t :=
  ⟨witness_factory_valid, by decide, _, rfl⟩

end Sys2Proof.Tests
end

section
/-! What the signals between the blocks do to the Budget Allocator. `State.books` is all that the laws of the Budget speak
of; every signal but a posting, a pass and what a pass sends on leaves it alone. -/

namespace Sys2Proof.Machine

/-! ## The books -/

/-- The grant that the owner of a slot has received; an AUX slot has no owner inside the part (R5, R19). -/
def State.received (s : State) (k : Fin 52) : Option Nat :=
  match indexOf 24 k.val, indexOf 24 (k.val - 24) with
  | some z, _ => some s.zones[z].lightGrant
  | none, some z => some s.zones[z].climate.grant
  | none, none =>
    if k = pumpSlot then some s.pump.grant else if k = windlassSlot then some s.gypsy.grant else none

/-- What the report queue holds for the BUDGET report (R176). -/
def State.budgetEntry (s : State) : Option ReportEntry := s.link.reports.find? (·.key = .budget)

/-- All that the laws of the Budget Allocator speak of. -/
structure Books where
  budget : Budget
  slots : Vector SlotConfig 52
  unsettled : Bool
  received : Fin 52 → Option Nat
  entry : Option ReportEntry
  sending : Option Sending

/-- The books of a state. -/
def State.books (s : State) : Books :=
  { budget := s.budget, slots := s.config.slots, unsettled := s.unsettled, received := s.received, entry := s.budgetEntry,
    sending := s.link.sending }

/-! ## The updates -/

/-- A replaced entry of another key leaves the entry of a key. -/
theorem find_replaceReport_other {key other : ReportKey} (h : other ≠ key) (content : List Byte) (q : List ReportEntry) :
    (replaceReport other content q).find? (·.key = key) = q.find? (·.key = key) := by
  induction q with
  | nil => rfl
  | cons e rest ih =>
    unfold replaceReport
    split
    · next he => simp [he, h]
    · simp only [List.find?_cons, ih]

/-- An urgent entry of another key leaves the entry of a key. -/
theorem find_insertUrgent_other {key : ReportKey} {x : ReportEntry} (h : x.key ≠ key) (q : List ReportEntry) :
    (insertUrgent x q).find? (·.key = key) = q.find? (·.key = key) := by
  induction q with
  | nil => simp [insertUrgent, h]
  | cons e rest ih =>
    unfold insertUrgent
    split
    · simp only [List.find?_cons, ih]
    · simp [h]

/-- A posting leaves the entry of every other key (R176). -/
theorem find_postTo_other {key other : ReportKey} (h : other ≠ key) (content : List Byte) (q : List ReportEntry) :
    (postTo q other content).find? (·.key = key) = q.find? (·.key = key) := by
  unfold postTo
  split
  · exact find_replaceReport_other h content q
  · split
    · next he => simp [h]
    · split
      · exact find_insertUrgent_other (x := ⟨other, content⟩) h q
      · simp [h]

/-- A replaced entry has the new content. -/
theorem find_replaceReport_same {key : ReportKey} (content : List Byte) (q : List ReportEntry)
    (h : q.any (·.key = key) = true) :
    (replaceReport key content q).find? (·.key = key) = some ⟨key, content⟩ := by
  induction q with
  | nil => simp at h
  | cons e rest ih =>
    unfold replaceReport
    split
    · next he => simp [← he]
    · next he => simpa [he] using ih (by simpa [he] using h)

/-- An inserted urgent entry is found. -/
theorem find_insertUrgent_same {x : ReportEntry} (q : List ReportEntry) (h : q.any (·.key = x.key) = false) :
    (insertUrgent x q).find? (·.key = x.key) = some x := by
  induction q with
  | nil => simp [insertUrgent]
  | cons e rest ih =>
    simp only [List.any_cons, Bool.or_eq_false_iff, decide_eq_false_iff_not] at h
    unfold insertUrgent
    split
    · simpa [h.1] using ih h.2
    · simp

/-- A posting is the first entry of its key (R176). -/
theorem find_postTo_same (key : ReportKey) (content : List Byte) (q : List ReportEntry) :
    (postTo q key content).find? (·.key = key) = some ⟨key, content⟩ := by
  unfold postTo
  split
  · next h => exact find_replaceReport_same content q h
  · next h =>
    have hnone : q.any (·.key = key) = false := by simpa using h
    split
    · simp
    · split
      · exact find_insertUrgent_same (x := ⟨key, content⟩) q hnone
      · have hq : q.find? (·.key = key) = none := by simpa using hnone
        simp [List.find?_append, hq]

/-- A posted report of another block leaves the books. -/
theorem State.post_books (s : State) (key : ReportKey) (content : List Byte) (h : key ≠ .budget) :
    (s.post key content).books = s.books := by
  simp only [State.books, State.budgetEntry, State.post, find_postTo_other h]
  rfl

@[simp] theorem State.onAxis_books (s : State) (a : Axis) (f : AxisRecord → AxisRecord) :
    (s.onAxis a f).books = s.books := rfl
@[simp] theorem State.onContext_books (s : State) (c : Fin 16) (f : Context → Context) :
    (s.onContext c f).books = s.books := rfl
@[simp] theorem State.reportAxis_books (s : State) (a : Axis) : (s.reportAxis a).books = s.books :=
  s.post_books _ _ (by simp)
@[simp] theorem State.reportZone_books (s : State) (z : Fin 24) : (s.reportZone z).books = s.books :=
  s.post_books _ _ (by simp)
@[simp] theorem State.withPumpRun_books (s : State) : s.withPumpRun.books = s.books := rfl
@[simp] theorem State.withPump_books (s : State) (o w : Option Hydraulic) : (s.withPump o w).books = s.books := rfl
@[simp] theorem State.moveTo_books (s : State) (a : Axis) (new : AxisState) : (s.moveTo a new).books = s.books := rfl
@[simp] theorem State.playNotices_books (s : State) (n : List Notice) : (s.playNotices n).books = s.books := rfl
@[simp] theorem State.enterFault_books (s : State) (a : Axis) (k : FaultKind) : (s.enterFault a k).books = s.books := rfl
@[simp] theorem State.release_books (s : State) (c : Fin 16) (a : Axis) : (s.release c a).books = s.books := rfl
@[simp] theorem State.bind_books (s : State) (c : Fin 16) (o : Owner) (a : Axis) : (s.bind c o a).books = s.books := rfl
@[simp] theorem State.makeRun_books (s : State) (a : Axis) (c : Fin 16) (p : Fin 12) (t : Nat) :
    (s.makeRun a c p t).books = s.books := rfl
@[simp] theorem State.stopNotice_books (s : State) : s.stopNotice.books = s.books := rfl
@[simp] theorem State.countDwell_books (s : State) : s.countDwell.books = s.books := rfl

@[simp] theorem State.enterHold_books (s : State) (a : Axis) : (s.enterHold a).books = s.books := by
  simp [State.enterHold]
@[simp] theorem State.enterStopping_books (s : State) (a : Axis) : (s.enterStopping a).books = s.books := by
  simp [State.enterStopping]
@[simp] theorem State.enterIdle_books (s : State) (a : Axis) : (s.enterIdle a).books = s.books := by
  simp [State.enterIdle]
@[simp] theorem State.startDwell_books (s : State) (a : Axis) : (s.startDwell a).books = s.books := by
  simp [State.startDwell]

@[simp] theorem State.driveOn_books (s : State) (a : Axis) : (s.driveOn a).books = s.books := by
  unfold State.driveOn; split <;> rfl

@[simp] theorem State.takeStep_books (s : State) (a : Axis) : (s.takeStep a).books = s.books := by
  unfold State.takeStep
  split
  · rfl
  · split
    · rfl
    · split <;> rfl

@[simp] theorem State.travelReport_books (s : State) (a : Axis) : (s.travelReport a).books = s.books := by
  unfold State.travelReport
  split
  · split <;> simp
  · rfl

@[simp] theorem State.activateHead_books (s : State) (a : Axis) : (s.activateHead a).books = s.books := by
  unfold State.activateHead
  split
  · split <;> rfl
  · rfl

@[simp] theorem State.joinNotice_books (s : State) (n : Notice) : (s.joinNotice n).books = s.books := by
  unfold State.joinNotice; split <;> rfl

@[simp] theorem State.denyTone_books (s : State) (z : Fin 24) : (s.denyTone z).books = s.books := by
  unfold State.denyTone; split
  · simp
  · rfl

/-! ## Zones -/

/-- The two grants that a zone holds. -/
def Zone.grants (z : Zone) : Nat × Nat := (z.lightGrant, z.climate.grant)

/-- Zones that hold the same grants leave the books. -/
theorem State.withZones_books (s : State) (zones : Vector Zone 24) (h : ∀ z : Fin 24, zones[z].grants = s.zones[z].grants) :
    ({ s with zones := zones } : State).books = s.books := by
  have hr : ({ s with zones := zones } : State).received = s.received := by
    funext k
    unfold State.received
    split
    · next z _ => exact congrArg (fun g : Nat × Nat => some g.1) (h z)
    · next z _ _ => exact congrArg (fun g : Nat × Nat => some g.2) (h z)
    · rfl
  simp only [State.books, hr]
  rfl

/-- The grants of a zone after another zone of the vector is replaced by one that holds the same grants. -/
theorem grants_set (zones : Vector Zone 24) (z y : Fin 24) (r : Zone) (h : r.grants = zones[z].grants) :
    (zones.set z r)[y].grants = zones[y].grants := by
  simp only [Fin.getElem_fin, Vector.getElem_set]
  split
  · next e => rw [h]; simp only [Fin.getElem_fin, e]
  · rfl

/-- A zone that keeps its grants leaves the books. -/
theorem State.onZone_books (s : State) (z : Fin 24) (f : Zone → Zone) (h : (f s.zones[z]).grants = s.zones[z].grants) :
    (s.onZone z f).books = s.books :=
  s.withZones_books _ fun y => grants_set s.zones z y _ h

@[simp] theorem Zone.onChannels_grants (z : Zone) (f : Fin 4 → Channel → Channel) : (z.onChannels f).grants = z.grants := rfl
@[simp] theorem Zone.rescale_grants (z : Zone) : z.rescale.grants = z.grants := rfl
@[simp] theorem Zone.rerun_grants (c : ZoneConfig) (z : Zone) : (z.rerun c).grants = z.grants := rfl
@[simp] theorem Zone.changeLevels_grants (l : Vector (Option Nat) 4) (f : Nat) (z : Zone) :
    (z.changeLevels l f).grants = z.grants := rfl
@[simp] theorem Zone.changeSetpoint_grants (v : Nat) (z : Zone) : (z.changeSetpoint v).grants = z.grants := rfl
@[simp] theorem Zone.stepLevels_grants (f : Nat → Nat) (z : Zone) : (z.stepLevels f).grants = z.grants := rfl

@[simp] theorem Zone.workOut_grants (c : ZoneConfig) (z : Zone) : (z.workOut c).grants = z.grants := by
  unfold Zone.workOut
  simp only
  split <;> rfl

@[simp] theorem Zone.changeMode_grants (v : Nat) (z : Zone) : (z.changeMode v).grants = z.grants := by
  unfold Zone.changeMode
  split
  · split
    · rfl
    · unfold Zone.enterMode; split <;> rfl
  · rfl

@[simp] theorem Zone.recall_grants (r : Scene) (z : Zone) : (z.recall r).grants = z.grants := by
  unfold Zone.recall
  simp only
  split <;> split <;> simp

@[simp] theorem Zone.frame_grants (z : Zone) : z.frame.grants = z.grants := by
  unfold Zone.frame; split <;> simp

@[simp] theorem CueChange.apply_grants (scenes : Vector Scene 32) (c : CueChange) (z : Zone) :
    (c.apply scenes z).grants = z.grants := by
  cases c <;> simp [CueChange.apply]

/-- An applied cue leaves the grants of every zone. -/
theorem applyEntries_grants (scenes : Vector Scene 32) (entries : List CueEntry) (zones : Vector Zone 24) (y : Fin 24) :
    (applyEntries scenes entries zones)[y].grants = zones[y].grants := by
  unfold applyEntries
  induction entries generalizing zones with
  | nil => rfl
  | cons e rest ih =>
    rw [List.foldl_cons, ih]
    exact grants_set _ _ _ _ (by simp)

theorem changeZone_books (l : Bool) (z : Fin 24) (f : Zone → Zone) (s : State)
    (h : (f s.zones[z]).grants = s.zones[z].grants) : (changeZone l z f s).1.books = s.books :=
  s.onZone_books z _ h

@[simp] theorem reportZoneChange_books (z : Fin 24) (before : Zone) (s : State) :
    (reportZoneChange z before s).books = s.books := by
  unfold reportZoneChange; split <;> simp

@[simp] theorem lightDemand_books (z : Fin 24) (s : State) : (lightDemand z s).1.books = s.books :=
  s.onZone_books z _ rfl

@[simp] theorem climateWork_books (z : Fin 24) (s : State) : (climateWork z s).1.books = s.books :=
  s.onZone_books z _ (by simp)

@[simp] theorem recallScene_books (z : Fin 24) (n : Fin 32) (s : State) : (recallScene z n s).1.books = s.books := by
  unfold recallScene; simp only; split
  · rfl
  · exact changeZone_books _ _ _ _ (by simp)

@[simp] theorem modeEvent_books (z : Fin 24) (v : Nat) (s : State) : (modeEvent z v s).1.books = s.books :=
  changeZone_books _ _ _ _ (by simp)

@[simp] theorem setpointEvent_books (z : Fin 24) (v : Nat) (s : State) : (setpointEvent z v s).1.books = s.books :=
  changeZone_books _ _ _ _ rfl

@[simp] theorem stepEvent_books (z : Fin 24) (f : Nat → Nat) (s : State) : (stepEvent z f s).1.books = s.books :=
  changeZone_books _ _ _ _ rfl

@[simp] theorem zoneAction_books (z : Fin 24) (b : Binding) (s : State) : (zoneAction z b s).1.books = s.books := by
  unfold zoneAction
  split <;> try simp
  split <;> simp

/-! ## The handlers -/

@[simp] theorem reportFault_books (a : Axis) (k : FaultKind) (p : Option Int) (s : State) :
    (reportFault a k p s).books = s.books := by
  unfold reportFault; split
  · rfl
  · exact s.post_books _ _ (by simp)

@[simp] theorem enterMoving_books (a : Axis) (s : State) : (enterMoving a s).books = s.books := by
  simp [enterMoving]

@[simp] theorem enterDwell_books (a : Axis) (s : State) : (enterDwell a s).1.books = s.books := by
  unfold enterDwell
  simp only
  split
  · simp
  · split <;> simp

@[simp] theorem enterPreparing_books (a : Axis) (s : State) : (enterPreparing a s).1.books = s.books := by
  unfold enterPreparing
  simp only
  split <;> split <;> simp

@[simp] theorem addHold_books (a : Axis) (r : HoldReason) (s : State) : (addHold a r s).books = s.books := by
  unfold addHold
  simp only
  split
  · split <;> simp
  · rfl

@[simp] theorem admitStep_books (c : Fin 16) (t : Step) (s : State) : (admitStep c t s).1.books = s.books := by
  unfold admitStep
  simp only
  split
  · simp
  · split <;> simp

@[simp] theorem endAxis_books (a : Axis) (s : State) : (endAxis a s).1.books = s.books := by
  unfold endAxis
  simp only
  split <;> try simp
  split <;> simp

@[simp] theorem endStop_books (a : Axis) (s : State) : (endStop a s).1.books = s.books := by
  unfold endStop
  simp only
  split
  · simp
  · split
    · simp
    · split <;> simp

@[simp] theorem takeUp_books (a : Axis) (s : State) : (takeUp a s).1.books = s.books := by
  unfold takeUp
  split
  · split <;> simp
  · simp

@[simp] theorem endEntry_books (a : Axis) (s : State) : (endEntry a s).1.books = s.books := by
  unfold endEntry; split <;> simp

@[simp] theorem testGates_books (a : Axis) (s : State) : (testGates a s).1.books = s.books := by
  unfold testGates
  simp only
  split
  · split
    · split <;> simp
    · simp
  · simp

@[simp] theorem nextStep_books (a : Axis) (c : Fin 16) (s : State) : (nextStep a c s).1.books = s.books := by
  unfold nextStep
  simp only
  split
  · simp
  · split
    · simp
    · split
      · simp
      · (repeat' split) <;> simp

@[simp] theorem endDwell_books (a : Axis) (s : State) : (endDwell a s).1.books = s.books := by
  unfold endDwell
  simp only
  split
  · split
    · simp
    · simp
    · split <;> simp
  · simp

@[simp] theorem removeHold_books (a : Axis) (r : HoldReason) (s : State) : (removeHold a r s).1.books = s.books := by
  unfold removeHold
  simp only
  split
  · split
    · split <;> simp
    · simp
  · simp

@[simp] theorem travelled_books (a : Axis) (p : Option Int) (s : State) : (travelled a p s).1.books = s.books := by
  unfold travelled
  simp only
  split
  · split
    · simp
    · split <;> simp
  · simp

@[simp] theorem faultHead_books (a : Axis) (e : Bool) (s : State) : (faultHead a e s).1.books = s.books := by
  unfold faultHead
  split
  · simp
  · split
    · simp
    · split <;> simp

@[simp] theorem fault_books (a : Axis) (k : FaultKind) (s : State) : (fault a k s).1.books = s.books := by
  unfold fault
  simp only
  split
  · simp
  · split <;> simp

@[simp] theorem endProgram_books (c : Fin 16) (e : EndStatus) (s : State) : (endProgram c e s).1.books = s.books := by
  unfold endProgram
  split
  · simp
  · simp only
    split <;> simp [State.post_books]

@[simp] theorem freeContext_books (c : Fin 16) (e : EndStatus) (s : State) : (freeContext c e s).1.books = s.books := by
  unfold freeContext
  split
  · simp
  · simp only
    split <;> simp

@[simp] theorem deliverPermit_books (a : Axis) (d : Direction) (v : Bool) (s : State) :
    (deliverPermit a d v s).1.books = s.books := by
  unfold deliverPermit
  simp only
  split
  · split <;> simp
  · simp

@[simp] theorem requestPump_books (h : Hydraulic) (s : State) : (requestPump h s).1.books = s.books := by
  unfold requestPump
  split
  · simp
  · split
    · simp
    · split <;> simp

@[simp] theorem releasePump_books (h : Hydraulic) (s : State) : (releasePump h s).1.books = s.books := by
  unfold releasePump
  split
  · simp
  · split
    · simp
    · split <;> simp

@[simp] theorem handOver_books (s : State) : (handOver s).1.books = s.books := by
  unfold handOver; split <;> simp

@[simp] theorem applyCue_books (m : CommitMode) (l : Bool) (s : State) : (applyCue m l s).1.books = s.books :=
  s.withZones_books _ fun y => applyEntries_grants _ _ _ y

@[simp] theorem cueFrame_books (s : State) : (cueFrame s).1.books = s.books := by
  unfold cueFrame
  split
  · rfl
  · simp only
    split
    · rw [applyCue_books]; rfl
    · split
      · rw [applyCue_books]; rfl
      · split
        · rfl
        · rw [applyCue_books]; rfl

@[simp] theorem cueApplied_books (m : CommitMode) (n : Nat) (l : Bool) (s : State) :
    (cueApplied m n l s).books = s.books :=
  s.post_books _ _ (by simp)

@[simp] theorem startPanel_books (c : Fin 16) (p : Fin 12) (a : Axis) (x y : Int) (s : State) :
    (startPanel c p a x y s).1.books = s.books := by
  simp [startPanel]

@[simp] theorem dispatchGoto_books (p : Fin 12) (t : Nat) (b : Binding) (s : State) :
    (dispatchGoto p t b s).1.books = s.books := by
  unfold dispatchGoto
  simp only
  split
  · simp
  · split
    · simp
    · split
      · simp
      · simp
      · split <;> simp

@[simp] theorem dispatchZone_books (p : Fin 12) (t : Nat) (b : Binding) (s : State) :
    (dispatchZone p t b s).1.books = s.books := by
  unfold dispatchZone
  simp only
  split <;> simp

@[simp] theorem dispatchAck_books (p : Fin 12) (t : Nat) (s : State) : (dispatchAck p t s).1.books = s.books := by
  unfold dispatchAck
  simp only
  split <;> simp

@[simp] theorem press_books (p : Fin 12) (t : Nat) (s : State) : (press p t s).1.books = s.books := by
  unfold press
  split
  · unfold resumePress
    simp only
    split <;> rfl
  · simp only
    split <;> try simp
    rfl

@[simp] theorem release_books (p : Fin 12) (t : Nat) (s : State) : (release p t s).1.books = s.books := by
  unfold release; split <;> rfl

@[simp] theorem actionResult_books (p : Fin 12) (r : ActionResult) (c : List Byte) (s : State) :
    (actionResult p r c s).books = s.books := by
  unfold actionResult
  simp only
  split <;> simp [State.post_books]

end Sys2Proof.Machine
end

section
/-! What one turn of a step does to the books, said once; and the induction over the signals of a step. -/

namespace Sys2Proof.Machine

/-! ## The owners of the slots (R5) -/

/-- A slot is the lighting or the climate slot of a zone, that of the pump or of the windlass, or an AUX slot (R5). -/
theorem slot_cases (k : Fin 52) :
    (∃ z, k = lightSlot z) ∨ (∃ z, k = climateSlot z) ∨ k = pumpSlot ∨ k = windlassSlot ∨ 50 ≤ k.val := by
  rcases lt_or_ge k.val 24 with h | h
  · exact .inl ⟨⟨k.val, h⟩, rfl⟩
  · rcases lt_or_ge k.val 48 with h' | h'
    · exact .inr (.inl ⟨⟨k.val - 24, by omega⟩, Fin.ext (by simp only [climateSlot]; omega)⟩)
    · have hk := k.isLt
      rcases (by omega : k.val = 48 ∨ k.val = 49 ∨ 50 ≤ k.val) with e | e | e
      · exact .inr (.inr (.inl (Fin.ext e)))
      · exact .inr (.inr (.inr (.inl (Fin.ext e))))
      · exact .inr (.inr (.inr (.inr e)))

@[simp] theorem indexOf_val {n : Nat} (z : Fin n) : indexOf n z.val = some z := by simp [indexOf]

/-- A number beyond the last one names nothing. -/
theorem indexOf_none {n k : Nat} (h : n ≤ k) : indexOf n k = none := by simp [indexOf, h]

@[simp] theorem indexOf_lightSlot (z : Fin 24) : indexOf 24 (lightSlot z).val = some z := indexOf_val z
@[simp] theorem indexOf_climateSlot (z : Fin 24) : indexOf 24 (climateSlot z).val = none := by
  simp [climateSlot, indexOf]
@[simp] theorem indexOf_climateSlot_sub (z : Fin 24) : indexOf 24 ((climateSlot z).val - 24) = some z := by
  simp [climateSlot, indexOf]

@[simp] theorem State.received_light (s : State) (z : Fin 24) : s.received (lightSlot z) = some s.zones[z].lightGrant := by
  simp [State.received]
@[simp] theorem State.received_climate (s : State) (z : Fin 24) :
    s.received (climateSlot z) = some s.zones[z].climate.grant := by
  simp [State.received]
@[simp] theorem State.received_pump (s : State) : s.received pumpSlot = some s.pump.grant := rfl
@[simp] theorem State.received_windlass (s : State) : s.received windlassSlot = some s.gypsy.grant := rfl
theorem State.received_aux (s : State) (k : Fin 52) (h : 50 ≤ k.val) : s.received k = none := by
  have h1 : k ≠ pumpSlot := fun e => by subst e; exact absurd h (by decide)
  have h2 : k ≠ windlassSlot := fun e => by subst e; exact absurd h (by decide)
  simp [State.received, indexOf_none (show 24 ≤ k.val by omega), indexOf_none (show 24 ≤ k.val - 24 by omega), h1, h2]

/-- What the owners hold after a grant has been delivered to a slot's owner. -/
def deliver (k : Fin 52) (g : Nat) (received : Fin 52 → Option Nat) : Fin 52 → Option Nat :=
  Function.update received k ((received k).map fun _ => g)

@[simp] theorem deliver_same (k : Fin 52) (g : Nat) (received : Fin 52 → Option Nat) :
    deliver k g received k = (received k).map fun _ => g := by simp [deliver]

theorem deliver_other {j k : Fin 52} (h : j ≠ k) (g : Nat) (received : Fin 52 → Option Nat) :
    deliver k g received j = received j := by simp [deliver, h]

/-- What the owners hold is told by the zones, the pump and the windlass. -/
theorem received_ext {f g : Fin 52 → Option Nat} (hl : ∀ z, f (lightSlot z) = g (lightSlot z))
    (hc : ∀ z, f (climateSlot z) = g (climateSlot z)) (hp : f pumpSlot = g pumpSlot)
    (hw : f windlassSlot = g windlassSlot) (ha : ∀ k : Fin 52, 50 ≤ k.val → f k = g k) : f = g := by
  funext k
  rcases slot_cases k with ⟨z, rfl⟩ | ⟨z, rfl⟩ | rfl | rfl | h
  · exact hl z
  · exact hc z
  · exact hp
  · exact hw
  · exact ha k h

theorem lightSlot_inj {y z : Fin 24} : lightSlot y = lightSlot z ↔ y = z := by
  simp [lightSlot, Fin.ext_iff]
theorem climateSlot_inj {y z : Fin 24} : climateSlot y = climateSlot z ↔ y = z := by
  simp [climateSlot, Fin.ext_iff]
theorem climateSlot_ne_lightSlot (y z : Fin 24) : climateSlot y ≠ lightSlot z := by
  simp only [climateSlot, lightSlot, ne_eq, Fin.ext_iff]; omega
theorem pumpSlot_ne_lightSlot (z : Fin 24) : pumpSlot ≠ lightSlot z := by
  simp only [pumpSlot, lightSlot, ne_eq, Fin.ext_iff]; omega
theorem windlassSlot_ne_lightSlot (z : Fin 24) : windlassSlot ≠ lightSlot z := by
  simp only [windlassSlot, lightSlot, ne_eq, Fin.ext_iff]; omega
theorem pumpSlot_ne_climateSlot (z : Fin 24) : pumpSlot ≠ climateSlot z := by
  simp only [pumpSlot, climateSlot, ne_eq, Fin.ext_iff]; omega
theorem windlassSlot_ne_climateSlot (z : Fin 24) : windlassSlot ≠ climateSlot z := by
  simp only [windlassSlot, climateSlot, ne_eq, Fin.ext_iff]; omega

/-! ## Deliveries (R16, R19) -/

/-- The books after a grant has reached the owner of its slot. -/
def Books.deliver (b : Books) (k : Fin 52) (g : Nat) : Books := { b with received := Machine.deliver k g b.received }

/-- States that agree on all of the books but for what the owners hold, and of which one holds what a delivery gives. -/
theorem books_deliver {s t : State} {k : Fin 52} {g : Nat} (hb : t.budget = s.budget) (hc : t.config = s.config)
    (hu : t.unsettled = s.unsettled) (hl : t.link = s.link) (hr : t.received = deliver k g s.received) :
    t.books = s.books.deliver k g := by
  simp only [State.books, Books.deliver, State.budgetEntry, hb, hc, hu, hl, hr]

theorem deliverLight_books (z : Fin 24) (g : Nat) (s : State) :
    (deliverLight z g s).books = s.books.deliver (lightSlot z) g := by
  unfold deliverLight
  rw [reportZoneChange_books]
  refine books_deliver rfl rfl rfl rfl (received_ext (fun y => ?_) (fun y => ?_) ?_ ?_ fun k hk => ?_)
  · rcases eq_or_ne z y with rfl | h
    · simp [-Fin.getElem_fin, Zone.rescale, Zone.onChannels]
    · simp [-Fin.getElem_fin, deliver_other (mt lightSlot_inj.1 h.symm), State.onZone_other _ _ _ _ h]
  · rw [deliver_other (climateSlot_ne_lightSlot y z)]
    rcases eq_or_ne z y with rfl | h
    · simp [-Fin.getElem_fin, Zone.rescale, Zone.onChannels]
    · simp [-Fin.getElem_fin, State.onZone_other _ _ _ _ h]
  · rw [deliver_other (pumpSlot_ne_lightSlot z)]; rfl
  · rw [deliver_other (windlassSlot_ne_lightSlot z)]; rfl
  · rw [deliver_other (fun e => by subst e; simp only [lightSlot] at hk; omega), State.received_aux _ _ hk,
      State.received_aux _ _ hk]

theorem deliverClimate_books (z : Fin 24) (g : Nat) (s : State) :
    (deliverClimate z g s).books = s.books.deliver (climateSlot z) g := by
  unfold deliverClimate
  rw [reportZoneChange_books]
  refine books_deliver rfl rfl rfl rfl (received_ext (fun y => ?_) (fun y => ?_) ?_ ?_ fun k hk => ?_)
  · rw [deliver_other (climateSlot_ne_lightSlot z y).symm]
    rcases eq_or_ne z y with rfl | h
    · simp [-Fin.getElem_fin, Zone.rerun]
    · simp [-Fin.getElem_fin, State.onZone_other _ _ _ _ h]
  · rcases eq_or_ne z y with rfl | h
    · simp [-Fin.getElem_fin, Zone.rerun]
    · simp [-Fin.getElem_fin, deliver_other (mt climateSlot_inj.1 h.symm), State.onZone_other _ _ _ _ h]
  · rw [deliver_other (pumpSlot_ne_climateSlot z)]; rfl
  · rw [deliver_other (windlassSlot_ne_climateSlot z)]; rfl
  · rw [deliver_other (fun e => by subst e; simp only [climateSlot] at hk; omega), State.received_aux _ _ hk,
      State.received_aux _ _ hk]

theorem deliverPump_state (g : Nat) (s : State) :
    (deliverPump g s).1 = ({ s with pump := { s.pump with grant := g } } : State).withPumpRun := by
  unfold deliverPump
  simp only
  split
  · rfl
  · split
    · rfl
    · split <;> rfl

theorem deliverPump_books (g : Nat) (s : State) : (deliverPump g s).1.books = s.books.deliver pumpSlot g := by
  rw [deliverPump_state]
  refine books_deliver rfl rfl rfl rfl (received_ext (fun y => ?_) (fun y => ?_) rfl rfl fun k hk => ?_)
  · rw [deliver_other (pumpSlot_ne_lightSlot y).symm]; simp
  · rw [deliver_other (pumpSlot_ne_climateSlot y).symm]; simp
  · rw [deliver_other (fun e => by subst e; exact absurd hk (by decide)), State.received_aux _ _ hk,
      State.received_aux _ _ hk]

theorem deliverWindlass_state (g : Nat) (s : State) :
    (deliverWindlass g s).1 = { s with gypsy := { s.gypsy with grant := g } } := by
  unfold deliverWindlass
  simp only
  split
  · rfl
  · split <;> rfl

theorem deliverWindlass_books (g : Nat) (s : State) :
    (deliverWindlass g s).1.books = s.books.deliver windlassSlot g := by
  rw [deliverWindlass_state]
  refine books_deliver rfl rfl rfl rfl (received_ext (fun y => ?_) (fun y => ?_) rfl rfl fun k hk => ?_)
  · rw [deliver_other (windlassSlot_ne_lightSlot y).symm]; simp
  · rw [deliver_other (windlassSlot_ne_climateSlot y).symm]; simp
  · rw [deliver_other (fun e => by subst e; exact absurd hk (by decide)), State.received_aux _ _ hk,
      State.received_aux _ _ hk]

@[simp] theorem deliverTo_light (z : Fin 24) (g : Nat) (s : State) :
    deliverTo (lightSlot z) g s = (deliverLight z g s, []) := by
  simp [deliverTo]
@[simp] theorem deliverTo_climate (z : Fin 24) (g : Nat) (s : State) :
    deliverTo (climateSlot z) g s = (deliverClimate z g s, []) := by
  simp [deliverTo]
@[simp] theorem deliverTo_pump (g : Nat) (s : State) : deliverTo pumpSlot g s = deliverPump g s := rfl
@[simp] theorem deliverTo_windlass (g : Nat) (s : State) : deliverTo windlassSlot g s = deliverWindlass g s := rfl
theorem deliverTo_aux (k : Fin 52) (g : Nat) (s : State) (h : 50 ≤ k.val) : deliverTo k g s = (s, []) := by
  have h1 : k ≠ pumpSlot := fun e => by subst e; exact absurd h (by decide)
  have h2 : k ≠ windlassSlot := fun e => by subst e; exact absurd h (by decide)
  simp [deliverTo, indexOf_none (show 24 ≤ k.val by omega), indexOf_none (show 24 ≤ k.val - 24 by omega), h1, h2]

/-- A delivered grant changes what the owner of its slot holds, and nothing else of the books (R19). -/
theorem deliverTo_books (k : Fin 52) (g : Nat) (s : State) : (deliverTo k g s).1.books = s.books.deliver k g := by
  rcases slot_cases k with ⟨z, rfl⟩ | ⟨z, rfl⟩ | rfl | rfl | h
  · rw [deliverTo_light]; exact deliverLight_books z g s
  · rw [deliverTo_climate]; exact deliverClimate_books z g s
  · exact deliverPump_books g s
  · exact deliverWindlass_books g s
  · rw [deliverTo_aux k g s h]
    refine books_deliver rfl rfl rfl rfl (Eq.symm ?_)
    exact (congrArg (Function.update s.received k) (by rw [State.received_aux s k h]; rfl)).trans
      (Function.update_eq_self k s.received)

/-! ## One turn -/

/-- What a turn with a signal can do to the books: a pass, a posted demand that differs, a delivery or a report of what the
passes have sent on; every other turn leaves them. Answered are what is then on its way, the waiting signals and the state. -/
inductive BudgetTurn (sent : List Outgoing) (rest : List Signal) (s : State) :
    Signal → List Outgoing → List Signal → State → Prop where
  | pass : BudgetTurn sent rest s .pass (sent ++ s.passOutgoing) (.passEnd :: rest) s.afterPass
  | post (k : Fin 52) (d : Nat) (h : d ≠ s.raw k) : BudgetTurn sent rest s (.post k d) sent (.pass :: rest) (s.withDemand k d)
  | grant (k : Fin 52) (g : Nat) (later : List Outgoing) (more : List Signal) (t : State) (hs : sent = .grant k g :: later)
      (ht : t.books = s.books.deliver k g) : BudgetTurn sent rest s .passEnd later (more ++ .passEnd :: rest) t
  | report (content : List Byte) (copy : PostedCopy) (later : List Outgoing) (hs : sent = .report content copy :: later) :
      BudgetTurn sent rest s .passEnd later (.passEnd :: rest) (reportBudget content copy s)
  | quiet (x : Signal) (more : List Signal) (t : State) (hpass : x ≠ .pass) (hend : x = .passEnd → sent = [])
      (ht : t.books = s.books) : BudgetTurn sent rest s x sent (more ++ rest) t

/-- A signal that is no posting, no pass and no end of a pass leaves the books. -/
theorem handle_books (x : Signal) (s : State) (hpost : ∀ k d, x ≠ .post k d) (hpass : x ≠ .pass) :
    (handle x s).1.books = s.books := by
  cases x <;> simp only [handle] <;> try simp
  case post k d => exact absurd rfl (hpost k d)
  case pass => exact absurd rfl hpass
  case evaluatePermits => rfl

/-- A turn with a signal other than the end of a pass runs its handler. -/
theorem turn_handle (sent : List Outgoing) (x : Signal) (rest : List Signal) (s : State) (h : x ≠ .passEnd) :
    turn sent x rest s = (sent ++ x.outgoing s, (handle x s).2 ++ rest, (handle x s).1) := by
  cases x <;> first | rfl | exact absurd rfl h

/-- Every turn is of one of the five kinds. -/
theorem turn_budget (sent : List Outgoing) (x : Signal) (rest : List Signal) (s : State) :
    BudgetTurn sent rest s x (turn sent x rest s).1 (turn sent x rest s).2.1 (turn sent x rest s).2.2 := by
  rcases eq_or_ne x .passEnd with rfl | hend
  · cases sent with
    | nil => exact .quiet .passEnd [] s (by simp) (fun _ => rfl) rfl
    | cons item later =>
      cases item with
      | grant k g => exact .grant k g later _ _ rfl (deliverTo_books k g s)
      | report content copy => exact .report content copy later rfl
  rw [turn_handle sent x rest s hend]
  rcases eq_or_ne x .pass with rfl | hpass
  · exact .pass
  by_cases hpost : ∃ k d, x = .post k d
  · obtain ⟨k, d, rfl⟩ := hpost
    simp only [handle, Signal.outgoing, List.append_nil, postDemand]
    split
    · exact .quiet _ [] s (by simp) (by simp) rfl
    · next h => exact .post k d h
  · have hout : x.outgoing s = [] := by cases x <;> first | rfl | exact absurd rfl hpass
    rw [hout, List.append_nil]
    exact .quiet x _ _ hpass (fun h => absurd h hend)
      (handle_books x s (fun k d h => hpost ⟨k, d, h⟩) hpass)

/-! ## The signals of a step -/

theorem run_nil (n : Nat) (sent : List Outgoing) (s : State) : run n sent [] s = s := by cases n <;> rfl

theorem run_succ (n : Nat) (sent : List Outgoing) (x : Signal) (rest : List Signal) (s : State) :
    run (n + 1) sent (x :: rest) s
      = run n (turn sent x rest s).1 (turn sent x rest s).2.1 (turn sent x rest s).2.2 := rfl

/-- A law that every turn keeps holds at the end of a run: either every signal has been taken, or the run has outrun its bound
and the state is that of a turn inside it, with `unsettled` set. -/
theorem run_induct {P : List Outgoing → List Signal → State → Prop}
    (hturn : ∀ sent x rest s sent' l' t, P sent (x :: rest) s → BudgetTurn sent rest s x sent' l' t → t.still = s.still →
      P sent' l' t)
    (n : Nat) (sent : List Outgoing) (l : List Signal) (s : State) (h : P sent l s) :
    (∃ sent', P sent' [] (run n sent l s))
      ∨ ∃ sent' x rest t, P sent' (x :: rest) t ∧ run n sent l s = { t with unsettled := true } := by
  induction n generalizing sent l s with
  | zero =>
    cases l with
    | nil => exact .inl ⟨sent, h⟩
    | cons x rest => exact .inr ⟨sent, x, rest, s, h, rfl⟩
  | succ n ih =>
    cases l with
    | nil => exact .inl ⟨sent, h⟩
    | cons x rest =>
      rw [run_succ]
      exact ih _ _ _ (hturn _ _ _ _ _ _ _ h (turn_budget sent x rest s) (turn_still sent x rest s))

/-- A law of the state alone that every turn keeps, and that setting `unsettled` keeps, holds at the end of a run. -/
theorem run_keeps {P : State → Prop}
    (hturn : ∀ sent x rest s sent' l' t, P s → BudgetTurn sent rest s x sent' l' t → t.still = s.still → P t)
    (hset : ∀ s, P s → P { s with unsettled := true })
    (n : Nat) (sent : List Outgoing) (l : List Signal) (s : State) (h : P s) : P (run n sent l s) := by
  rcases run_induct (P := fun _ _ t => P t) hturn n sent l s h with ⟨_, h⟩ | ⟨_, _, _, t, ht, e⟩
  · exact h
  · rw [e]; exact hset t ht

/-- An event that begins with a pass is the pass, and then the signals after it. -/
theorem settle_pass (s : State) : settle (s, [.pass]) = run 99999 s.passOutgoing [.passEnd] s.afterPass := by
  rw [settle, signalBound, run_succ]
  rfl

theorem State.send_pass (s : State) : s.send .pass = run 99999 s.passOutgoing [.passEnd] s.afterPass := settle_pass s

end Sys2Proof.Machine
end

section
/-! The allocation pass (R10 to R17): the rank order, the walk, and the grants that a pass writes. -/

namespace Sys2Proof.Machine

/-! ## Rank order (R12) -/

theorem State.mem_ranked (s : State) (k : Fin 52) :
    k ∈ s.ranked ↔ s.config.slots[k].enabled = true ∧ s.budget.slots[k].effective ≠ 0 := by
  simp [State.ranked, allSlots, State.enters, State.slotConfig]

theorem State.ranked_perm (s : State) : s.ranked.Perm (allSlots.filter s.enters) := List.perm_insertionSort _ _

theorem State.ranked_nodup (s : State) : s.ranked.Nodup :=
  s.ranked_perm.nodup_iff.2 ((List.nodup_finRange 52).filter _)

/-- What `State.ranksBefore` says: higher priority, or the same and no higher slot number. -/
theorem State.ranksBefore_iff (s : State) (a b : Fin 52) :
    s.ranksBefore a b = true ↔ (s.slotConfig b).priority < (s.slotConfig a).priority
      ∨ ((s.slotConfig a).priority = (s.slotConfig b).priority ∧ a ≤ b) := by
  simp [State.ranksBefore]

theorem State.ranksBefore_total (s : State) (a b : Fin 52) : s.ranksBefore a b = true ∨ s.ranksBefore b a = true := by
  simp only [State.ranksBefore_iff]; omega

theorem State.ranksBefore_trans (s : State) {a b c : Fin 52} (h1 : s.ranksBefore a b = true)
    (h2 : s.ranksBefore b c = true) : s.ranksBefore a c = true := by
  simp only [State.ranksBefore_iff] at *; omega

/-- The ranked slots stand in rank order, the lower slot number first among equal priorities (R12). -/
theorem State.ranked_pairwise (s : State) : s.ranked.Pairwise fun a b =>
    s.config.slots[b].priority < s.config.slots[a].priority
      ∨ (s.config.slots[a].priority = s.config.slots[b].priority ∧ a < b) := by
  have : Std.Total fun a b => s.ranksBefore a b = true := ⟨s.ranksBefore_total⟩
  have : IsTrans (Fin 52) fun a b => s.ranksBefore a b = true := ⟨fun _ _ _ => s.ranksBefore_trans⟩
  have hsorted := List.pairwise_insertionSort (fun a b => s.ranksBefore a b = true) (allSlots.filter s.enters)
  refine (hsorted.and (List.nodup_iff_pairwise_ne.1 s.ranked_nodup)).imp ?_
  intro a b ⟨h, hne⟩
  rcases (s.ranksBefore_iff a b).1 h with h | ⟨h, hle⟩
  · exact .inl h
  · exact .inr ⟨h, lt_of_le_of_ne hle hne⟩

/-! ## The grant of one slot (R13, R17) -/

/-- The largest of a list and a start value. -/
theorem foldl_max_spec (l : List Nat) (a : Nat) :
    a ≤ l.foldl max a ∧ (∀ x ∈ l, x ≤ l.foldl max a) ∧ (l.foldl max a = a ∨ l.foldl max a ∈ l) := by
  induction l generalizing a with
  | nil => simp
  | cons y rest ih =>
    obtain ⟨h1, h2, h3⟩ := ih (max a y)
    refine ⟨le_trans (le_max_left a y) h1, fun x hx => ?_, ?_⟩
    · rcases List.mem_cons.1 hx with rfl | hx
      · exact le_trans (le_max_right a x) h1
      · exact h2 x hx
    · rcases h3 with h3 | h3
      · rcases max_choice a y with e | e
        · exact .inl (h3.trans e)
        · exact .inr (by rw [List.foldl_cons, h3, e]; exact List.mem_cons_self)
      · exact .inr (List.mem_cons_of_mem _ h3)

/-- The largest stage current that is at most a limit (R13). -/
theorem largestStage_spec (currents : List Nat) (limit : Nat) :
    largestStage currents limit ≤ limit
      ∧ (largestStage currents limit = 0 ∨ largestStage currents limit ∈ currents)
      ∧ ∀ c ∈ currents, c ≤ limit → c ≤ largestStage currents limit := by
  obtain ⟨-, hle, hmem⟩ := foldl_max_spec (currents.filter (· ≤ limit)) 0
  refine ⟨?_, ?_, fun c hc hl => hle c (by simp [hc, hl])⟩
  · rcases hmem with h | h
    · exact le_of_eq_of_le h (Nat.zero_le _)
    · exact of_decide_eq_true (List.mem_filter.1 h).2
  · exact hmem.imp_right fun h => (List.mem_filter.1 h).1

theorem Slot.ceiling_le (k : Slot) : k.ceiling ≤ k.effective := by
  unfold Slot.ceiling; split <;> simp

/-- A grant of the walk is at most the ceiling of its slot and what remains (R13). -/
theorem State.normalGrant_le (s : State) (k : Fin 52) (r : Int) :
    s.normalGrant k r ≤ min s.budget.slots[k].ceiling r.toNat := by
  unfold State.normalGrant
  simp only
  split
  · split <;> omega
  · exact (largestStage_spec _ _).1
  · split <;> omega

/-- A grant of a HOLD pass is at most the current grant and the effective demand (R17). -/
theorem State.heldGrant_le (s : State) (k : Fin 52) :
    s.heldGrant k ≤ min s.budget.slots[k].grant s.budget.slots[k].effective := by
  unfold State.heldGrant
  simp only
  split
  · split
    · exact le_rfl
    · exact (largestStage_spec _ _).1
    · split <;> omega
  · exact Nat.zero_le _

/-! ## The walk (R13) -/

@[simp] theorem walkSlot_get_same (s : State) (acc : Vector Nat 52 × Int) (k : Fin 52) :
    (s.walkSlot acc k).1[k] = s.normalGrant k acc.2 := by
  simp [State.walkSlot]

theorem walkSlot_get_other (s : State) (acc : Vector Nat 52 × Int) {j k : Fin 52} (h : k ≠ j) :
    (s.walkSlot acc k).1[j] = acc.1[j] := by
  simp [State.walkSlot, Fin.val_ne_of_ne h]

/-- The walk leaves the slots that it does not visit. -/
theorem walk_other (s : State) (l : List (Fin 52)) (acc : Vector Nat 52 × Int) (j : Fin 52) (h : j ∉ l) :
    (l.foldl s.walkSlot acc).1[j] = acc.1[j] := by
  induction l generalizing acc with
  | nil => rfl
  | cons k rest ih =>
    obtain ⟨hne, hrest⟩ := not_or.1 (mt List.mem_cons.2 h)
    rw [List.foldl_cons, ih _ hrest, walkSlot_get_other s acc (Ne.symm hne)]

/-- What the walk leaves over is what it began with less the grants that it gave. -/
theorem walk_rest (s : State) (l : List (Fin 52)) (acc : Vector Nat 52 × Int) (h : l.Nodup) :
    (l.foldl s.walkSlot acc).2 = acc.2 - ((l.map fun k => (l.foldl s.walkSlot acc).1[k]).sum : Nat) := by
  induction l generalizing acc with
  | nil => simp
  | cons k rest ih =>
    obtain ⟨hk, hrest⟩ := List.nodup_cons.1 h
    rw [List.foldl_cons, ih _ hrest, List.map_cons, List.sum_cons, walk_other s rest _ k hk, walkSlot_get_same]
    simp only [State.walkSlot]
    push_cast
    omega

/-- Each visited slot gets its grant from what the slots before it leave (R13). -/
theorem walk_grant (s : State) (l : List (Fin 52)) (acc : Vector Nat 52 × Int) (h : l.Nodup) (k : Fin 52) (hk : k ∈ l) :
    (l.foldl s.walkSlot acc).1[k]
      = s.normalGrant k
          (acc.2 - (((l.takeWhile (· ≠ k)).map fun j => (l.foldl s.walkSlot acc).1[j]).sum : Nat)) := by
  induction l generalizing acc with
  | nil => cases hk
  | cons x rest ih =>
    obtain ⟨hx, hrest⟩ := List.nodup_cons.1 h
    rw [List.foldl_cons]
    rcases eq_or_ne x k with rfl | hne
    · rw [walk_other s rest _ x hx, walkSlot_get_same]
      simp
    · have hk' : k ∈ rest := (List.mem_cons.1 hk).resolve_left fun e => hne e.symm
      rw [ih _ hrest hk', List.takeWhile_cons_of_pos (by simpa using hne), List.map_cons, List.sum_cons,
        walk_other s rest _ x hx, walkSlot_get_same]
      simp only [State.walkSlot]
      push_cast
      congr 1
      omega

/-- The walk never leaves less than nothing, and gives nothing when it begins with less. -/
theorem walk_rest_ge (s : State) (l : List (Fin 52)) (acc : Vector Nat 52 × Int) :
    min 0 acc.2 ≤ (l.foldl s.walkSlot acc).2 := by
  induction l generalizing acc with
  | nil => exact min_le_right _ _
  | cons k rest ih =>
    have hg := s.normalGrant_le k acc.2
    refine le_trans ?_ (ih (s.walkSlot acc k))
    simp only [State.walkSlot]
    omega

/-- A sum over some members of a list, of a function that is 0 on the others, is the sum over the list. -/
theorem sum_filter_map {α : Type} (p : α → Bool) (f : α → Nat) (l : List α) (h : ∀ x ∈ l, p x = false → f x = 0) :
    ((l.filter p).map f).sum = (l.map f).sum := by
  induction l with
  | nil => rfl
  | cons x rest ih =>
    have ih' := ih fun y hy => h y (List.mem_cons_of_mem x hy)
    cases hx : p x with
    | true => rw [List.filter_cons_of_pos hx, List.map_cons, List.sum_cons, List.map_cons, List.sum_cons, ih']
    | false =>
      rw [List.filter_cons_of_neg (by simp [hx]), List.map_cons, List.sum_cons, ih', h x List.mem_cons_self hx,
        Nat.zero_add]

/-- The values of a vector in the order of its indexes. -/
theorem vector_toList_eq_map {α : Type} {n : Nat} (v : Vector α n) : v.toList = (List.finRange n).map fun k => v[k] := by
  apply List.ext_getElem <;> simp

/-- The sum of grants that are 0 outside the ranked slots. -/
theorem State.grantSum_eq (s : State) (g : Vector Nat 52) (h : ∀ k : Fin 52, k ∉ s.ranked → g[k] = 0) :
    grantSum g = (s.ranked.map fun k => g[k]).sum := by
  rw [grantSum, vector_toList_eq_map, (s.ranked_perm.map _).sum_eq]
  refine (sum_filter_map s.enters _ _ fun k _ hk => h k fun hm => ?_).symm
  have := List.mem_filter.1 (s.ranked_perm.mem_iff.1 hm)
  simp [hk] at this

theorem State.walk_other (s : State) (available : Int) (k : Fin 52) (h : k ∉ s.ranked) :
    (s.walk available).1[k] = 0 := by
  rw [State.walk, Machine.walk_other s s.ranked _ k h]
  simp

/-- Each ranked slot gets its grant from what the slots before it leave of A (R13). -/
theorem State.walk_grant (s : State) (available : Int) (k : Fin 52) (hk : k ∈ s.ranked) :
    (s.walk available).1[k] = s.normalGrant k
      (available - (((s.ranked.takeWhile (· ≠ k)).map fun j => (s.walk available).1[j]).sum : Nat)) :=
  Machine.walk_grant s s.ranked (Vector.replicate 52 0, available) s.ranked_nodup k hk

/-- What the walk leaves is A less the sum of all grants (R14). -/
theorem State.walk_headroom (s : State) (available : Int) :
    (s.walk available).2 = available - grantSum (s.walk available).1 := by
  rw [s.grantSum_eq _ (s.walk_other available)]
  exact walk_rest s s.ranked (Vector.replicate 52 0, available) s.ranked_nodup

/-- The sum of the grants of a walk never exceeds max(0, A) (R18). -/
theorem State.walk_sum_le (s : State) (available : Int) : (grantSum (s.walk available).1 : Int) ≤ max 0 available := by
  have h1 := s.walk_headroom available
  have h2 : min 0 available ≤ (s.walk available).2 := walk_rest_ge s s.ranked (Vector.replicate 52 0, available)
  omega

/-! ## The grants that a pass writes -/

theorem State.passGrants_normal {s : State} (h : s.budget.mode = .normal) : s.passGrants = (s.walk s.passAvailable).1 := by
  simp [State.passGrants, h]

theorem State.passGrants_hold {s : State} (h : s.budget.mode = .hold) (k : Fin 52) : s.passGrants[k] = s.heldGrant k := by
  simp [State.passGrants, h]

/-- A slot that does not enter the walk gets 0 (R12, R17). -/
theorem State.passGrants_other (s : State) (k : Fin 52) (h : k ∉ s.ranked) : s.passGrants[k] = 0 := by
  cases hm : s.budget.mode with
  | normal => rw [State.passGrants_normal hm]; exact s.walk_other _ k h
  | hold =>
    have he : s.enters k = false := by
      rw [State.mem_ranked] at h
      simpa [State.enters, State.slotConfig] using h
    simp [State.passGrants_hold hm, State.heldGrant, he]

/-- A grant is at most the effective demand (R18). -/
theorem State.passGrants_le (s : State) (k : Fin 52) : s.passGrants[k] ≤ s.budget.slots[k].effective := by
  by_cases hk : k ∈ s.ranked
  · cases hm : s.budget.mode with
    | normal =>
      rw [State.passGrants_normal hm, s.walk_grant _ k hk]
      exact le_trans (s.normalGrant_le k _) (le_trans (min_le_left _ _) s.budget.slots[k].ceiling_le)
    | hold =>
      rw [State.passGrants_hold hm]
      have := s.heldGrant_le k
      omega
  · rw [s.passGrants_other k hk]; exact Nat.zero_le _

/-- A HOLD pass raises no grant (R17). -/
theorem State.passGrants_hold_le {s : State} (h : s.budget.mode = .hold) (k : Fin 52) :
    s.passGrants[k] ≤ s.budget.slots[k].grant := by
  rw [State.passGrants_hold h]
  have := s.heldGrant_le k
  omega

/-- What a pass leaves in a slot (R9, R16). -/
theorem State.afterPass_slot (s : State) (k : Fin 52) :
    s.afterPass.budget.slots[k] =
      { s.budget.slots[k] with
        grant := s.passGrants[k], delivered := s.passGrants[k], holdOffEnds := s.holdOffAfter k s.passGrants[k] } := by
  simp [State.afterPass, State.passSlots]

@[simp] theorem State.afterPass_mode (s : State) : s.afterPass.budget.mode = s.budget.mode := by
  simp only [State.afterPass]
@[simp] theorem State.afterPass_history (s : State) : s.afterPass.budget.history = s.budget.history := by
  simp only [State.afterPass]
@[simp] theorem State.afterPass_posted (s : State) : s.afterPass.budget.posted = s.budget.posted := by
  simp only [State.afterPass]
@[simp] theorem State.afterPass_heldPeak (s : State) : s.afterPass.budget.heldPeak = s.passPeak := by
  simp only [State.afterPass]
@[simp] theorem State.afterPass_passNumber (s : State) : s.afterPass.budget.passNumber = s.nextPass := by
  simp only [State.afterPass]
@[simp] theorem State.afterPass_result (s : State) : s.afterPass.budget.result = s.passResult := by
  simp only [State.afterPass]

/-- The grants after a pass in slot order. -/
theorem State.afterPass_grants (s : State) : s.afterPass.grants = s.passGrants.toList := by
  rw [State.grants, vector_toList_eq_map, vector_toList_eq_map s.passGrants, List.map_map]
  exact List.map_congr_left fun k _ => by simp only [Function.comp_apply, State.afterPass_slot]

/-- A pass with the available current in NORMAL mode grants no more than it (R18). -/
theorem State.afterPass_sumWithin (s : State) : s.afterPass.sumWithin := by
  intro hmode
  rw [State.afterPass_mode] at hmode
  rw [State.afterPass_grants, State.afterPass_result, State.passGrants_normal hmode]
  exact s.walk_sum_le s.passAvailable

end Sys2Proof.Machine
end

section
/-! O16: what a pass grants, by class and mode. -/

namespace Sys2Proof.Machine

@[simp] theorem handle_pass (s : State) : (handle .pass s).1 = s.afterPass := rfl

/-! ## The classes of the slots (R5) -/

theorem slotClass_divisible {k : Fin 52} (h : k.val < 24) : slotClass k = .divisible := by simp [slotClass, h]
theorem slotClass_stepped {k : Fin 52} (h1 : 24 ≤ k.val) (h2 : k.val < 48) : slotClass k = .stepped := by
  simp [slotClass, h2, Nat.not_lt.2 h1]
theorem slotClass_whole {k : Fin 52} (h : 48 ≤ k.val) : slotClass k = .whole := by
  simp [slotClass, Nat.not_lt.2 h, Nat.not_lt.2 (show 24 ≤ k.val by omega)]

theorem slotClass_ne_divisible (k : Fin 52) : slotClass k ≠ .divisible ↔ 24 ≤ k.val := by
  unfold slotClass
  split
  · simp; omega
  · split <;> simp <;> omega

/-! ## The pass result record (R14, R15) -/

/-- The short list of a pass names the ranked slots whose new grant is below the effective demand (R15). -/
theorem State.passResult_shortList (s : State) :
    s.passResult.shortList =
      (s.ranked.filter fun k => decide (s.afterPass.budget.slots[k].grant < s.budget.slots[k].effective)).map (·.val) := by
  simp only [State.passResult, State.passShort, State.afterPass_slot]

theorem State.passResult_short (s : State) : s.passResult.flags.short = !s.passResult.shortList.isEmpty := by
  simp [State.passResult, passFlags]

theorem State.passResult_sat (s : State) :
    s.passResult.flags.sat = decide (∃ k : Fin 52, s.config.slots[k].cap < s.raw k) := by
  rw [Bool.eq_iff_iff, decide_eq_true_iff]
  have h : s.passResult.flags.sat = allSlots.any fun k => decide ((s.slotConfig k).cap < s.budget.slots[k].raw) := rfl
  rw [h, List.any_eq_true]
  exact exists_congr fun k => ⟨fun h => of_decide_eq_true h.2, fun h => ⟨List.mem_finRange k, decide_eq_true h⟩⟩

/-! ## The classes in NORMAL and in HOLD mode (R13, R17) -/

/-- A ranked slot's grant in a NORMAL pass by its class, from what the slots before it leave (R13). -/
theorem State.normalGrant_class (s : State) (k : Fin 52) (r : Int) :
    let e := s.budget.slots[k].effective
    let ceiling := if s.budget.slots[k].holdOffEnds.isSome then min e s.budget.slots[k].grant else e
    let most := min ceiling r.toNat
    (k.val < 24 → s.normalGrant k r = if most < s.config.slots[k].dmin then 0 else most)
      ∧ (24 ≤ k.val → k.val < 48 →
          s.normalGrant k r ≤ most ∧ (s.normalGrant k r = 0 ∨ s.normalGrant k r ∈ s.slotStages k)
            ∧ ∀ c ∈ s.slotStages k, c ≤ most → c ≤ s.normalGrant k r)
      ∧ (48 ≤ k.val → s.normalGrant k r = if ceiling = e ∧ (ceiling : Int) ≤ r then ceiling else 0) := by
  refine ⟨fun h => ?_, fun h1 h2 => ?_, fun h => ?_⟩
  · simp only [State.normalGrant, slotClass_divisible h]; rfl
  · simp only [State.normalGrant, slotClass_stepped h1 h2]
    exact largestStage_spec _ _
  · simp only [State.normalGrant, slotClass_whole h]; rfl

/-- A slot's grant in a HOLD pass by its class, from its current grant and its demand (R17). -/
theorem State.heldGrant_class (s : State) (k : Fin 52) :
    let g := s.heldGrant k
    let most := min s.budget.slots[k].grant s.budget.slots[k].effective
    if s.config.slots[k].enabled = true ∧ s.budget.slots[k].effective ≠ 0 then
      (k.val < 24 → g = most)
        ∧ (24 ≤ k.val → k.val < 48 →
            g ≤ most ∧ (g = 0 ∨ g ∈ s.slotStages k) ∧ ∀ c ∈ s.slotStages k, c ≤ most → c ≤ g)
        ∧ (48 ≤ k.val → g = if s.budget.slots[k].effective ≤ s.budget.slots[k].grant then
            s.budget.slots[k].effective else 0)
    else g = 0 := by
  have henters : s.enters k = true ↔ s.config.slots[k].enabled = true ∧ s.budget.slots[k].effective ≠ 0 := by
    simp [State.enters, State.slotConfig]
  simp only [← henters]
  split
  · next h =>
    refine ⟨fun hk => ?_, fun h1 h2 => ?_, fun hk => ?_⟩
    · simp only [State.heldGrant, h, if_true, slotClass_divisible hk]
    · simp only [State.heldGrant, h, if_true, slotClass_stepped h1 h2]
      exact largestStage_spec _ _
    · simp only [State.heldGrant, h, if_true, slotClass_whole hk]
  · next h => simp [State.heldGrant, h]

/-- Settles O16, from the rank order, the walk and the grants by class. -/
theorem passesGrantByClass : Obligations.PassesGrantByClass := by
  refine ⟨fun s => ?_, fun s hmode => ?_, fun s hmode => ?_⟩
  · simp only [handle_pass, State.afterPass_result]
    exact ⟨s.ranked_nodup, s.mem_ranked, s.ranked_pairwise, s.passResult_shortList, s.passResult_short,
      by rw [s.passResult_sat]; exact decide_eq_true_iff⟩
  · simp only [handle_pass, State.afterPass_slot]
    refine ⟨s.passGrants_other, fun k hk => ?_⟩
    have hgrant : s.passGrants[k] = s.normalGrant k (s.passAvailable
        - (((s.ranked.takeWhile (· ≠ k)).map fun j => s.passGrants[j]).sum : Nat)) := by
      rw [State.passGrants_normal hmode]; exact s.walk_grant _ k hk
    rw [hgrant]
    exact s.normalGrant_class k _
  · simp only [handle_pass, State.afterPass_slot, State.afterPass_result, State.afterPass_heldPeak]
    have hpeak : s.passPeak = s.budget.heldPeak := by simp [State.passPeak, hmode]
    refine ⟨hpeak, ?_, ?_, fun k => ⟨State.passGrants_hold_le hmode k, ?_⟩⟩
    · simp only [State.passResult, State.passAvailable, usableSupply, hpeak]
    · simp [State.passResult, passFlags, hmode]
    · rw [State.passGrants_hold hmode]
      exact s.heldGrant_class k

end Sys2Proof.Machine
end

section
/-! What a command can do to the books, said once (`Works`): every command is a chain of a few kinds of moves, so a law of the
Budget is kept by every command when it is kept by each kind. -/

namespace Sys2Proof.Machine

/-! ## The moves -/

/-- What stands before a pass that a command of the Budget itself takes: the grants and all that is told of them are as they
were, the caps still bound the demands, and an owner that has lost its grant has no demand either. -/
structure Prepared (s u : State) : Prop where
  grant : ∀ k : Fin 52, u.budget.slots[k].grant = s.budget.slots[k].grant
  delivered : ∀ k : Fin 52, u.budget.slots[k].delivered = s.budget.slots[k].delivered
  caps : (∀ k : Fin 52, s.budget.slots[k].effective ≤ s.config.slots[k].cap) →
    ∀ k : Fin 52, u.budget.slots[k].effective ≤ u.config.slots[k].cap
  unsettled : u.unsettled = s.unsettled
  received : ∀ k : Fin 52, u.received k = s.received k ∨ (u.budget.slots[k].effective = 0 ∧ u.received k = some 0)
  number : u.budget.passNumber = s.budget.passNumber
  posted : u.budget.posted = none
    ∨ (u.budget.posted = s.budget.posted ∧ u.budgetEntry = s.budgetEntry ∧ u.link.sending = s.link.sending)

/-- What a start-up leaves of the Budget: its start state, and no grant with any owner (R25). -/
structure Started (s u : State) : Prop where
  budget : u.budget = budgetStart
  unsettled : u.unsettled = s.unsettled
  received : ∀ k g, u.received k = some g → g = 0

/-- A command takes a state to another by moves of six kinds: what leaves the books, the transmitter's choice, a run of signals,
a pass that a command of the Budget prepares without a fall into HOLD mode, the fall into HOLD mode itself, which comes first, and
a start-up. -/
inductive Works (s : State) : State → Prop where
  | refl : Works s s
  | quiet {t u : State} (h : Works s t) (e : u.books = t.books) : Works s u
  | kick {t : State} (h : Works s t) : Works s t.kick
  | settle {t : State} (h : Works s t) (l : List Signal) : Works s (settle (t, l))
  | pass {t u : State} (h : Works s t) (p : Prepared t u) (hm : u.budget.mode = .hold → t.budget.mode = .hold) :
      Works s (u.send .pass)
  | silence {u : State} (p : Prepared s u) : Works s (u.send .pass)
  | start {t u : State} (h : Works s t) (p : Started t u) : Works s u

variable {r s : State}

/-- An event whose own changes leave the books. -/
theorem Works.settled (h : Works r s) {k : Handled} (e : k.1.books = s.books) : Works r (Machine.settle k) :=
  (h.quiet e).settle k.2

/-- One signal, after changes that leave the books. -/
theorem Works.sent (h : Works r s) {t : State} (x : Signal) (e : t.books = s.books) : Works r (t.send x) :=
  (h.quiet e).settle [x]

theorem Works.reply (h : Works r s) (kind tag : Byte) (result : Result) (fields : List Byte) :
    Works r (s.reply kind tag result fields) := h.quiet rfl

theorem Works.refuse (h : Works r s) (kind tag : Byte) (result : Result) : Works r (s.refuse kind tag result) := h.quiet rfl

/-- A move over a list of items, each of which is made of moves. -/
theorem Works.foldl {α : Type} {f : State → α → State} (hf : ∀ {t : State}, Works r t → ∀ x, Works r (f t x)) (l : List α)
    (h : Works r s) : Works r (l.foldl f s) := by
  induction l generalizing s with
  | nil => exact h
  | cons x rest ih => exact ih (hf h x)

/-! ## Requests of the Budget -/

@[simp] theorem storeSlot_slot_same (k : Fin 52) (c : SlotConfig) (s : State) :
    (storeSlot k c s).budget.slots[k] = { s.budget.slots[k] with effective := min s.budget.slots[k].raw c.cap } := by
  simp [storeSlot, State.onSlot]

theorem storeSlot_slot_other {k j : Fin 52} (c : SlotConfig) (s : State) (h : k ≠ j) :
    (storeSlot k c s).budget.slots[j] = s.budget.slots[j] := by
  simp [storeSlot, State.onSlot, Fin.val_ne_of_ne h]

/-- A write of a slot's configuration prepares the pass that follows it (R21). -/
theorem storeSlot_prepared (k : Fin 52) (c : SlotConfig) (s : State) : Prepared s (storeSlot k c s) where
  grant j := by
    rcases eq_or_ne k j with rfl | h
    · rw [storeSlot_slot_same]
    · rw [storeSlot_slot_other c s h]
  delivered j := by
    rcases eq_or_ne k j with rfl | h
    · rw [storeSlot_slot_same]
    · rw [storeSlot_slot_other c s h]
  caps hs j := by
    rcases eq_or_ne k j with rfl | h
    · rw [storeSlot_slot_same]; simp [storeSlot]
    · rw [storeSlot_slot_other c s h]; simpa [storeSlot, Fin.val_ne_of_ne h] using hs j
  unsettled := rfl
  received _ := .inl rfl
  number := rfl
  posted := .inr ⟨rfl, rfl, rfl⟩

theorem takeSetSlot_works (h : Works r s) (tag : Byte) (slot e p c d o : Nat) :
    Works r (takeSetSlot tag slot e p c d o s) := by
  unfold takeSetSlot
  split
  · exact h.refuse _ _ _
  · split
    · exact h.refuse _ _ _
    · exact (Works.pass h (storeSlot_prepared _ _ s) id).reply _ _ _ _

theorem takeSetSupply_works (h : Works r s) (tag : Byte) (supply reserve : Nat) :
    Works r (takeSetSupply tag supply reserve s) := by
  unfold takeSetSupply
  split
  · exact h.refuse _ _ _
  · exact (h.sent (t := storeSupply supply reserve s) .pass rfl).reply _ _ _ _

theorem takeSetAuxDemand_works (h : Works r s) (tag : Byte) (slot demand : Nat) :
    Works r (takeSetAuxDemand tag slot demand s) := by
  unfold takeSetAuxDemand
  split
  · exact h.refuse _ _ _
  · split
    · exact h.refuse _ _ _
    · exact (h.sent _ rfl).reply _ _ _ _

theorem takeGetBudget_works (h : Works r s) (tag : Byte) (slot : Option Nat) : Works r (takeGetBudget tag slot s) := by
  unfold takeGetBudget
  split
  · exact h.reply _ _ _ _
  · split
    · exact h.refuse _ _ _
    · exact h.reply _ _ _ _

/-! ## Requests of the zones, scenes and cues -/

@[simp] theorem zoneWritten_books (z : Fin 24) (before : ZoneConfig) (s : State) :
    (zoneWritten z before s).1.books = s.books := by
  unfold zoneWritten
  simp only
  split
  · rfl
  · exact s.onZone_books z _ (by simp)

theorem takeSetZone_works (h : Works r s) (tag : Byte) (zone : Nat) (f : ZoneFields) :
    Works r (takeSetZone tag zone f s) := by
  unfold takeSetZone
  split
  · exact h.refuse _ _ _
  · split
    · exact h.refuse _ _ _
    · split
      · exact h.refuse _ _ _
      · exact (h.settled (by rw [zoneWritten_books]; rfl)).reply _ _ _ _

@[simp] theorem levelsEvent_books (z : Fin 24) (l : Vector (Option Nat) 4) (fade : Nat) (s : State) :
    (levelsEvent z l fade s).1.books = s.books := by
  unfold levelsEvent
  split
  · rfl
  · exact changeZone_books _ _ _ _ rfl

theorem takeSetLevels_works (h : Works r s) (tag : Byte) (zone : Nat) (l : Vector (Option Nat) 4) (fade : Nat) :
    Works r (takeSetLevels tag zone l fade s) := by
  unfold takeSetLevels
  split
  · exact h.refuse _ _ _
  · exact (h.settled (by simp)).reply _ _ _ _

theorem takeSetSetpoint_works (h : Works r s) (tag : Byte) (zone v : Nat) : Works r (takeSetSetpoint tag zone v s) := by
  unfold takeSetSetpoint
  split
  · exact h.refuse _ _ _
  · exact (h.settled (by simp)).reply _ _ _ _

theorem takeSetMode_works (h : Works r s) (tag : Byte) (zone v : Nat) : Works r (takeSetMode tag zone v s) := by
  unfold takeSetMode
  split
  · exact h.refuse _ _ _
  · exact (h.settled (by simp)).reply _ _ _ _

theorem takeGetZone_works (h : Works r s) (tag : Byte) (zone : Nat) : Works r (takeGetZone tag zone s) := by
  unfold takeGetZone
  split
  · exact h.refuse _ _ _
  · exact h.reply _ _ _ _

theorem takeStoreScene_works (h : Works r s) (tag : Byte) (scene : Nat) (f : Option SceneFields) :
    Works r (takeStoreScene tag scene f s) := by
  unfold takeStoreScene
  split
  · exact h.refuse _ _ _
  · split
    · exact h.reply _ _ _ _
    · split
      · exact h.refuse _ _ _
      · exact h.quiet rfl

theorem takeRecallScene_works (h : Works r s) (tag : Byte) (zone scene : Nat) :
    Works r (takeRecallScene tag zone scene s) := by
  unfold takeRecallScene
  split
  · exact (h.settled (by simp)).reply _ _ _ _
  · exact h.refuse _ _ _

theorem takeCueAdd_works (h : Works r s) (tag : Byte) (f : CueFields) : Works r (takeCueAdd tag f s) := by
  unfold takeCueAdd
  split
  · exact h.refuse _ _ _
  · split
    · exact h.refuse _ _ _
    · simp only
      split
      · exact h.refuse _ _ _
      · exact h.quiet rfl

theorem takeCueClear_works (h : Works r s) (tag : Byte) : Works r (takeCueClear tag s) := by
  unfold takeCueClear
  split <;> exact h.quiet rfl

theorem takeCueCommit_works (h : Works r s) (tag : Byte) (mode : Nat) : Works r (takeCueCommit tag mode s) := by
  unfold takeCueCommit
  split
  · exact h.refuse _ _ _
  · split <;> exact h.quiet rfl

theorem takeCueStatus_works (h : Works r s) (tag : Byte) (p : Option Nat) : Works r (takeCueStatus tag p s) := by
  unfold takeCueStatus
  split
  · exact h.reply _ _ _ _
  · split
    · exact h.refuse _ _ _
    · exact h.reply _ _ _ _

/-! ## Requests of the axes, programs and interlocks -/

theorem takeSetAxis_works (h : Works r s) (tag : Byte) (axis : Nat) (f : AxisFields) :
    Works r (takeSetAxis tag axis f s) := by
  unfold takeSetAxis
  split
  · exact h.refuse _ _ _
  · split
    · exact h.refuse _ _ _
    · split
      · exact h.refuse _ _ _
      · exact (h.settled rfl).reply _ _ _ _

theorem takeGetAxis_works (h : Works r s) (tag : Byte) (axis : Nat) : Works r (takeGetAxis tag axis s) := by
  unfold takeGetAxis
  split
  · exact h.refuse _ _ _
  · exact h.reply _ _ _ _

theorem takeAckFault_works (h : Works r s) (tag : Byte) (axis : Nat) : Works r (takeAckFault tag axis s) := by
  unfold takeAckFault
  split
  · exact h.refuse _ _ _
  · split
    · exact h.refuse _ _ _
    · split
      · exact h.reply _ _ _ _
      · exact (h.settled (by simp [acknowledge])).reply _ _ _ _

theorem takeOpenProgram_works (h : Works r s) (tag : Byte) (c a : Nat) : Works r (takeOpenProgram tag c a s) := by
  unfold takeOpenProgram
  split
  · split
    · exact h.refuse _ _ _
    · exact h.quiet rfl
  · exact h.refuse _ _ _

@[simp] theorem breakAdmission_books (c : Fin 16) (s : State) : (breakAdmission c s).1.books = s.books := by
  unfold breakAdmission
  simp only
  split <;> rfl

theorem takeProgramStep_works (h : Works r s) (tag : Byte) (c : Nat) (f : StepFields) :
    Works r (takeProgramStep tag c f s) := by
  unfold takeProgramStep
  split
  · exact h.reply _ _ _ _
  · split
    · exact h.reply _ _ _ _
    · exact (h.settled (by simp)).reply _ _ _ _
    · exact (h.settled (by simp)).reply _ _ _ _

@[simp] theorem cancelBoundary_books (c : Fin 16) (s : State) : (cancelBoundary c s).1.books = s.books := by
  unfold cancelBoundary; split <;> rfl

@[simp] theorem cancelNow_books (c : Fin 16) (s : State) : (cancelNow c s).1.books = s.books := by
  unfold cancelNow; split <;> rfl

theorem takeCancel_works (h : Works r s) (mode : Nat) (cancel : Fin 16 → State → Handled) (tag : Byte) (c : Nat)
    (hc : ∀ c, (cancel c s).1.books = s.books) : Works r (takeCancel mode cancel tag c s) := by
  unfold takeCancel
  split
  · exact h.refuse _ _ _
  · split
    · exact h.refuse _ _ _
    · exact (h.settled (hc _)).reply _ _ _ _

theorem takePauseProgram_works (h : Works r s) (tag : Byte) (c : Nat) : Works r (takePauseProgram tag c s) := by
  unfold takePauseProgram
  split
  · exact h.refuse _ _ _
  · split
    · exact h.refuse _ _ _
    · split
      · exact (h.sent _ rfl).reply _ _ _ _
      · exact h.refuse _ _ _

@[simp] theorem resumeHolds_books (a : Axis) (s : State) : (resumeHolds a s).1.books = s.books := by
  unfold resumeHolds
  simp only
  split
  · rfl
  · split
    · split <;> simp
    · simp

theorem takeResumeProgram_works (h : Works r s) (tag : Byte) (c : Nat) : Works r (takeResumeProgram tag c s) := by
  unfold takeResumeProgram
  split
  · exact h.refuse _ _ _
  · split
    · exact h.refuse _ _ _
    · exact (h.settled (by simp)).reply _ _ _ _

theorem takeGetProgram_works (h : Works r s) (tag : Byte) (c : Option Nat) : Works r (takeGetProgram tag c s) := by
  unfold takeGetProgram
  split
  · exact h.reply _ _ _ _
  · split
    · exact h.refuse _ _ _
    · exact h.reply _ _ _ _

theorem takeSetInterlock_works (h : Works r s) (tag : Byte) (a d : Nat) (l : Option (List (Nat × Nat))) :
    Works r (takeSetInterlock tag a d l s) := by
  unfold takeSetInterlock
  split
  · split
    · exact h.reply _ _ _ _
    · split
      · exact h.refuse _ _ _
      · split
        · exact h.refuse _ _ _
        · refine Works.reply (Works.sent h .evaluatePermits ?_) _ _ _ _
          rfl
  · exact h.refuse _ _ _

theorem takeSetInterlockCommon_works (h : Works r s) (tag : Byte) (c : Option (Nat × Nat)) :
    Works r (takeSetInterlockCommon tag c s) := by
  unfold takeSetInterlockCommon
  split
  · exact h.reply _ _ _ _
  · split
    · exact h.refuse _ _ _
    · refine Works.reply ?_ _ _ _ _
      simp only [storeCommon, State.postRating]
      split
      · refine Works.settle (Works.sent h .evaluatePermits ?_) [_]
        rfl
      · refine Works.sent h .evaluatePermits ?_
        rfl

theorem takeSetVessel_works (h : Works r s) (tag : Byte) (v a b c : Nat) : Works r (takeSetVessel tag v a b c s) := by
  refine Works.reply (Works.sent h .evaluatePermits ?_) _ _ _ _
  rfl

/-! ## Requests of the chime, the panels, the store and the line -/

theorem takeSetPattern_works (h : Works r s) (tag : Byte) (k : Nat) (f : Option (Nat × List (Nat × Nat))) :
    Works r (takeSetPattern tag k f s) := by
  unfold takeSetPattern
  split
  · exact h.refuse _ _ _
  · split
    · exact h.reply _ _ _ _
    · split
      · exact h.refuse _ _ _
      · split
        · exact h.refuse _ _ _
        · exact h.quiet rfl

theorem takeChimePlay_works (h : Works r s) (tag : Byte) (p n : Nat) (zones : List Nat) :
    Works r (takeChimePlay tag p n zones s) := by
  unfold takeChimePlay
  split
  · exact h.refuse _ _ _
  · split
    · exact h.refuse _ _ _
    · exact (h.quiet (by simp)).reply _ _ _ _

theorem takeSetPanel_works (h : Works r s) (tag : Byte) (p : Nat) (f : Option PanelFields) :
    Works r (takeSetPanel tag p f s) := by
  unfold takeSetPanel
  split
  · exact h.refuse _ _ _
  · split
    · exact h.reply _ _ _ _
    · split
      · exact h.refuse _ _ _
      · split
        · exact h.refuse _ _ _
        · exact h.quiet rfl

@[simp] theorem panelEvent_books (p : Fin 12) (f : Panel → Panel × Option Handed) (s : State) :
    (panelEvent p f s).1.books = s.books := rfl

theorem takeSetTagmap_works (h : Works r s) (tag : Byte) (p e : Nat) (f : TagFields) :
    Works r (takeSetTagmap tag p e f s) := by
  unfold takeSetTagmap
  split
  · split
    · exact h.refuse _ _ _
    · split
      · exact h.refuse _ _ _
      · exact (h.settled rfl).reply _ _ _ _
  · exact h.refuse _ _ _

theorem takeGetPanel_works (h : Works r s) (tag : Byte) (p n : Nat) : Works r (takeGetPanel tag p n s) := by
  unfold takeGetPanel
  split <;> exact h.quiet rfl

theorem takeSetBinding_works (h : Works r s) (tag : Byte) (b : Nat) (f : Option BindingFields) :
    Works r (takeSetBinding tag b f s) := by
  unfold takeSetBinding
  split
  · exact h.reply _ _ _ _
  · exact h.reply _ _ _ _
  · exact h.refuse _ _ _
  · split
    · exact h.refuse _ _ _
    · split
      · exact h.refuse _ _ _
      · exact h.quiet rfl

theorem takeSaveConfig_works (h : Works r s) (tag : Byte) : Works r (takeSaveConfig tag s) := by
  unfold takeSaveConfig
  split <;> exact h.quiet rfl

theorem takeReset_works (h : Works r s) (tag : Byte) (kind : Nat) : Works r (takeReset tag kind s) := by
  unfold takeReset
  split
  · exact h.refuse _ _ _
  · split <;> exact h.quiet rfl

theorem takeSetLink_works (h : Works r s) (tag : Byte) (n : Nat) : Works r (takeSetLink tag n s) := by
  unfold takeSetLink
  split <;> exact h.quiet rfl

/-! ## The input buffer and the receiver -/

/-- Every request works on the books by the moves. -/
theorem carryOut_works (h : Works r s) (i : Instr) : Works r (carryOut i s) := by
  cases i <;> simp only [carryOut] <;> try exact h
  case unknownRequest tag kind => exact h.refuse _ _ _
  case getInfo tag => exact h.reply _ _ _ _
  case getStatus tag => exact h.reply _ _ _ _
  case reset tag kind => exact takeReset_works h tag kind
  case setLink tag n => exact takeSetLink_works h tag n
  case setSupply tag n m => exact takeSetSupply_works h tag n m
  case setSlot tag k e p c d o => exact takeSetSlot_works h tag k e p c d o
  case setAuxDemand tag k d => exact takeSetAuxDemand_works h tag k d
  case getBudget tag k => exact takeGetBudget_works h tag k
  case setZone tag z f => exact takeSetZone_works h tag z f
  case setLevels tag z l f => exact takeSetLevels_works h tag z l f
  case setSetpoint tag z v => exact takeSetSetpoint_works h tag z v
  case setMode tag z v => exact takeSetMode_works h tag z v
  case getZone tag z => exact takeGetZone_works h tag z
  case storeScene tag n f => exact takeStoreScene_works h tag n f
  case recallScene tag z n => exact takeRecallScene_works h tag z n
  case cueAdd tag f => exact takeCueAdd_works h tag f
  case cueClear tag => exact takeCueClear_works h tag
  case cueCommit tag m => exact takeCueCommit_works h tag m
  case cueStatus tag p => exact takeCueStatus_works h tag p
  case setAxis tag a f => exact takeSetAxis_works h tag a f
  case getAxis tag a => exact takeGetAxis_works h tag a
  case ackFault tag a => exact takeAckFault_works h tag a
  case openProgram tag c a => exact takeOpenProgram_works h tag c a
  case programStep tag c f => exact takeProgramStep_works h tag c f
  case cancelAtBoundary tag c => exact takeCancel_works h _ _ _ _ fun c => cancelBoundary_books c s
  case cancelImmediate tag c => exact takeCancel_works h _ _ _ _ fun c => cancelNow_books c s
  case pauseProgram tag c => exact takePauseProgram_works h tag c
  case resumeProgram tag c => exact takeResumeProgram_works h tag c
  case getProgram tag c => exact takeGetProgram_works h tag c
  case setInterlock tag a d l => exact takeSetInterlock_works h tag a d l
  case setInterlockCommon tag c => exact takeSetInterlockCommon_works h tag c
  case setVessel tag v a b c => exact takeSetVessel_works h tag v a b c
  case setPattern tag k f => exact takeSetPattern_works h tag k f
  case chimePlay tag p n z => exact takeChimePlay_works h tag p n z
  case chimeStop tag => exact h.quiet rfl
  case chimeClear tag => exact h.quiet rfl
  case setPanel tag p f => exact takeSetPanel_works h tag p f
  case setTagmap tag p e f => exact takeSetTagmap_works h tag p e f
  case getPanel tag p n => exact takeGetPanel_works h tag p n
  case setBinding tag b f => exact takeSetBinding_works h tag b f
  case saveConfig tag => exact takeSaveConfig_works h tag

theorem carryFrame_works (h : Works r s) (f : Frame) : Works r (carryFrame f s) := by
  unfold carryFrame
  split
  · exact h.refuse _ _ _
  · exact h.refuse _ _ _
  · exact h.refuse _ _ _
  · exact carryOut_works h _

theorem serve_works (h : Works r s) (n : Nat) : Works r (serve n s) := by
  induction n generalizing s with
  | zero => exact h
  | succ n ih =>
    unfold serve
    split
    · exact h
    · split
      · refine ih (carryFrame_works ?_ _).kick
        exact h.quiet rfl
      · exact h

theorem goodFrame_works (h : Works r s) (f : Frame) : Works r (goodFrame f s) := by
  unfold goodFrame
  simp only
  split
  · refine serve_works ?_ _
    exact h.quiet rfl
  · exact h.quiet rfl

theorem receive_works (h : Works r s) (flush : Bool) (n : Nat) : Works r (receive flush n s) := by
  induction n generalizing s with
  | zero => exact h
  | succ n ih =>
    unfold receive
    split
    · split
      · exact ih (h.quiet rfl)
      · exact h
    · exact ih (h.quiet rfl)
    · refine ih (goodFrame_works ?_ _)
      exact h.quiet rfl

theorem takeByte_works (h : Works r s) (b : LineByte) : Works r (takeByte s b) := by
  unfold takeByte
  split
  · refine receive_works ?_ _ _
    exact h.quiet rfl
  · exact h

end Sys2Proof.Machine
end

section
/-! Every event of the part, and with it every step, works on the books by the moves of `Works`. -/

namespace Sys2Proof.Machine

variable {r s : State}

/-! ## Events -/

theorem positionEvent_books (a : Axis) (before : Option Int) (s : State) :
    (positionEvent a before s).1.books = s.books := by
  unfold positionEvent; split <;> rfl

@[simp] theorem frameSignals_books (s : State) : (frameSignals s).1.books = s.books :=
  s.withZones_books _ fun z => by
    simp [frameSignals]

theorem climateEvent_books (z : Fin 24) (change : Climate → Climate) (s : State)
    (h : (change s.zones[z].climate).grant = s.zones[z].climate.grant) : (climateEvent z change s).1.books = s.books := by
  unfold climateEvent
  refine s.onZone_books z _ ?_
  exact congrArg (Prod.mk _) h

@[simp] theorem failSave_books (s : State) : s.failSave.books = s.books := by
  unfold State.failSave; split <;> rfl

@[simp] theorem saveFailed_books (s : State) : s.saveFailed.books = s.books := failSave_books s

@[simp] theorem motionNote_books (a : Axis) (s : State) : (motionNote a s).books = s.books := by
  unfold motionNote; split <;> rfl

@[simp] theorem noticeNote_books (s : State) : (noticeNote s).books = s.books := by
  unfold noticeNote
  split
  · simp only
    split
    · rfl
    · split <;> simp
  · rfl

@[simp] theorem panelFrame_books (p : Fin 12) (f : PanelFrame) (s : State) : (panelFrame p f s).1.books = s.books := by
  unfold panelFrame; split <;> rfl

/-- The end of a start-up leaves the books: its reports are those of the axes and START. -/
@[simp] theorem endStartUp_books (s : State) : s.endStartUp.books = s.books := by
  unfold State.endStartUp
  simp only [State.post_books _ .start _ (by simp)]
  simp [allAxes]

/-! ## Resets -/

theorem startLive_started (d : Nat) (sensors : Sensors) (n : Nat) (k : ResetKind) (e : EepromAnswer) (s : State) :
    Started s (loadImage e (startLive d sensors n k s)) where
  budget := rfl
  unsettled := rfl
  received j g h := by
    rcases slot_cases j with ⟨z, rfl⟩ | ⟨z, rfl⟩ | rfl | rfl | hj
    · rw [State.received_light] at h
      simp [loadImage, startLive, zoneStart] at h
      exact h.symm
    · rw [State.received_climate] at h
      simp [loadImage, startLive, zoneStart] at h
      exact h.symm
    · exact (Option.some.inj h).symm
    · exact (Option.some.inj h).symm
    · rw [State.received_aux _ _ hj] at h; cases h

theorem startZone_works (h : Works r s) (z : Fin 24) : Works r (startZone s z) := by
  unfold startZone
  split
  · refine Works.quiet (h.settled ?_) (State.reportZone_books _ _)
    exact recallScene_books _ _ _
  · exact h.quiet (State.reportZone_books _ _)

theorem startUp_works (h : Works r s) (e : EepromAnswer) (levels : Inputs) (d : Nat) (sensors : Sensors) (n : Nat)
    (k : ResetKind) : Works r (startUp e levels (startLive d sensors n k s)) := by
  have started : Works r (install levels (loadImage e (startLive d sensors n k s))) := by
    unfold install
    refine Works.settled (h.start (startLive_started d sensors n k e s)) ?_
    rfl
  unfold startUp
  exact (started.foldl startZone_works allZones).quiet (endStartUp_books _)

theorem startWarm_slot_cleared (s : State) {k : Fin 52} (h : k = pumpSlot ∨ k = windlassSlot) :
    (startWarm s).budget.slots[k] = { s.budget.slots[k] with raw := 0, effective := 0 } := by
  rcases h with rfl | rfl <;> simp [startWarm, State.onSlot, pumpSlot, windlassSlot]

theorem startWarm_slot_other (s : State) {k : Fin 52} (hp : k ≠ pumpSlot) (hw : k ≠ windlassSlot) :
    (startWarm s).budget.slots[k] = s.budget.slots[k] := by
  simp [startWarm, State.onSlot, Fin.val_ne_of_ne hp.symm, Fin.val_ne_of_ne hw.symm]

/-- The demands that a WARM reset clears, and the pump that it frees, prepare its pass (R26, R127). -/
theorem startWarm_prepared (s : State) : Prepared s (startWarm s) where
  grant k := by
    by_cases h : k = pumpSlot ∨ k = windlassSlot
    · rw [startWarm_slot_cleared s h]
    · rw [startWarm_slot_other s (fun e => h (.inl e)) (fun e => h (.inr e))]
  delivered k := by
    by_cases h : k = pumpSlot ∨ k = windlassSlot
    · rw [startWarm_slot_cleared s h]
    · rw [startWarm_slot_other s (fun e => h (.inl e)) (fun e => h (.inr e))]
  caps hs k := by
    by_cases h : k = pumpSlot ∨ k = windlassSlot
    · rw [startWarm_slot_cleared s h]; exact Nat.zero_le _
    · rw [startWarm_slot_other s (fun e => h (.inl e)) (fun e => h (.inr e))]; exact hs k
  unsettled := rfl
  received k := by
    rcases slot_cases k with ⟨z, rfl⟩ | ⟨z, rfl⟩ | rfl | rfl | hk
    · exact .inl ((State.received_light _ z).trans (State.received_light s z).symm)
    · exact .inl ((State.received_climate _ z).trans (State.received_climate s z).symm)
    · refine .inr ⟨?_, rfl⟩
      rw [startWarm_slot_cleared s (.inl rfl)]
    · exact .inl rfl
    · exact .inl ((State.received_aux _ _ hk).trans (State.received_aux _ _ hk).symm)
  number := rfl
  posted := .inl rfl

theorem warmZone_works (h : Works r s) (z : Fin 24) : Works r (warmZone s z) := by
  unfold warmZone
  split
  · refine Works.quiet (Works.sent h (.lightDemand z) ?_) (State.reportZone_books _ _)
    exact s.onZone_books z _ (by simp)
  · exact h.quiet (by simp)

theorem warm_works (h : Works r s) :
    Works r ((allZones.foldl warmZone ((startWarm s).send .pass)).send .evaluatePermits).endStartUp := by
  have started : Works r ((startWarm s).send .pass) := h.pass (startWarm_prepared s) id
  exact Works.quiet ((started.foldl warmZone_works allZones).settle [.evaluatePermits]) (endStartUp_books _)

/-! ## The meter and the hold-offs -/

/-- A changed mode, history and silence timer prepare the pass that follows them (R3, R4). -/
theorem meter_prepared (mode : AllocMode) (history : List Nat) (d : Option Nat) (s : State) :
    Prepared s { s with budget := { s.budget with mode, history, meterDeadline := d } } where
  grant _ := rfl
  delivered _ := rfl
  caps h := h
  unsettled := rfl
  received _ := .inl rfl
  number := rfl
  posted := .inr ⟨rfl, rfl, rfl⟩

/-- A removed expiry time prepares the pass that follows it (R9). -/
theorem holdOff_prepared (k : Fin 52) (s : State) :
    Prepared s (s.onSlot k fun x => { x with holdOffEnds := none }) where
  grant j := by
    rcases eq_or_ne k j with rfl | h
    · simp [-Fin.getElem_fin]
    · rw [State.onSlot_other _ _ _ _ h]
  delivered j := by
    rcases eq_or_ne k j with rfl | h
    · simp [-Fin.getElem_fin]
    · rw [State.onSlot_other _ _ _ _ h]
  caps hs j := by
    rcases eq_or_ne k j with rfl | h
    · simpa [-Fin.getElem_fin] using hs k
    · rw [State.onSlot_other _ _ _ _ h]; exact hs j
  unsettled := rfl
  received _ := .inl rfl
  number := rfl
  posted := .inr ⟨rfl, rfl, rfl⟩

/-! ## Commands and steps -/

/-- Where the moves of a step begin: the books before it, but that a frame which has been sent has left the transmit line. -/
structure Begins (s r : State) : Prop where
  budget : r.budget = s.budget
  slots : r.config.slots = s.config.slots
  unsettled : r.unsettled = s.unsettled
  received : r.received = s.received

theorem Begins.refl (s : State) : Begins s s := ⟨rfl, rfl, rfl, rfl⟩

/-- What a command does to the books. -/
def Worked (s t : State) : Prop := ∃ r, Begins s r ∧ Works r t

theorem Works.worked {t : State} (h : Works s t) : Worked s t := ⟨s, .refl s, h⟩

theorem carried_eq {u t : State} (h : carried u = .next t) : u.kick = t := Host.Outcome.next.inj h

/-- Every command works on the books by the moves. -/
theorem exec_worked (i : Instr) {t : State} (h : exec i s = .next t) : Worked s t := by
  have request : Worked s (carryOut i s).kick := (carryOut_works .refl i).kick.worked
  cases i with
  | powerOn e levels =>
    obtain rfl := carried_eq h
    exact (startUp_works (.quiet .refl (failSave_books s)) e levels _ _ _ _).kick.worked
  | coldReset e levels =>
    cases h
    refine (Works.kick ?_).worked
    split
    · exact startUp_works (.quiet .refl (failSave_books s)) e levels _ _ _ _
    · exact .refl
  | warmReset =>
    cases h
    refine (Works.kick ?_).worked
    split
    · exact warm_works (.quiet .refl (failSave_books s))
    · exact .refl
  | frameReceived bytes =>
    cases h
    exact (Works.foldl takeByte_works bytes .refl).kick.worked
  | byteGapExpiry =>
    cases h
    refine (Works.kick ?_).worked
    split
    · exact receive_works .refl _ _
    · exact .refl
  | frameSent =>
    cases h
    cases hs : s.link.sending with
    | none => exact (Works.kick .refl).worked
    | some x =>
      refine ⟨{ s with link := { s.link with sending := none } }, ⟨rfl, rfl, rfl, rfl⟩, ?_⟩
      refine (serve_works (Works.kick (.quiet .refl ?_)) _).kick
      split <;> rfl
  | linkSilenceExpiry =>
    cases h
    refine (Works.kick ?_).worked
    split
    · exact .settled .refl rfl
    · exact .refl
  | baseLoadSample load =>
    cases h
    have p : Prepared s { s with budget := sampleBudget load s.now s.budget } := meter_prepared _ _ _ s
    exact (Works.pass .refl p fun h => by cases h).kick.worked
  | meterSilenceExpiry =>
    cases h
    refine (Works.kick ?_).worked
    split
    · exact .silence (meter_prepared _ _ _ s)
    · exact .refl
  | holdOffExpiry k =>
    cases h
    refine (Works.kick ?_).worked
    split
    · exact .pass .refl (holdOff_prepared k s) id
    · exact .refl
  | outputFrame => cases h; refine (Works.kick ?_).worked; exact Works.settled .refl (frameSignals_books s)
  | temperatureSample z x =>
    cases h
    refine (Works.kick ?_).worked
    exact Works.settled .refl (climateEvent_books z _ s rfl)
  | lossTimerExpiry z =>
    cases h
    refine (Works.kick ?_).worked
    split
    · exact .settled .refl (climateEvent_books z _ s rfl)
    · exact .refl
  | capTimerExpiry =>
    cases h
    refine (Works.kick ?_).worked
    split
    · exact .quiet .refl rfl
    · exact .refl
  | positionSample a x =>
    cases h
    refine (Works.kick ?_).worked
    exact Works.settled .refl ((positionEvent_books _ _ _).trans rfl)
  | staleTimerExpiry a =>
    cases h
    refine (Works.kick ?_).worked
    split
    · exact .settled .refl rfl
    · exact .refl
  | windlassPulse x => cases h; refine (Works.kick ?_).worked; exact Works.settled .refl rfl
  | anchorHomeChange x =>
    cases h
    refine (Works.kick (.settled .refl ?_)).worked
    rw [apply_ite Prod.fst, apply_ite State.books, positionEvent_books, ite_self]
    rfl
  | overloadInput x => cases h; refine (Works.kick ?_).worked; exact Works.settled .refl rfl
  | warnTimeReached a =>
    cases h
    refine (Works.kick ?_).worked
    split
    · exact .sent .refl _ rfl
    · exact .refl
  | prepareTimerExpiry a =>
    cases h
    refine (Works.kick ?_).worked
    split
    · exact .settled .refl rfl
    · exact .refl
  | stallWindowExpiry a =>
    cases h
    refine (Works.kick ?_).worked
    split
    · split
      · exact .quiet .refl rfl
      · exact .sent .refl _ rfl
    · exact .refl
  | dwellEnd a =>
    cases h
    refine (Works.kick ?_).worked
    split
    · exact .sent .refl _ rfl
    · exact .refl
  | stopTimerExpiry a =>
    cases h
    refine (Works.kick ?_).worked
    split
    · exact .settled .refl (by simp)
    · exact .refl
  | starvationTimerExpiry c =>
    cases h
    refine (Works.kick ?_).worked
    split
    · exact .sent .refl _ rfl
    · exact .refl
  | fieldInputChange x b => cases h; refine (Works.kick ?_).worked; exact Works.sent .refl _ rfl
  | vesselAgeingExpiry =>
    cases h
    refine (Works.kick ?_).worked
    split
    · exact .sent .refl _ rfl
    · exact .refl
  | motionNoteEnd a => cases h; refine (Works.kick ?_).worked; exact Works.quiet .refl (motionNote_books a s)
  | noticeNoteEnd => cases h; refine (Works.kick ?_).worked; exact Works.quiet .refl (noticeNote_books s)
  | panelFrame p f => cases h; refine (Works.kick ?_).worked; exact Works.settled .refl (panelFrame_books p f s)
  | panelSilenceExpiry p =>
    cases h
    refine (Works.kick ?_).worked
    split
    · exact .settled .refl (panelEvent_books p _ s)
    · exact .refl
  | releaseTimerExpiry a =>
    cases h
    refine (Works.kick ?_).worked
    split
    · split
      · exact .sent .refl _ rfl
      · exact .refl
    · exact .refl
  | saveComplete x =>
    cases h
    refine (Works.kick ?_).worked
    split
    · exact .refl
    · exact .quiet .refl rfl
    · exact .quiet .refl (by simp)
    · exact .quiet .refl (by simp)
  | saveTimerExpiry =>
    cases h
    refine (Works.kick ?_).worked
    split
    · exact .quiet .refl (by simp)
    · exact .refl
  | _ =>
    cases h
    exact request

/-- Every step works on the books by the moves. -/
theorem step_worked {s t : State} (h : step s = .next t) : Worked s t := by
  unfold step at h
  split at h
  · cases h
    exact Works.worked (.quiet .refl rfl)
  · next c rest _ =>
    obtain ⟨r, hr, hw⟩ := exec_worked c h
    exact ⟨r, ⟨hr.budget, hr.slots, hr.unsettled, hr.received⟩, hw⟩

end Sys2Proof.Machine
end

section
/-! The grants stay within their bounds (R17, R18). -/

namespace Sys2Proof.Machine

/-! ## What the moves leave of the Budget -/

theorem State.withDemand_slot_same (s : State) (k : Fin 52) (d : Nat) :
    (s.withDemand k d).budget.slots[k]
      = { s.budget.slots[k] with raw := d, effective := min d (s.slotConfig k).cap } :=
  s.onSlot_same k fun x => { x with raw := d, effective := min d (s.slotConfig k).cap }

theorem State.withDemand_slot_other (s : State) {k j : Fin 52} (d : Nat) (h : k ≠ j) :
    (s.withDemand k d).budget.slots[j] = s.budget.slots[j] :=
  s.onSlot_other k j (fun x => { x with raw := d, effective := min d (s.slotConfig k).cap }) h

/-- A stored demand leaves every grant. -/
theorem State.withDemand_grant (s : State) (k j : Fin 52) (d : Nat) :
    (s.withDemand k d).budget.slots[j].grant = s.budget.slots[j].grant := by
  rcases eq_or_ne k j with rfl | h
  · rw [State.withDemand_slot_same]
  · rw [State.withDemand_slot_other s d h]

theorem State.withDemand_delivered (s : State) (k j : Fin 52) (d : Nat) :
    (s.withDemand k d).budget.slots[j].delivered = s.budget.slots[j].delivered := by
  rcases eq_or_ne k j with rfl | h
  · rw [State.withDemand_slot_same]
  · rw [State.withDemand_slot_other s d h]

@[simp] theorem State.withDemand_mode (s : State) (k : Fin 52) (d : Nat) :
    (s.withDemand k d).budget.mode = s.budget.mode := rfl
@[simp] theorem State.withDemand_result (s : State) (k : Fin 52) (d : Nat) :
    (s.withDemand k d).budget.result = s.budget.result := rfl
@[simp] theorem State.withDemand_passNumber (s : State) (k : Fin 52) (d : Nat) :
    (s.withDemand k d).budget.passNumber = s.budget.passNumber := rfl
@[simp] theorem State.withDemand_posted (s : State) (k : Fin 52) (d : Nat) :
    (s.withDemand k d).budget.posted = s.budget.posted := rfl

@[simp] theorem reportBudget_slots (content : List Byte) (copy : PostedCopy) (s : State) :
    (reportBudget content copy s).budget.slots = s.budget.slots := by unfold reportBudget; split <;> rfl
@[simp] theorem reportBudget_mode (content : List Byte) (copy : PostedCopy) (s : State) :
    (reportBudget content copy s).budget.mode = s.budget.mode := by unfold reportBudget; split <;> rfl
@[simp] theorem reportBudget_result (content : List Byte) (copy : PostedCopy) (s : State) :
    (reportBudget content copy s).budget.result = s.budget.result := by unfold reportBudget; split <;> rfl
@[simp] theorem reportBudget_passNumber (content : List Byte) (copy : PostedCopy) (s : State) :
    (reportBudget content copy s).budget.passNumber = s.budget.passNumber := by unfold reportBudget; split <;> rfl
@[simp] theorem reportBudget_config (content : List Byte) (copy : PostedCopy) (s : State) :
    (reportBudget content copy s).config = s.config := by unfold reportBudget; split <;> rfl
@[simp] theorem reportBudget_unsettled (content : List Byte) (copy : PostedCopy) (s : State) :
    (reportBudget content copy s).unsettled = s.unsettled := by unfold reportBudget; split <;> rfl

/-- The same books, so the same Budget. -/
theorem Books.same {s t : State} (h : t.books = s.books) :
    t.budget = s.budget ∧ t.config.slots = s.config.slots ∧ t.unsettled = s.unsettled ∧ t.received = s.received
      ∧ t.budgetEntry = s.budgetEntry ∧ t.link.sending = s.link.sending :=
  ⟨congrArg Books.budget h, congrArg Books.slots h, congrArg Books.unsettled h, congrArg Books.received h,
    congrArg Books.entry h, congrArg Books.sending h⟩

/-- A delivery changes only what the owners hold. -/
theorem Books.delivered {s t : State} {k : Fin 52} {g : Nat} (h : t.books = s.books.deliver k g) :
    t.budget = s.budget ∧ t.config.slots = s.config.slots ∧ t.unsettled = s.unsettled
      ∧ t.received = Machine.deliver k g s.received ∧ t.budgetEntry = s.budgetEntry ∧ t.link.sending = s.link.sending :=
  ⟨congrArg Books.budget h, congrArg Books.slots h, congrArg Books.unsettled h, congrArg Books.received h,
    congrArg Books.entry h, congrArg Books.sending h⟩

/-- The transmitter's choice leaves all but the Link Interface. -/
theorem State.kick_same (s : State) :
    s.kick.budget = s.budget ∧ s.kick.config = s.config ∧ s.kick.unsettled = s.unsettled ∧ s.kick.received = s.received :=
  have h := s.kick_core
  ⟨(congrArg State.budget h : s.kick.core.budget = _), (congrArg State.config h : s.kick.core.config = _),
    (congrArg State.unsettled h : s.kick.core.unsettled = _), (congrArg State.received h : s.kick.core.received = _)⟩

/-! ## A law of the Budget along the moves -/

/-- A law of the Budget and the caps alone. -/
structure BudgetLaw (P : State → Prop) : Prop where
  same : ∀ {s t : State}, t.budget = s.budget → t.config.slots = s.config.slots → P s → P t
  demand : ∀ (s : State) (k : Fin 52) (d : Nat), P s → P (s.withDemand k d)
  report : ∀ (content : List Byte) (copy : PostedCopy) (s : State), P s → P (reportBudget content copy s)

/-- A law of the Budget that a pass keeps is kept by every run of signals. -/
theorem BudgetLaw.run_keeps {P : State → Prop} (law : BudgetLaw P) (hpass : ∀ s, P s → P s.afterPass) (n : Nat)
    (sent : List Outgoing) (l : List Signal) (s : State) (h : P s) : P (run n sent l s) := by
  refine Machine.run_keeps (fun sent x rest s sent' l' t hs hturn _ => ?_) (fun s hs => ?_) n sent l s h
  · cases hturn with
    | pass => exact hpass s hs
    | post k d _ => exact law.demand s k d hs
    | grant k g later more t hq ht =>
      obtain ⟨hb, hc, -⟩ := Books.delivered ht
      exact law.same hb hc hs
    | report content copy later hq => exact law.report content copy s hs
    | quiet x more t _ _ ht =>
      obtain ⟨hb, hc, -⟩ := Books.same ht
      exact law.same hb hc hs
  · exact law.same (s := s) rfl rfl hs

/-! ## The sum of the grants (R18) -/

theorem State.grants_congr {s t : State}
    (h : ∀ k : Fin 52, t.budget.slots[k].grant = s.budget.slots[k].grant) : t.grants = s.grants := by
  rw [State.grants, State.grants, vector_toList_eq_map, vector_toList_eq_map s.budget.slots, List.map_map, List.map_map]
  exact List.map_congr_left fun k _ => h k

theorem State.sumWithin_congr {s t : State} (hm : t.budget.mode = s.budget.mode)
    (hr : t.budget.result = s.budget.result) (hg : t.grants = s.grants) (h : s.sumWithin) : t.sumWithin := by
  unfold State.sumWithin at *
  rwa [hm, hr, hg]

theorem sumWithin_budgetLaw : BudgetLaw State.sumWithin where
  same hb _ h := State.sumWithin_congr (congrArg Budget.mode hb) (congrArg Budget.result hb)
    (State.grants_congr fun k => by rw [hb]) h
  demand s k d := State.sumWithin_congr rfl rfl (State.grants_congr fun j => s.withDemand_grant k j d)
  report content copy s h := State.sumWithin_congr (by simp) (by simp)
    (State.grants_congr fun k => by rw [reportBudget_slots]) h

theorem settle_sumWithin (h : Handled) (hs : h.1.sumWithin) : (settle h).sumWithin :=
  sumWithin_budgetLaw.run_keeps (fun s _ => s.afterPass_sumWithin) _ _ _ _ hs

/-- A pass brings the sum of the grants within what is available, whatever stood before it. -/
theorem send_pass_sumWithin (s : State) : (s.send .pass).sumWithin := by
  rw [State.send_pass]
  exact sumWithin_budgetLaw.run_keeps (fun s _ => s.afterPass_sumWithin) _ _ _ _ s.afterPass_sumWithin

theorem budgetStart_sumWithin {s : State} (h : s.budget = budgetStart) : s.sumWithin := by
  intro hm
  rw [h] at hm
  cases hm

theorem Works.sumWithin {r s : State} (h : Works r s) (hr : r.sumWithin) : s.sumWithin := by
  induction h with
  | refl => exact hr
  | quiet _ e ih => exact sumWithin_budgetLaw.same (Books.same e).1 (Books.same e).2.1 ih
  | kick _ ih => exact sumWithin_budgetLaw.same (State.kick_same _).1 (congrArg _ (State.kick_same _).2.1) ih
  | settle _ l ih => exact settle_sumWithin _ ih
  | pass _ _ _ _ => exact send_pass_sumWithin _
  | silence _ => exact send_pass_sumWithin _
  | start _ p _ => exact budgetStart_sumWithin p.budget

/-! ## No grant rises in HOLD mode (R17) -/

/-- The grants are at most those of a state. -/
def State.noneRaised (r s : State) : Prop := ∀ k : Fin 52, s.budget.slots[k].grant ≤ r.budget.slots[k].grant

/-- A grant that has risen since a state means NORMAL mode. -/
def State.raisedInNormal (r s : State) : Prop := s.budget.mode = .hold → r.noneRaised s

theorem raisedInNormal_budgetLaw (r : State) : BudgetLaw r.raisedInNormal where
  same hb _ h := by unfold State.raisedInNormal State.noneRaised at *; rwa [hb]
  demand s k d h hm j := by rw [State.withDemand_grant]; exact h hm j
  report content copy s h hm k := by rw [reportBudget_slots]; exact h (by simpa using hm) k

/-- A pass in HOLD mode raises no grant. -/
theorem afterPass_noneRaised {r s : State} (hm : s.budget.mode = .hold) (h : r.noneRaised s) : r.noneRaised s.afterPass := by
  intro k
  rw [State.afterPass_slot]
  exact (s.passGrants_hold_le hm k).trans (h k)

theorem afterPass_raisedInNormal {r s : State} (h : r.raisedInNormal s) : r.raisedInNormal s.afterPass := by
  intro hm
  rw [State.afterPass_mode] at hm
  exact afterPass_noneRaised hm (h hm)

theorem settle_raisedInNormal {r : State} (h : Handled) (hs : r.raisedInNormal h.1) : r.raisedInNormal (settle h) :=
  (raisedInNormal_budgetLaw r).run_keeps (fun _ => afterPass_raisedInNormal) _ _ _ _ hs

theorem Works.raisedInNormal {r s : State} (h : Works r s) : r.raisedInNormal s := by
  induction h with
  | refl => exact fun _ k => le_rfl
  | quiet _ e ih => exact (raisedInNormal_budgetLaw r).same (Books.same e).1 (Books.same e).2.1 ih
  | kick _ ih => exact (raisedInNormal_budgetLaw r).same (State.kick_same _).1 (congrArg _ (State.kick_same _).2.1) ih
  | settle _ l ih => exact settle_raisedInNormal _ ih
  | @pass t u _ p hm ih =>
    refine settle_raisedInNormal (u, [.pass]) fun hu k => ?_
    rw [p.grant]
    exact ih (hm hu) k
  | @silence u p =>
    refine settle_raisedInNormal (u, [.pass]) fun hu k => ?_
    rw [p.grant]
  | start _ p _ =>
    intro hm k
    rw [p.budget]
    simp [budgetStart, slotStart]

/-! ## Each grant (R18) -/

/-- Every effective demand is at most its cap. -/
def State.capped (s : State) : Prop := ∀ k : Fin 52, s.budget.slots[k].effective ≤ s.config.slots[k].cap

/-- Every grant is at most its effective demand. -/
def State.granted (s : State) : Prop := ∀ k : Fin 52, s.budget.slots[k].grant ≤ s.budget.slots[k].effective

theorem State.grantsWithin_iff (s : State) : s.grantsWithin ↔ s.capped ∧ (s.unsettled = false → s.granted) :=
  ⟨fun h => ⟨fun k => (h k).1, fun hu k => (h k).2 hu⟩, fun h k => ⟨h.1 k, fun hu => h.2 hu k⟩⟩

theorem capped_budgetLaw : BudgetLaw State.capped where
  same hb hc h := by unfold State.capped at *; rwa [hb, hc]
  demand s k d h j := by
    rcases eq_or_ne k j with rfl | hj
    · rw [State.withDemand_slot_same]; exact min_le_right _ _
    · rw [State.withDemand_slot_other s d hj]; exact h j
  report content copy s h k := by rw [reportBudget_slots, reportBudget_config]; exact h k

theorem afterPass_capped {s : State} (h : s.capped) : s.afterPass.capped := by
  intro k
  rw [State.afterPass_slot]
  exact h k

/-- A pass brings every grant within its effective demand. -/
theorem State.afterPass_granted (s : State) : s.afterPass.granted := by
  intro k
  rw [State.afterPass_slot]
  exact s.passGrants_le k

/-- Between the turns of a step every grant is within its demand, but right before a pass. -/
def grantedOrPass (l : List Signal) (s : State) : Prop := s.unsettled = false → s.granted ∨ l.head? = some .pass

theorem granted_congr {s t : State} (hb : t.budget.slots = s.budget.slots) (h : s.granted) : t.granted := by
  unfold State.granted at *; rwa [hb]

theorem turn_grantedOrPass {sent sent' : List Outgoing} {x : Signal} {rest l' : List Signal} {s t : State}
    (h : grantedOrPass (x :: rest) s) (hturn : BudgetTurn sent rest s x sent' l' t) : grantedOrPass l' t := by
  have keeps {t : State} (hx : x ≠ .pass) (hu : t.unsettled = s.unsettled) (hb : t.budget.slots = s.budget.slots) :
      grantedOrPass l' t := by
    intro ht
    rcases h (hu ▸ ht) with hs | hs
    · exact .inl (granted_congr hb hs)
    · exact absurd (Option.some.inj hs) hx
  cases hturn with
  | pass => exact fun _ => .inl s.afterPass_granted
  | post k d _ => exact fun _ => .inr rfl
  | grant k g later more t hq ht =>
    obtain ⟨hb, -, hu, -⟩ := Books.delivered ht
    exact keeps (by simp) hu (congrArg _ hb)
  | report content copy later hq => exact keeps (by simp) (by simp) (by simp)
  | quiet x more t hx _ ht =>
    obtain ⟨hb, -, hu, -⟩ := Books.same ht
    exact keeps hx hu (congrArg _ hb)

theorem run_granted (n : Nat) (sent : List Outgoing) (l : List Signal) (s : State) (h : grantedOrPass l s)
    (hu : (run n sent l s).unsettled = false) : (run n sent l s).granted := by
  rcases run_induct (P := fun _ l t => grantedOrPass l t) (fun _ _ _ _ _ _ _ h ht _ => turn_grantedOrPass h ht)
    n sent l s h with ⟨_, h⟩ | ⟨_, _, _, t, _, e⟩
  · rcases h hu with h | h
    · exact h
    · cases h
  · rw [e] at hu; cases hu

theorem settle_grantsWithin (h : Handled) (hs : h.1.capped) (hg : grantedOrPass h.2 h.1) : (settle h).grantsWithin :=
  (State.grantsWithin_iff _).2
    ⟨capped_budgetLaw.run_keeps (fun _ => afterPass_capped) _ _ _ _ hs, run_granted _ _ _ _ hg⟩

theorem grantsWithin_congr {s t : State} (hb : t.budget = s.budget) (hc : t.config.slots = s.config.slots)
    (hu : t.unsettled = s.unsettled) (h : s.grantsWithin) : t.grantsWithin := by
  unfold State.grantsWithin State.slotConfig at *
  rwa [hb, hc, hu]

theorem Prepared.grantsWithin {s u : State} (p : Prepared s u) (h : s.grantsWithin) : (u.send .pass).grantsWithin :=
  settle_grantsWithin (u, [.pass]) (p.caps ((State.grantsWithin_iff s).1 h).1) fun _ => .inr rfl

theorem Works.grantsWithin {r s : State} (h : Works r s) (hr : r.grantsWithin) : s.grantsWithin := by
  induction h with
  | refl => exact hr
  | quiet _ e ih =>
    obtain ⟨hb, hc, hu, -⟩ := Books.same e
    exact grantsWithin_congr hb hc hu ih
  | @kick t _ ih =>
    obtain ⟨hb, hc, hu, -⟩ := t.kick_same
    exact grantsWithin_congr hb (congrArg _ hc) hu ih
  | settle _ l ih =>
    obtain ⟨hc, hg⟩ := (State.grantsWithin_iff _).1 ih
    exact settle_grantsWithin _ hc fun hu => .inl (hg hu)
  | pass _ p _ ih => exact p.grantsWithin ih
  | silence p => exact p.grantsWithin hr
  | start _ p _ =>
    intro k
    rw [p.budget]
    simp [budgetStart, slotStart]

/-- Settles O19: each law is kept by every kind of move (`Works`), the sum and the single grants because a pass establishes them,
the HOLD law because a HOLD pass raises no grant and the fall into HOLD is the first move of its step. -/
theorem grantsStayWithinTheirBounds : Obligations.GrantsStayWithinTheirBounds := by
  unfold Obligations.GrantsStayWithinTheirBounds
  refine ⟨fun s t hs h => ?_, fun s t hs h => ?_, fun s t h hm k => ?_⟩ <;> obtain ⟨r, hr, hw⟩ := step_worked h
  · exact hw.sumWithin (sumWithin_budgetLaw.same hr.budget hr.slots hs)
  · exact hw.grantsWithin (grantsWithin_congr hr.budget hr.slots hr.unsettled hs)
  · rw [← hr.budget]
    exact hw.raisedInNormal hm k

end Sys2Proof.Machine
end

section
/-! Every step leaves the grants with their owners and the passes reported (R9, R16, R19, R24). -/

namespace Sys2Proof.Machine

/-! ## What a pass sends on -/

/-- The hold-off of a slot after a pass (R9, R16). -/
theorem State.holdOffAfter_eq (s : State) (k : Fin 52) (g : Nat) :
    s.holdOffAfter k g = if g < s.budget.slots[k].grant ∧ 24 ≤ k.val ∧ s.config.slots[k].holdOff ≠ 0 then
      some (s.now + 1000 * s.config.slots[k].holdOff) else s.budget.slots[k].holdOffEnds := by
  simp only [State.holdOffAfter, slotClass_ne_divisible, State.slotConfig, State.ends]

/-- What a pass sends on, told by the state that it leaves (R16). -/
theorem State.passOutgoing_eq (s : State) :
    s.passOutgoing =
      ((List.finRange 52).filter fun k : Fin 52 =>
          decide (s.afterPass.budget.slots[k].grant ≠ s.budget.slots[k].delivered)).map
        (fun k => Outgoing.grant k s.afterPass.budget.slots[k].grant)
      ++ [.report s.afterPass.budgetContent s.afterPass.passCopy] := by
  simp only [State.passOutgoing, State.passChanged, State.afterPass_slot, allSlots, ne_eq, bne,
    beq_eq_decide, decide_not]

/-- A posted pass stands in the copy, and its report waits (R24). -/
theorem reportBudget_reports (content : List Byte) (copy : PostedCopy) (s : State) (h : s.budget.posted ≠ some copy) :
    (reportBudget content copy s).budget.posted = some copy
      ∧ (reportBudget content copy s).budgetEntry = some ⟨.budget, content⟩ := by
  unfold reportBudget
  rw [if_neg h]
  exact ⟨rfl, find_postTo_same _ _ _⟩

/-- The first BUDGET entry of the queue is reported. -/
theorem State.reported_of_budgetEntry {s : State} {c : List Byte} (h : s.budgetEntry = some ⟨.budget, c⟩) :
    s.reported .budget c := .inl (List.mem_of_find?_eq_some h)

@[simp] theorem State.afterPass_received (s : State) : s.afterPass.received = s.received := by
  funext k
  unfold State.received
  simp only [State.afterPass_zones, State.afterPass_pump, State.afterPass_gypsy]

@[simp] theorem State.afterPass_budgetEntry (s : State) : s.afterPass.budgetEntry = s.budgetEntry := by
  simp only [State.budgetEntry, State.afterPass_link]

/-! ## The grants and their owners -/

/-- What the owners hold once all that is on its way has reached them. -/
def holdings (sent : List Outgoing) (received : Fin 52 → Option Nat) : Fin 52 → Option Nat :=
  sent.foldl (fun r item => match item with
    | .grant k g => deliver k g r
    | .report _ _ => r) received

theorem holdings_append (sent more : List Outgoing) (received : Fin 52 → Option Nat) :
    holdings (sent ++ more) received = holdings more (holdings sent received) := List.foldl_append

theorem holdings_grants (l : List (Fin 52)) (f : Fin 52 → Nat) (received : Fin 52 → Option Nat) (k : Fin 52) :
    holdings (l.map fun k => .grant k (f k)) received k = if k ∈ l then (received k).map fun _ => f k else received k := by
  induction l generalizing received with
  | nil => rfl
  | cons j rest ih =>
    rw [List.map_cons, holdings, List.foldl_cons, ← holdings, ih]
    rcases eq_or_ne k j with rfl | h
    · simp only [deliver_same, List.mem_cons, true_or, if_true, Option.map_map]
      split <;> rfl
    · simp only [deliver_other h, List.mem_cons, h, false_or]

/-- Every owner holds the grant of its slot. -/
def State.held (s : State) (received : Fin 52 → Option Nat) : Prop :=
  ∀ (k : Fin 52) (g : Nat), received k = some g → g = s.budget.slots[k].grant

/-- The grants last delivered are those in force. -/
def State.allDelivered (s : State) : Prop := ∀ k : Fin 52, s.budget.slots[k].delivered = s.budget.slots[k].grant

theorem State.grantsDelivered_iff (s : State) :
    s.grantsDelivered ↔ s.allDelivered ∧ (s.unsettled = false → s.held s.received) := by
  refine and_congr_right fun _ => imp_congr_right fun _ => ⟨fun ⟨hz, hp, hw⟩ k g h => ?_, fun h => ⟨fun z => ⟨?_, ?_⟩, ?_, ?_⟩⟩
  · rcases slot_cases k with ⟨z, rfl⟩ | ⟨z, rfl⟩ | rfl | rfl | hk
    · rw [← (hz z).1]; exact Option.some.inj (h.symm.trans (s.received_light z))
    · rw [← (hz z).2]; exact Option.some.inj (h.symm.trans (s.received_climate z))
    · rw [← hp]; exact (Option.some.inj h).symm
    · rw [← hw]; exact (Option.some.inj h).symm
    · rw [State.received_aux s k hk] at h; cases h
  · exact h _ _ (s.received_light z)
  · exact h _ _ (s.received_climate z)
  · exact h _ _ s.received_pump
  · exact h _ _ s.received_windlass

theorem State.afterPass_allDelivered (s : State) : s.afterPass.allDelivered := by
  intro k
  rw [State.afterPass_slot]

/-- What a pass sends on brings every owner to its grant, when each held the grant last delivered, or has none and has no
demand (R16). -/
theorem afterPass_held (s : State) (received : Fin 52 → Option Nat)
    (h : ∀ (k : Fin 52) (g : Nat), received k = some g →
      g = s.budget.slots[k].delivered ∨ (s.budget.slots[k].effective = 0 ∧ g = 0)) :
    s.afterPass.held (holdings s.passOutgoing received) := by
  intro k g hg
  rw [State.afterPass_slot]
  rw [State.passOutgoing, holdings_append] at hg
  change holdings (s.passChanged.map fun k => .grant k s.passGrants[k]) received k = some g at hg
  rw [holdings_grants, State.passChanged] at hg
  split at hg
  · cases hr : received k with
    | none => rw [hr] at hg; cases hg
    | some x => rw [hr] at hg; exact (Option.some.inj hg).symm
  · next hk =>
    have same : s.passGrants[k] = s.budget.slots[k].delivered := by
      simpa [allSlots] using hk
    rcases h k g hg with e | ⟨he, hz⟩
    · exact e.trans same.symm
    · have := s.passGrants_le k
      simp only
      omega

/-- Between the turns of a step: the grants on their way will bring every owner to its grant. -/
structure Delivering (sent : List Outgoing) (l : List Signal) (s : State) : Prop where
  delivered : s.allDelivered
  held : s.unsettled = false → s.held (holdings sent s.received)
  ends : sent ≠ [] → .passEnd ∈ l

theorem State.held_congr {s t : State} (hb : t.budget.slots = s.budget.slots) {f : Fin 52 → Option Nat} (h : s.held f) :
    t.held f := by unfold State.held at *; rwa [hb]

theorem State.allDelivered_congr {s t : State} (hb : t.budget.slots = s.budget.slots) (h : s.allDelivered) :
    t.allDelivered := by unfold State.allDelivered at *; rwa [hb]

theorem turn_delivering {sent sent' : List Outgoing} {x : Signal} {rest l' : List Signal} {s t : State}
    (h : Delivering sent (x :: rest) s) (hturn : BudgetTurn sent rest s x sent' l' t) : Delivering sent' l' t := by
  cases hturn with
  | pass =>
    refine ⟨s.afterPass_allDelivered, fun hu => ?_, fun _ => List.mem_cons_self⟩
    rw [State.afterPass_unsettled] at hu
    rw [holdings_append, State.afterPass_received]
    exact afterPass_held s _ fun k g hg => .inl ((h.held hu k g hg).trans (h.delivered k).symm)
  | post k d _ =>
    refine ⟨fun j => ?_, fun hu j g hg => ?_, fun hs => List.mem_cons_of_mem _ ?_⟩
    · rw [State.withDemand_delivered, State.withDemand_grant]; exact h.delivered j
    · rw [State.withDemand_grant]; exact h.held hu j g hg
    · exact (List.mem_cons.1 (h.ends hs)).resolve_left (by simp)
  | grant k g later more t hq ht =>
    subst hq
    obtain ⟨hb, -, hu, hr, -⟩ := Books.delivered ht
    refine ⟨State.allDelivered_congr (congrArg _ hb) h.delivered, fun htu => ?_, fun _ => by simp⟩
    rw [hr]
    exact State.held_congr (congrArg _ hb) (h.held (hu ▸ htu))
  | report content copy later hq =>
    subst hq
    refine ⟨State.allDelivered_congr (by simp) h.delivered, fun htu => ?_, fun _ => by simp⟩
    have hr : (reportBudget content copy s).received = s.received := by unfold reportBudget; split <;> rfl
    rw [hr]
    exact State.held_congr (by simp) (h.held (by simpa using htu))
  | quiet x more t _ hend ht =>
    obtain ⟨hb, -, hu, hr, -⟩ := Books.same ht
    refine ⟨State.allDelivered_congr (congrArg _ hb) h.delivered, fun htu => ?_, fun hs => ?_⟩
    · rw [hr]; exact State.held_congr (congrArg _ hb) (h.held (hu ▸ htu))
    · exact List.mem_append_right _ ((List.mem_cons.1 (h.ends hs)).resolve_left fun e => hs (hend e.symm))

theorem run_grantsDelivered (n : Nat) (sent : List Outgoing) (l : List Signal) (s : State) (h : Delivering sent l s) :
    (run n sent l s).grantsDelivered := by
  rw [State.grantsDelivered_iff]
  rcases run_induct (P := Delivering) (fun _ _ _ _ _ _ _ h ht _ => turn_delivering h ht) n sent l s h with
    ⟨sent', h⟩ | ⟨_, _, _, t, h, e⟩
  · have none_sent : sent' = [] := by
      by_contra hs
      exact absurd (h.ends hs) (by simp)
    subst none_sent
    exact ⟨h.delivered, h.held⟩
  · rw [e]
    exact ⟨h.delivered, fun hu => by cases hu⟩

theorem settle_grantsDelivered (h : Handled) (hs : h.1.grantsDelivered) : (settle h).grantsDelivered := by
  obtain ⟨hd, hh⟩ := (State.grantsDelivered_iff _).1 hs
  exact run_grantsDelivered _ _ _ _ ⟨hd, hh, fun h => absurd rfl h⟩

theorem grantsDelivered_congr {s t : State} (hb : t.budget = s.budget) (hu : t.unsettled = s.unsettled)
    (hr : t.received = s.received) (h : s.grantsDelivered) : t.grantsDelivered := by
  rw [State.grantsDelivered_iff] at *
  unfold State.allDelivered State.held at *
  rwa [hb, hu, hr]

theorem Prepared.grantsDelivered {s u : State} (p : Prepared s u) (h : s.grantsDelivered) :
    (u.send .pass).grantsDelivered := by
  obtain ⟨hd, hh⟩ := (State.grantsDelivered_iff s).1 h
  rw [State.send_pass]
  refine run_grantsDelivered _ _ _ _ ⟨u.afterPass_allDelivered, fun hu => ?_, fun _ => List.mem_cons_self⟩
  rw [State.afterPass_unsettled] at hu
  rw [State.afterPass_received]
  refine afterPass_held u _ fun k g hg => ?_
  rcases p.received k with e | ⟨he, hz⟩
  · left
    rw [p.delivered, hd k]
    exact hh (p.unsettled ▸ hu) k g (e ▸ hg)
  · exact .inr ⟨he, (Option.some.inj (hz.symm.trans hg)).symm⟩

theorem Works.grantsDelivered {r s : State} (h : Works r s) (hr : r.grantsDelivered) : s.grantsDelivered := by
  induction h with
  | refl => exact hr
  | quiet _ e ih =>
    obtain ⟨hb, -, hu, hf, -⟩ := Books.same e
    exact grantsDelivered_congr hb hu hf ih
  | @kick t _ ih =>
    obtain ⟨hb, -, hu, hf⟩ := t.kick_same
    exact grantsDelivered_congr hb hu hf ih
  | settle _ l ih => exact settle_grantsDelivered _ ih
  | pass _ p _ ih => exact p.grantsDelivered ih
  | silence p => exact p.grantsDelivered hr
  | start _ p _ =>
    refine (State.grantsDelivered_iff _).2 ⟨fun k => ?_, fun _ k g hg => ?_⟩
    · rw [p.budget]; simp [budgetStart, slotStart]
    · rw [p.budget, p.received k g hg]; simp [budgetStart, slotStart]

/-! ## The last pass and the last-posted copy (R24) -/

/-- The last-posted copy once all that is on its way has been compared with it. -/
def lastCopy (sent : List Outgoing) (posted : Option PostedCopy) : Option PostedCopy :=
  sent.foldl (fun p item => match item with
    | .grant _ _ => p
    | .report _ copy => some copy) posted

theorem lastCopy_append_report (sent : List Outgoing) (content : List Byte) (copy : PostedCopy) (posted : Option PostedCopy) :
    lastCopy (sent ++ [.report content copy]) posted = some copy := by
  simp [lastCopy, List.foldl_append]

theorem lastCopy_passOutgoing (sent : List Outgoing) (s : State) (posted : Option PostedCopy) :
    lastCopy (sent ++ s.passOutgoing) posted = some s.afterPass.passCopy := by
  rw [State.passOutgoing, ← List.append_assoc, lastCopy_append_report]

@[simp] theorem reportBudget_posted (content : List Byte) (copy : PostedCopy) (s : State) :
    (reportBudget content copy s).budget.posted = some copy := by
  unfold reportBudget; split
  · assumption
  · rfl

theorem State.passCopy_congr {s t : State} (hg : t.grants = s.grants) (hr : t.budget.result = s.budget.result) :
    t.passCopy = s.passCopy := by unfold State.passCopy; rw [hg, hr]

/-- Between the turns of a step that began with pass number `n`: a pass taken since then will stand in the copy. -/
structure Copying (n : Nat) (sent : List Outgoing) (l : List Signal) (s : State) : Prop where
  copied : s.unsettled = false →
    s.budget.passNumber = n ∨ s.budget.passNumber = 0 ∨ lastCopy sent s.budget.posted = some s.passCopy
  ends : sent ≠ [] → .passEnd ∈ l

/-- A state whose passes since number `n` stand in the copy. -/
abbrev Copied (n : Nat) (s : State) : Prop := Copying n [] [] s

theorem Copied.of_budget {n : Nat} {s t : State} (h : Copied n s) (hb : t.budget = s.budget) (hu : t.unsettled = s.unsettled) :
    Copied n t := by
  refine ⟨fun htu => ?_, fun h => absurd rfl h⟩
  have hc : t.passCopy = s.passCopy := State.passCopy_congr (State.grants_congr fun k => by rw [hb]) (congrArg _ hb)
  rw [hb, hc]
  exact h.copied (hu ▸ htu)

theorem turn_copying {n : Nat} {sent sent' : List Outgoing} {x : Signal} {rest l' : List Signal} {s t : State}
    (h : Copying n sent (x :: rest) s) (hturn : BudgetTurn sent rest s x sent' l' t) : Copying n sent' l' t := by
  cases hturn with
  | pass => exact ⟨fun _ => .inr (.inr (lastCopy_passOutgoing sent s _)), fun _ => List.mem_cons_self⟩
  | post k d _ =>
    refine ⟨fun hu => ?_, fun hs => List.mem_cons_of_mem _ ((List.mem_cons.1 (h.ends hs)).resolve_left (by simp))⟩
    rw [State.passCopy_congr (State.grants_congr fun j => s.withDemand_grant k j d) (s.withDemand_result k d)]
    exact h.copied hu
  | grant k g later more t hq ht =>
    subst hq
    obtain ⟨hb, -, hu, -⟩ := Books.delivered ht
    refine ⟨fun htu => ?_, fun _ => by simp⟩
    rw [hb, State.passCopy_congr (State.grants_congr fun k => by rw [hb]) (congrArg _ hb)]
    exact h.copied (hu ▸ htu)
  | report content copy later hq =>
    subst hq
    refine ⟨fun hu => ?_, fun _ => by simp⟩
    rw [State.passCopy_congr (State.grants_congr fun k => by rw [reportBudget_slots]) (reportBudget_result content copy s),
      reportBudget_posted, reportBudget_passNumber]
    exact h.copied (by simpa using hu)
  | quiet x more t _ hend ht =>
    obtain ⟨hb, -, hu, -⟩ := Books.same ht
    refine ⟨fun htu => ?_, fun hs =>
      List.mem_append_right _ ((List.mem_cons.1 (h.ends hs)).resolve_left fun e => hs (hend e.symm))⟩
    rw [hb, State.passCopy_congr (State.grants_congr fun k => by rw [hb]) (congrArg _ hb)]
    exact h.copied (hu ▸ htu)

theorem run_copied {n : Nat} (m : Nat) (sent : List Outgoing) (l : List Signal) (s : State) (h : Copying n sent l s) :
    Copied n (run m sent l s) := by
  rcases run_induct (P := Copying n) (fun _ _ _ _ _ _ _ h ht _ => turn_copying h ht) m sent l s h with
    ⟨sent', h⟩ | ⟨_, _, _, t, _, e⟩
  · have none_sent : sent' = [] := by
      by_contra hs
      exact absurd (h.ends hs) (by simp)
    subst none_sent
    exact h
  · rw [e]
    exact ⟨fun hu => (by cases hu), fun h => absurd rfl h⟩

/-- A pass that a command of the Budget takes stands in the copy. -/
theorem send_pass_copied (n : Nat) (u : State) : Copied n (u.send .pass) := by
  rw [State.send_pass]
  refine run_copied _ _ _ _ ⟨fun _ => .inr (.inr ?_), fun _ => List.mem_cons_self⟩
  simpa using lastCopy_passOutgoing [] u u.afterPass.budget.posted

theorem Works.copied {r s : State} (h : Works r s) : Copied r.budget.passNumber s := by
  induction h with
  | refl => exact ⟨fun _ => .inl rfl, fun h => absurd rfl h⟩
  | quiet _ e ih =>
    obtain ⟨hb, -, hu, -⟩ := Books.same e
    exact ih.of_budget hb hu
  | @kick t _ ih =>
    obtain ⟨hb, -, hu, -⟩ := t.kick_same
    exact ih.of_budget hb hu
  | settle _ l ih => exact run_copied _ _ _ _ ⟨ih.copied, fun h => absurd rfl h⟩
  | pass _ _ _ _ => exact send_pass_copied _ _
  | silence _ => exact send_pass_copied _ _
  | start _ p _ => exact ⟨fun _ => .inr (.inl (by rw [p.budget]; rfl)), fun h => absurd rfl h⟩

/-! ## The report of a changed copy (R24) -/

/-- A content of BUDGET tells the mode, the flags and the grants of a copy (section Byte layouts). -/
def Tells (c : List Byte) (copy : PostedCopy) : Prop :=
  (c.drop 2).take 1 = u8 copy.mode.code
    ∧ (c.drop 17).take 1 = bits [copy.flags.neg, copy.flags.short, copy.flags.zero, copy.flags.sat, copy.flags.held]
    ∧ (c.drop 18).take 104 = copy.grants.flatMap u16

theorem flatMap_u16_length (l : List Nat) : (l.flatMap u16).length = 2 * l.length := by
  induction l with
  | nil => rfl
  | cons x rest ih => simp only [List.flatMap_cons, List.length_append, ih, u16, List.length_cons, List.length_nil]; omega

/-- The content of a pass's report tells its copy. -/
theorem State.budgetContent_tells (s : State) : Tells s.budgetContent s.passCopy := by
  have hlen : (s.grants.flatMap u16).length = 104 := by
    rw [flatMap_u16_length, State.grants, List.length_map, Vector.length_toList]
  refine ⟨rfl, rfl, ?_⟩
  have hdrop : s.budgetContent.drop 18 = s.grants.flatMap u16 ++ s.budget.result.shortBytes := rfl
  rw [hdrop, ← hlen, List.take_left]
  rfl

/-- A BUDGET report with a content waits first of its key, or is on the transmit line. -/
def State.carries (s : State) (c : List Byte) : Prop :=
  s.budgetEntry = some ⟨.budget, c⟩
    ∨ ∃ x, s.link.sending = some x ∧ x.frame.kind = ReportKey.budget.code ∧ x.frame.payload = c

theorem State.reported_of_carries {s : State} {c : List Byte} (h : s.carries c) : s.reported .budget c :=
  h.imp List.mem_of_find?_eq_some id

/-- The copy is as it was, or is empty, or a report that tells it is on its way out. -/
def Told (p : Option PostedCopy) (s : State) : Prop :=
  s.budget.posted = p ∨ s.budget.posted = none ∨ ∃ c copy, s.budget.posted = some copy ∧ s.carries c ∧ Tells c copy

theorem Told.congr {p : Option PostedCopy} {s t : State} (h : Told p s) (hp : t.budget.posted = s.budget.posted)
    (he : t.budgetEntry = s.budgetEntry) (hs : t.link.sending = s.link.sending) : Told p t := by
  unfold Told State.carries at *
  rwa [hp, he, hs]

/-- Every report on its way tells its copy. -/
def tellTheirCopies (sent : List Outgoing) : Prop := ∀ c copy, .report c copy ∈ sent → Tells c copy

theorem passOutgoing_tell (s : State) : tellTheirCopies s.passOutgoing := by
  intro c copy h
  simp only [State.passOutgoing, List.mem_append, List.mem_map, reduceCtorEq, and_false, exists_false, false_or,
    List.mem_singleton, Outgoing.report.injEq] at h
  obtain ⟨rfl, rfl⟩ := h
  exact s.afterPass.budgetContent_tells

theorem tellTheirCopies_append {a b : List Outgoing} (ha : tellTheirCopies a) (hb : tellTheirCopies b) :
    tellTheirCopies (a ++ b) := fun c copy h => (List.mem_append.1 h).elim (ha c copy) (hb c copy)

theorem turn_told {p : Option PostedCopy} {sent sent' : List Outgoing} {x : Signal} {rest l' : List Signal} {s t : State}
    (h : tellTheirCopies sent ∧ Told p s) (hturn : BudgetTurn sent rest s x sent' l' t) :
    tellTheirCopies sent' ∧ Told p t := by
  obtain ⟨htell, htold⟩ := h
  cases hturn with
  | pass => exact ⟨tellTheirCopies_append htell (passOutgoing_tell s), htold.congr (by simp) (by simp) (by simp)⟩
  | post k d _ => exact ⟨htell, htold.congr (by simp) rfl rfl⟩
  | grant k g later more t hq ht =>
    subst hq
    obtain ⟨hb, -, -, -, he, hs⟩ := Books.delivered ht
    exact ⟨fun c copy hm => htell c copy (List.mem_cons_of_mem _ hm), htold.congr (congrArg _ hb) he hs⟩
  | report content copy later hq =>
    subst hq
    refine ⟨fun c copy hm => htell c copy (List.mem_cons_of_mem _ hm), ?_⟩
    by_cases hp : s.budget.posted = some copy
    · rw [reportBudget, if_pos hp]; exact htold
    · obtain ⟨hposted, hentry⟩ := reportBudget_reports content copy s hp
      exact .inr (.inr ⟨content, copy, hposted, .inl hentry, htell _ _ List.mem_cons_self⟩)
  | quiet x more t _ _ ht =>
    obtain ⟨hb, -, -, -, he, hs⟩ := Books.same ht
    exact ⟨htell, htold.congr (congrArg _ hb) he hs⟩

theorem run_told {p : Option PostedCopy} (n : Nat) (sent : List Outgoing) (l : List Signal) (s : State)
    (hsent : tellTheirCopies sent) (h : Told p s) : Told p (run n sent l s) := by
  rcases run_induct (P := fun sent _ t => tellTheirCopies sent ∧ Told p t) (fun _ _ _ _ _ _ _ h ht _ => turn_told h ht)
    n sent l s ⟨hsent, h⟩ with ⟨_, _, h⟩ | ⟨_, _, _, t, ⟨_, h⟩, e⟩
  · exact h
  · rw [e]; exact h

theorem settle_told {p : Option PostedCopy} (h : Handled) (hs : Told p h.1) : Told p (settle h) :=
  run_told _ _ _ _ (fun _ _ h => by cases h) hs

theorem Prepared.told {p : Option PostedCopy} {s u : State} (q : Prepared s u) (h : Told p s) : Told p (u.send .pass) := by
  refine settle_told (u, [.pass]) ?_
  rcases q.posted with e | ⟨hp, he, hs⟩
  · exact .inr (.inl e)
  · exact h.congr hp he hs

/-- The first entry of the queue, when the transmitter takes a BUDGET report, is the first of its key. -/
theorem chooseReport_budget {q : List ReportEntry} {e : ReportEntry} (h : chooseReport q = some e) (hk : e.key = .budget) :
    q.find? (·.key = .budget) = some e := by
  simp only [chooseReport, Option.or_eq_some_iff] at h
  rcases h with h | ⟨-, h | ⟨-, h⟩⟩
  · have := List.find?_some h
    simp [hk] at this
  · have := List.find?_some h
    simp [hk, ReportKey.urgent] at this
  · cases q with
    | nil => cases h
    | cons x rest =>
      obtain rfl := Option.some.inj h
      simp [hk]

theorem find_takeReport_other {key other : ReportKey} (h : other ≠ key) (q : List ReportEntry) :
    (takeReport other q).find? (·.key = key) = q.find? (·.key = key) := by
  unfold takeReport
  rw [List.find?_filter]
  congr
  funext e
  by_cases he : e.key = key <;> simp [he, h.symm]

/-- The transmitter's choice keeps a BUDGET report on its way out. -/
theorem State.kick_carries {s : State} {c : List Byte} (h : s.carries c) : s.kick.carries c := by
  unfold State.kick
  split
  · exact h
  · next hs _ =>
    refine .inl (h.resolve_right ?_)
    rintro ⟨x, hx, -⟩
    rw [hs] at hx; cases hx
  · next hs _ =>
    have hentry := h.resolve_right (by rintro ⟨x, hx, -⟩; rw [hs] at hx; cases hx)
    split
    · exact h
    · split
      · exact h
      · next e he =>
        by_cases hk : e.key = .budget
        · have hfirst := chooseReport_budget he hk
          obtain rfl : e = ⟨.budget, c⟩ := Option.some.inj (hfirst.symm.trans hentry)
          exact .inr ⟨_, rfl, rfl, rfl⟩
        · exact .inl ((find_takeReport_other hk _).trans hentry)

theorem Works.told {r s : State} (h : Works r s) : Told r.budget.posted s := by
  induction h with
  | refl => exact .inl rfl
  | quiet _ e ih =>
    obtain ⟨hb, -, -, -, he, hs⟩ := Books.same e
    exact ih.congr (congrArg _ hb) he hs
  | @kick t _ ih =>
    have hp : t.kick.budget.posted = t.budget.posted := congrArg _ t.kick_same.1
    unfold Told at *
    rw [hp]
    exact ih.imp_right (Or.imp_right fun ⟨c, copy, hc, hcarry, htell⟩ => ⟨c, copy, hc, t.kick_carries hcarry, htell⟩)
  | settle _ l ih => exact settle_told _ ih
  | pass _ p _ ih => exact p.told ih
  | silence p => exact p.told (.inl rfl)
  | start _ p _ => exact .inr (.inl (by rw [p.budget]; rfl))

/-- Settles O17: the pass and its report by their definitions, the laws of every step because each kind of move (`Works`) keeps
them: what is on its way in a run accounts for the owners that do not hold their grants yet, and for a copy that lags behind. -/
theorem passesEndWithDeliveryAndReport : Obligations.PassesEndWithDeliveryAndReport := by
  unfold Obligations.PassesEndWithDeliveryAndReport
  refine ⟨fun s => ?_, fun content copy s => ?_, fun s t hs h => ?_, fun s t h hu => ?_⟩
  · simp only [handle_pass]
    refine ⟨fun k => ?_, ?_⟩
    · simp only [State.afterPass_slot, State.holdOffAfter_eq]
    · refine s.passOutgoing_eq.trans ?_
      simp only [State.budgetContent, PassResult.bytes, PassResult.shortBytes, PassFlags.byte, State.passCopy,
        List.append_assoc]
      rfl
  · simp only [sendOn]
    split
    · next hp => rw [reportBudget, if_pos hp]
    · next hp =>
      obtain ⟨hposted, hentry⟩ := reportBudget_reports content copy s hp
      exact ⟨hposted, State.reported_of_budgetEntry hentry⟩
  · obtain ⟨r, hr, hw⟩ := step_worked h
    exact hw.grantsDelivered (grantsDelivered_congr hr.budget hr.unsettled hr.received hs)
  · obtain ⟨r, hr, hw⟩ := step_worked h
    refine ⟨fun hn h0 => ?_, fun hp copy hcopy => ?_⟩
    · rw [← hr.budget] at hn
      exact ((hw.copied.copied hu).resolve_left hn).resolve_left h0
    · rw [← hr.budget] at hp
      obtain ⟨c, copy', hc, hcarry, htell⟩ := (hw.told.resolve_left hp).resolve_left (by rw [hcopy]; simp)
      obtain rfl : copy' = copy := Option.some.inj (hc.symm.trans hcopy)
      exact ⟨c, State.reported_of_carries hcarry, htell⟩

end Sys2Proof.Machine
end

section
/-! What each stored record of the configuration is held to, and that every record as stored, as read from an image and as the
factory sets it lies in its ranges. -/

namespace Sys2Proof.Machine

/-! ## Numbers read from bytes -/

theorem natOf_append (l : List Byte) (b : Byte) : natOf (l ++ [b]) = natOf l * 256 + b.toNat := by
  simp [natOf, List.foldl_append]

/-- A number read from bytes fits them. -/
theorem natOf_lt (l : List Byte) : natOf l < 256 ^ l.length := by
  induction l using List.reverseRecOn with
  | nil => decide
  | append_singleton l b ih =>
    rw [natOf_append, List.length_append, List.length_singleton, Nat.pow_succ]
    have := b.isLt
    omega

theorem natAt_lt (p : List Byte) (off width : Nat) : natAt p off width < 256 ^ width :=
  (natOf_lt _).trans_le (Nat.pow_le_pow_right (by decide) (List.length_take_le _ _))

theorem natAt_byte_le (p : List Byte) (off : Nat) : natAt p off 1 ≤ 255 := Nat.le_of_lt_succ (natAt_lt p off 1)

theorem intAt_bounds (p : List Byte) (off : Nat) : -2147483648 ≤ intAt p off ∧ intAt p off ≤ 2147483647 := by
  have h : natAt p off 4 < 4294967296 := natAt_lt p off 4
  simp only [intAt]
  split <;> omega

/-- A list mapped under `Option` pairs each item with what it gives. -/
theorem forall₂_of_mapM {α β : Type} {f : α → Option β} {l : List α} {m : List β} (h : l.mapM f = some m) :
    List.Forall₂ (fun a b => f a = some b) l m := by
  induction l generalizing m with
  | nil => obtain rfl : [] = m := Option.some.inj h; exact .nil
  | cons a rest ih =>
    rw [List.mapM_cons] at h
    obtain ⟨b, hb, h⟩ := Option.bind_eq_some_iff.1 h
    obtain ⟨bs, hbs, h⟩ := Option.bind_eq_some_iff.1 h
    obtain rfl : b :: bs = m := Option.some.inj h
    exact .cons hb (ih hbs)

/-! ## Operands that fit their fields -/

/-- The operands of a request that are stored without a clamp and without a check fit the fields that carry them. -/
def Instr.sized : Instr → Prop
  | .setZone _ _ f => f.volume ≤ 255
  | .storeScene _ _ r => ∀ f ∈ r, ∀ m ∈ f.mode, m ≤ 255
  | .setPanel _ _ r => ∀ f ∈ r, ∀ k ∈ f.coefficients.toList, -2147483648 ≤ k ∧ k ≤ 2147483647
  | .setTagmap _ _ _ f => f.tag ≤ 255
  | _ => True

theorem sized_of_wellFormed {i : Instr} (h : i.wellFormed = true) : Instr.sized i := by
  cases i with
  | setZone tag z f =>
    simp only [Instr.wellFormed, ZoneFields.wellFormed, Bool.and_eq_true, decide_eq_true_eq] at h
    obtain ⟨-, ⟨-, hv⟩, -⟩ := h
    exact Nat.le_of_lt_succ hv
  | storeScene tag n r =>
    simp only [Instr.wellFormed, SceneFields.wellFormed, Bool.and_eq_true, Option.all_eq_true, decide_eq_true_eq] at h
    exact fun f hf m hm => Nat.le_of_lt_succ ((h.2 f hf).2 m hm)
  | setPanel tag p r =>
    simp only [Instr.wellFormed, PanelFields.wellFormed, Bool.and_eq_true, Option.all_eq_true, List.all_eq_true,
      decide_eq_true_eq] at h
    intro f hf k hk
    obtain ⟨⟨⟨-, hc⟩, -⟩, -⟩ := h.2 f hf
    have := hc k hk
    omega
  | setTagmap tag p e f =>
    simp only [Instr.wellFormed, TagFields.wellFormed, Bool.and_eq_true, decide_eq_true_eq] at h
    exact Nat.le_of_lt_succ h.2.2
  | _ => trivial

/-- What the examination of a frame finds is a request with operands that fit, if it is a request. -/
def Examined.sized : Examined → Prop
  | .request i => Instr.sized i
  | _ => True

theorem ofLength_sized {i : Instr} {n : Nat} {p : List Byte} (h : Instr.sized i) : (ofLength n p i).sized := by
  unfold ofLength
  split
  · exact h
  · trivial

theorem ofCount_sized {i : Instr} {base size off : Nat} {p : List Byte} (h : Instr.sized i) :
    (ofCount base size off p i).sized := by
  unfold ofCount
  split
  · exact h
  · trivial

theorem ofForms_sized {α : Type} {make : Option α → Instr} {write : α} {short long : Nat} {p : List Byte}
    (hn : Instr.sized (make none)) (hw : Instr.sized (make (some write))) : (ofForms short long p make write).sized := by
  unfold ofForms
  split
  · exact hn
  · split
    · exact hw
    · trivial

theorem examineInterlock_sized (tag : Byte) (p : List Byte) : (examineInterlock tag p).sized := by
  unfold examineInterlock
  simp only
  split
  · trivial
  · split
    · trivial
    · split
      · exact ofForms_sized trivial trivial
      · split
        · trivial
        · split <;> trivial

theorem examineChime_sized (tag : Byte) (p : List Byte) : (examineChime tag p).sized := by
  unfold examineChime
  split
  · trivial
  · split
    · split <;> trivial
    · exact ofLength_sized trivial
    · exact ofLength_sized trivial
    · trivial

theorem examineCancel_sized (tag : Byte) (p : List Byte) : (examineCancel tag p).sized := by
  unfold examineCancel
  split
  · exact ofLength_sized trivial
  · exact ofLength_sized trivial
  · split <;> trivial

theorem sceneFieldsAt_mode (p : List Byte) : ∀ m ∈ (sceneFieldsAt p).mode, m ≤ 255 := by
  intro m hm
  simp only [sceneFieldsAt, Option.mem_def] at hm
  split at hm
  · obtain rfl := Option.some.inj hm
    exact natAt_byte_le p 13
  · cases hm

theorem panelFieldsAt_coefficients (p : List Byte) :
    ∀ k ∈ (panelFieldsAt p).coefficients.toList, -2147483648 ≤ k ∧ k ≤ 2147483647 := by
  intro k hk
  simp only [panelFieldsAt, Vector.mem_toList_iff, Vector.mem_ofFn] at hk
  obtain ⟨i, rfl⟩ := hk
  exact intAt_bounds _ _

/-- Every request that the examination finds has operands that fit. -/
theorem examine_sized (f : Frame) : (examine f).sized := by
  unfold examine
  simp only
  split <;> try exact ofLength_sized trivial
  case h_8 => exact ofForms_sized trivial trivial
  case h_9 => exact ofLength_sized (natAt_byte_le _ _)
  case h_14 =>
    refine ofForms_sized (fun f hf => by cases hf) (fun f hf => ?_)
    obtain rfl := Option.some.inj hf
    exact sceneFieldsAt_mode _
  case h_19 => exact ofForms_sized trivial trivial
  case h_20 => exact ofCount_sized trivial
  case h_23 => exact examineInterlock_sized _ _
  case h_25 =>
    split
    · trivial
    · exact ofCount_sized trivial
  case h_26 => exact examineChime_sized _ _
  case h_29 => exact examineCancel_sized _ _
  case h_32 => exact ofForms_sized trivial trivial
  case h_33 =>
    refine ofForms_sized (fun f hf => by cases hf) (fun f hf => ?_)
    obtain rfl := Option.some.inj hf
    exact panelFieldsAt_coefficients _
  case h_34 => exact ofLength_sized (natAt_byte_le _ _)
  case h_35 => exact ofForms_sized trivial trivial
  all_goals trivial

/-! ## Records as stored -/

theorem clampInto_ge {low high n : Nat} : low ≤ clampInto low high n := le_max_left _ _
theorem clampInto_le {low high n : Nat} (h : low ≤ high) : clampInto low high n ≤ high := max_le h (min_le_left _ _)

theorem storedSlot_valid (cls : SlotClass) (e p c d o : Nat) : (storedSlot cls e p c d o).valid cls := by
  refine ⟨min_le_right _ _, min_le_right _ _, ?_, ?_, fun h => if_neg h, fun h => if_pos h⟩
  · simp only [storedSlot]
    split
    · exact min_le_right _ _
    · exact Nat.zero_le _
  · simp only [storedSlot]
    split
    · exact Nat.zero_le _
    · exact min_le_right _ _

theorem storedZone_valid {f : ZoneFields} (h : zoneOutOfRange f = false) (hv : f.volume ≤ 255) : (storedZone f).valid := by
  simp only [zoneOutOfRange, Bool.or_eq_false_iff, List.any_eq_false, decide_eq_true_eq, decide_eq_false_iff_not,
    Bool.not_eq_false', Bool.and_eq_false_iff, bne_eq_false_iff_eq, not_lt] at h
  obtain ⟨⟨⟨⟨⟨hr, hf⟩, h1⟩, h2⟩, ho1, ho2⟩, hs⟩ := h
  refine ⟨hr, ho1, ho2, h2, hv, fun n hn => ?_⟩
  simp only [storedZone, Option.mem_def] at hn
  split at hn
  · cases hn
  · next h255 =>
    obtain rfl := Option.some.inj hn
    exact hs.resolve_right h255

theorem clampSetpoint_bounds (v : Nat) : 160 ≤ clampSetpoint v ∧ clampSetpoint v ≤ 300 ∧ clampSetpoint v % 5 = 0 := by
  have h1 : 160 ≤ clampInto 160 300 v := clampInto_ge
  have h2 : clampInto 160 300 v ≤ 300 := clampInto_le (by decide)
  unfold clampSetpoint
  omega

theorem storedScene_valid {f : SceneFields} (h : ∀ m ∈ f.mode, m ≤ 255) : (storedScene f).valid := by
  refine ⟨fun l hl v hv => ?_, ?_, ?_, fun v hv => ?_, h⟩
  · simp only [storedScene, Vector.toList_map, List.mem_map] at hl
    obtain ⟨x, -, rfl⟩ := hl
    obtain ⟨y, -, rfl⟩ := Option.map_eq_some_iff.1 hv
    exact min_le_right _ _
  · simp only [storedScene, clampFade]; omega
  · simp only [storedScene, clampFade]; omega
  · obtain ⟨y, -, rfl⟩ := Option.map_eq_some_iff.1 hv
    exact clampSetpoint_bounds y

theorem sortZones_sortZones (zones : List Nat) : sortZones (sortZones zones) = sortZones zones := by
  unfold sortZones
  refine List.filter_congr fun z hz => ?_
  rw [Bool.eq_iff_iff]
  simp only [List.contains_iff_mem, List.mem_filter]
  exact ⟨fun h => h.2, fun h => ⟨hz, h⟩⟩

theorem storedAxis_valid {a : Axis} {gear : GearConfig} {f : AxisFields} {c : AxisConfig}
    (h : storedAxis a gear f = some c) : c.valid gear a := by
  unfold storedAxis at h
  split at h
  · cases h
  · split at h
    · next hp =>
      obtain ⟨k, -, rfl⟩ := Option.map_eq_some_iff.1 h
      refine ⟨fun p hmem => ?_, min_le_right _ _, min_le_right _ _, (sortZones_sortZones _).symm⟩
      exact of_decide_eq_true (List.all_eq_true.1 hp p hmem)
    · cases h

theorem storedGear_valid (f : AxisFields) : (storedGear f).valid :=
  ⟨clampInto_ge, clampInto_le (by decide), clampInto_ge, clampInto_le (by decide), clampInto_ge, clampInto_le (by decide),
    min_le_right _ _⟩

theorem storedTerms_length {l : List (Nat × Nat)} {ts : List Term} (h : storedTerms l = some ts) : ts.length ≤ 4 := by
  unfold storedTerms at h
  split at h
  · cases h
  · next hl =>
    have := (forall₂_of_mapM h).length_eq
    omega

theorem storedPattern_valid {loop : Nat} {notes : List (Nat × Nat)} {p : Pattern} (h : storedPattern loop notes = some p) :
    p.valid := by
  unfold storedPattern at h
  split at h
  · cases h
  · next hr =>
    obtain rfl := Option.some.inj h
    simp only [not_or, not_lt, List.any_eq_true, not_exists, not_and, decide_eq_true_eq] at hr
    obtain ⟨hne, hlen, hpitch⟩ := hr
    refine ⟨?_, by simpa using hlen, fun n hn => ?_⟩
    · rw [List.length_map]; exact List.length_pos_iff.2 hne
    · obtain ⟨x, hx, rfl⟩ := List.mem_map.1 hn
      exact ⟨hpitch x hx, clampInto_ge, clampInto_le (by decide)⟩

theorem storedPanel_valid {f : PanelFields} {c : PanelConfig} (h : storedPanel f = some c)
    (hk : ∀ k ∈ f.coefficients.toList, -2147483648 ≤ k ∧ k ≤ 2147483647) : c.valid := by
  unfold storedPanel at h
  split at h
  · split at h
    · cases h
    · next hr =>
      obtain rfl := Option.some.inj h
      simp only [not_or, not_lt] at hr
      exact ⟨hr.1, hr.2, fun hc => if_pos hc, clampInto_ge, clampInto_le (by decide), min_le_right _ _, hk, clampInto_ge,
        clampInto_le (by decide), clampInto_ge, clampInto_le (by decide)⟩
  · cases h

theorem storedTag_valid {f : TagFields} {e : TagEntry} (h : storedTag f = some e) (ht : f.tag ≤ 255) : e.valid := by
  unfold storedTag at h
  split at h
  · cases h
  · next hr =>
    obtain rfl := Option.some.inj h
    simp only [not_or, not_lt] at hr
    exact ⟨hr.1, hr.2.1, hr.2.2.1, hr.2.2.2, ht⟩

theorem zoneBinding_valid {kind : BindingKind} (hz : kind.isZone = true) {n argument : Nat}
    (h : storedArgument kind n = some argument) (target : Option (Fin 24)) :
    ({ emptyBinding with kind, target, argument } : Binding).valid := by
  refine ⟨fun hn => by simp [hz] at hn, fun _ => ⟨rfl, rfl, rfl⟩, ?_⟩
  cases kind with
  | scene =>
    simp only [storedArgument] at h
    split at h
    · cases h
    · obtain rfl := Option.some.inj h
      simp only
      omega
  | mode =>
    simp only [storedArgument] at h
    split at h
    · cases h
    · obtain rfl := Option.some.inj h
      simp only
      omega
  | levelUp => obtain rfl := Option.some.inj h; exact min_le_right _ _
  | levelDown => obtain rfl := Option.some.inj h; exact min_le_right _ _
  | setpointUp => obtain rfl := Option.some.inj h; exact Nat.zero_le _
  | setpointDown => obtain rfl := Option.some.inj h; exact Nat.zero_le _
  | _ => cases hz

theorem storedBinding_valid {f : BindingFields} {b : Binding} (h : storedBinding f = some b) : b.valid := by
  unfold storedBinding at h
  split at h
  · cases h
  · next kind _ =>
    split at h
    · next hz =>
      split at h
      · next harg =>
        obtain rfl := Option.some.inj h
        exact zoneBinding_valid hz harg _
      · cases h
    · split at h
      · next hk =>
        split at h
        · obtain rfl := Option.some.inj h
          exact ⟨fun _ => rfl, fun hn => absurd hk hn, Nat.zero_le _⟩
        · cases h
      · obtain rfl := Option.some.inj h
        exact ⟨fun _ => rfl, fun _ => ⟨rfl, rfl, rfl⟩, Nat.zero_le _⟩

/-! ## Records as read from an image (R183) -/

theorem of_inRange {α : Type} {bytes : α → List Byte} {b : List Byte} {stored : Option α} {a : α}
    (h : inRange bytes b stored = some a) : stored = some a := (Option.filter_eq_some_iff.1 h).1

theorem readSlot_valid {k : Fin 52} {b : List Byte} {c : SlotConfig} (h : readSlot k b = some c) :
    c.valid (slotClass k) := by
  obtain rfl := Option.some.inj (of_inRange h)
  exact storedSlot_valid _ _ _ _ _ _

theorem readZone_valid {b : List Byte} {c : ZoneConfig} (h : readZone b = some c) : c.valid := by
  have hs := of_inRange h
  split at hs
  · cases hs
  · next hr =>
    obtain rfl := Option.some.inj hs
    exact storedZone_valid (by simpa using hr) (natAt_byte_le b 16)

theorem readScene_valid {b : List Byte} {c : Scene} (h : readScene b = some c) : c.valid := by
  obtain rfl := Option.some.inj (of_inRange h)
  exact storedScene_valid (sceneFieldsAt_mode b)

theorem readTerms_length {b : List Byte} {ts : List Term} (h : readTerms b = some ts) : ts.length ≤ 4 :=
  storedTerms_length (of_inRange h)

theorem readPattern_valid {b : List Byte} {p : Pattern} (h : readPattern b = some p) : p.valid :=
  storedPattern_valid (of_inRange h)

theorem readPanel_valid {b : List Byte} {c : PanelConfig} (h : readPanel b = some c) : c.valid :=
  storedPanel_valid (of_inRange h) (panelFieldsAt_coefficients b)

theorem readTag_valid {b : List Byte} {e : TagEntry} (h : readTag b = some e) : e.valid :=
  storedTag_valid (of_inRange h) (natAt_byte_le b 8)

theorem readBinding_valid {b : List Byte} {c : Binding} (h : readBinding b = some c) : c.valid :=
  storedBinding_valid (of_inRange h)

theorem readNumber_bounds {low high n m : Nat} (h : readNumber low high n = some m) : low ≤ m ∧ m ≤ high := by
  unfold readNumber at h
  split at h
  · next hr =>
    obtain rfl := Option.some.inj h
    exact hr
  · cases h

/-- Each record of a read vector is what its own read gave. -/
theorem readRecords_get {α : Type} {n size : Nat} {read : Fin n → List Byte → Option α} {b : List Byte} {off : Nat}
    {v : Vector α n} (h : readRecords n size read b off = some v) (i : Fin n) : ∃ x, read i x = some v[i] := by
  simp only [readRecords, Option.bind_eq_some_iff] at h
  obtain ⟨l, hl, hv⟩ := h
  unfold vectorOf at hv
  split at hv
  · next hlen =>
    obtain rfl := Option.some.inj hv
    have hi := List.forall₂_iff_get.1 (forall₂_of_mapM hl)
    have := hi.2 i.val (by simp) (by rw [hlen]; exact i.isLt)
    simp only [List.get_eq_getElem, List.getElem_finRange] at this
    exact ⟨_, this⟩
  · cases hv

end Sys2Proof.Machine
end

section
/-! Every command keeps the configuration in its ranges. -/

namespace Sys2Proof.Machine

/-! ## A configuration with one part written -/

/-- The ranges of a configuration, part by part. -/
structure ValidParts (c : Configuration) : Prop where
  supply : c.supply ≤ 40000
  reserve : c.reserve ≤ 50
  slots : ∀ k : Fin 52, c.slots[k].valid (slotClass k)
  zones : ∀ z : Fin 24, c.zones[z].valid
  scenes : ∀ n : Fin 32, c.scenes[n].valid
  axes : ∀ a : Axis, (c.axes.get a).valid c.gear a
  deckLevel : c.deckLevel ≤ 1500
  gear : c.gear.valid
  interlocks : ∀ (a : Axis) (d : Direction), ((c.interlocks.get a).get d).length ≤ 4
  speedLimit : c.speedLimit ≤ 500
  pumpRating : c.pumpRating ≤ 4000
  patterns : ∀ k : Fin 8, c.patterns[k].valid
  panels : ∀ p : Fin 12, c.panels[p].valid
  tagMaps : ∀ (p : Fin 12) (i : Fin 32), c.tagMaps[p][i].valid
  bindings : ∀ b : Fin 255, c.bindings[b].valid
  silenceLow : 500 ≤ c.linkSilence
  silenceHigh : c.linkSilence ≤ 10000

theorem Configuration.valid_iff (c : Configuration) : c.valid ↔ ValidParts c :=
  ⟨fun ⟨h1, h2, h3, h4, h5, h6, h7, h8, h9, h10, h11, h12, h13, h14, h15, h16, h17⟩ =>
    ⟨h1, h2, h3, h4, h5, h6, h7, h8, h9, h10, h11, h12, h13, h14, h15, h16, h17⟩,
   fun ⟨h1, h2, h3, h4, h5, h6, h7, h8, h9, h10, h11, h12, h13, h14, h15, h16, h17⟩ =>
    ⟨h1, h2, h3, h4, h5, h6, h7, h8, h9, h10, h11, h12, h13, h14, h15, h16, h17⟩⟩

/-- A law of every entry of a vector, after one entry is written. -/
theorem forall_set {α : Type} {n : Nat} {P : Fin n → α → Prop} {v : Vector α n} (h : ∀ i : Fin n, P i v[i]) (k : Fin n) {x : α}
    (hx : P k x) : ∀ i : Fin n, P i (v.set k x)[i] := by
  intro i
  rcases eq_or_ne k i with rfl | hi
  · simpa using hx
  · simpa [Fin.val_ne_of_ne hi] using h i

/-! ## Images and factory defaults (R183) -/

theorem readBody_valid {b : List Byte} {c : Configuration} (h : readBody b = some c) : c.valid := by
  unfold readBody at h
  obtain ⟨supply, hsupply, h⟩ := Option.bind_eq_some_iff.1 h
  obtain ⟨reserve, hreserve, h⟩ := Option.bind_eq_some_iff.1 h
  obtain ⟨slots, hslots, h⟩ := Option.bind_eq_some_iff.1 h
  obtain ⟨zones, hzones, h⟩ := Option.bind_eq_some_iff.1 h
  obtain ⟨scenes, hscenes, h⟩ := Option.bind_eq_some_iff.1 h
  obtain ⟨hatch, hhatch, h⟩ := Option.bind_eq_some_iff.1 h
  obtain ⟨platform, hplatform, h⟩ := Option.bind_eq_some_iff.1 h
  obtain ⟨windlass, hwindlass, h⟩ := Option.bind_eq_some_iff.1 h
  obtain ⟨ho, hho, h⟩ := Option.bind_eq_some_iff.1 h
  obtain ⟨hi, hhi, h⟩ := Option.bind_eq_some_iff.1 h
  obtain ⟨po, hpo, h⟩ := Option.bind_eq_some_iff.1 h
  obtain ⟨pi, hpi, h⟩ := Option.bind_eq_some_iff.1 h
  obtain ⟨wo, hwo, h⟩ := Option.bind_eq_some_iff.1 h
  obtain ⟨wi, hwi, h⟩ := Option.bind_eq_some_iff.1 h
  obtain ⟨speed, hspeed, h⟩ := Option.bind_eq_some_iff.1 h
  obtain ⟨rating, hrating, h⟩ := Option.bind_eq_some_iff.1 h
  obtain ⟨patterns, hpatterns, h⟩ := Option.bind_eq_some_iff.1 h
  obtain ⟨panels, hpanels, h⟩ := Option.bind_eq_some_iff.1 h
  obtain ⟨maps, hmaps, h⟩ := Option.bind_eq_some_iff.1 h
  obtain ⟨bindings, hbindings, h⟩ := Option.bind_eq_some_iff.1 h
  obtain ⟨silence, hsilence, h⟩ := Option.bind_eq_some_iff.1 h
  dsimp only at h
  split at h
  · obtain rfl := Option.some.inj h
    refine (Configuration.valid_iff _).2
      { supply := (readNumber_bounds hsupply).2
        reserve := (readNumber_bounds hreserve).2
        slots := fun k => readSlot_valid (readRecords_get hslots k).choose_spec
        zones := fun z => readZone_valid (readRecords_get hzones z).choose_spec
        scenes := fun n => readScene_valid (readRecords_get hscenes n).choose_spec
        axes := fun a => ?_
        deckLevel := min_le_right _ _
        gear := storedGear_valid _
        interlocks := fun a d => ?_
        speedLimit := (readNumber_bounds hspeed).2
        pumpRating := (readNumber_bounds hrating).2
        patterns := fun k => readPattern_valid (readRecords_get hpatterns k).choose_spec
        panels := fun p => readPanel_valid (readRecords_get hpanels p).choose_spec
        tagMaps := fun p i => readTag_valid (readRecords_get (readRecords_get hmaps p).choose_spec i).choose_spec
        bindings := fun k => readBinding_valid (readRecords_get hbindings k).choose_spec
        silenceLow := (readNumber_bounds hsilence).1
        silenceHigh := (readNumber_bounds hsilence).2 }
    · cases a with
      | hatch => exact storedAxis_valid hhatch
      | platform => exact storedAxis_valid hplatform
      | windlass => exact storedAxis_valid hwindlass
    · cases a with
      | hatch => cases d with
        | out => exact readTerms_length hho
        | inward => exact readTerms_length hhi
      | platform => cases d with
        | out => exact readTerms_length hpo
        | inward => exact readTerms_length hpi
      | windlass => cases d with
        | out => exact readTerms_length hwo
        | inward => exact readTerms_length hwi
  · cases h

theorem readImage_valid {image : List Byte} {c : Configuration} (h : readImage image = some c) : c.valid := by
  simp only [readImage] at h
  split at h
  · exact readBody_valid h
  · cases h

theorem factorySlot_valid (k : Fin 52) : (factorySlot k).valid (slotClass k) := by
  have hp : defaultPriority k ≤ 31 := by unfold defaultPriority; split_ifs <;> decide
  have ho : defaultHoldOff k ≤ 600 := by unfold defaultHoldOff; split_ifs <;> decide
  refine ⟨hp, le_rfl, Nat.zero_le _, ho, fun _ => rfl, fun h => ?_⟩
  have hk : k.val < 24 := by
    by_contra hk
    exact (slotClass_ne_divisible k).2 (Nat.le_of_not_lt hk) h
  exact if_pos hk

theorem factoryZone_valid : factoryZone.valid :=
  ⟨fun r hr => by simp [factoryZone] at hr; omega, le_rfl, le_rfl, by decide, by decide, fun n hn => by cases hn⟩

theorem emptyScene_valid : emptyScene.valid := by
  refine ⟨fun l hl v hv => ?_, Nat.zero_le _, rfl, fun v hv => (by cases hv), fun v hv => (by cases hv)⟩
  obtain rfl : l = none := by simpa [emptyScene] using hl
  cases hv

theorem factoryPattern_valid (k : Fin 8) : (factoryPattern k).valid := by
  unfold factoryPattern Pattern.valid
  split_ifs <;> decide

theorem factoryPanel_valid (p : Fin 12) : (factoryPanel p).valid := by
  have hp : p.val ≤ 23 := by omega
  refine ⟨hp, hp, fun _ => rfl, ?_⟩
  simp only [factoryPanel]
  decide

theorem factoryAxis_valid (a : Axis) : (factory.axes.get a).valid factory.gear a := by
  unfold AxisConfig.valid
  cases a <;> decide

theorem emptyBinding_valid : emptyBinding.valid := ⟨fun _ => rfl, fun _ => ⟨rfl, rfl, rfl⟩, le_rfl⟩

theorem factory_valid : factory.valid :=
  (Configuration.valid_iff _).2
    { supply := by decide
      reserve := by decide
      slots := fun k => by simpa [factory] using factorySlot_valid k
      zones := fun z => by simpa [factory] using factoryZone_valid
      scenes := fun n => by simpa [factory] using emptyScene_valid
      axes := factoryAxis_valid
      deckLevel := by decide
      gear := by unfold GearConfig.valid; decide
      interlocks := fun a d => by cases a <;> cases d <;> decide
      speedLimit := by decide
      pumpRating := by decide
      patterns := fun k => by simpa [factory] using factoryPattern_valid k
      panels := fun p => by simpa [factory] using factoryPanel_valid p
      tagMaps := fun p i => by
        have : emptyTag.valid := by unfold TagEntry.valid; decide
        simpa [factory] using this
      bindings := fun b => by simpa [factory] using emptyBinding_valid
      silenceLow := by decide
      silenceHigh := by decide }

/-! ## What leaves the configuration -/

theorem State.config_of_still {s t : State} (h : t.still = s.still) : t.config = s.config := by
  obtain ⟨-, -, -, hc, -⟩ := State.fixed_fields (State.fixed_of_still h)
  exact hc

@[simp] theorem settle_config (h : Handled) : (settle h).config = h.1.config := State.config_of_still (settle_still h)
@[simp] theorem State.send_config (s : State) (x : Signal) : (s.send x).config = s.config :=
  State.config_of_still (s.send_still x)
@[simp] theorem State.kick_config (s : State) : s.kick.config = s.config := s.kick_same.2.1

/-- An event whose own changes leave the configuration leaves it. -/
theorem settle_config_of_still {h : Handled} {s : State} (e : h.1.still = s.still) : (settle h).config = s.config :=
  (settle_config h).trans (State.config_of_still e)

@[simp] theorem failSave_config (s : State) : s.failSave.config = s.config := by
  unfold State.failSave; split <;> rfl

@[simp] theorem endStartUp_config (s : State) : s.endStartUp.config = s.config := by
  simp [State.endStartUp, allAxes]

/-! ## One part written -/

/-- The limits of an axis that is not the windlass do not depend on the gear (R68). -/
theorem AxisConfig.valid_of_gear {x : AxisConfig} {g gear : GearConfig} {b : Axis} (hb : b ≠ .windlass)
    (hx : x.valid gear b) : x.valid g b := by
  cases b with
  | hatch => exact hx
  | platform => exact hx
  | windlass => exact absurd rfl hb

section
variable {c : Configuration} (h : c.valid)
include h

theorem Configuration.valid_supply {supply reserve : Nat} (h1 : supply ≤ 40000) (h2 : reserve ≤ 50) :
    ({ c with supply, reserve } : Configuration).valid :=
  (Configuration.valid_iff _).2 { (Configuration.valid_iff c).1 h with supply := h1, reserve := h2 }

theorem Configuration.valid_silence {n : Nat} (h1 : 500 ≤ n) (h2 : n ≤ 10000) :
    ({ c with linkSilence := n } : Configuration).valid :=
  (Configuration.valid_iff _).2 { (Configuration.valid_iff c).1 h with silenceLow := h1, silenceHigh := h2 }

theorem Configuration.valid_slot (k : Fin 52) {x : SlotConfig} (hx : x.valid (slotClass k)) :
    ({ c with slots := c.slots.set k x } : Configuration).valid :=
  have parts := (Configuration.valid_iff c).1 h
  (Configuration.valid_iff _).2
    { parts with slots := forall_set (P := fun k x => SlotConfig.valid (slotClass k) x) parts.slots k hx }

theorem Configuration.valid_zone (z : Fin 24) {x : ZoneConfig} (hx : x.valid) :
    ({ c with zones := c.zones.set z x } : Configuration).valid :=
  have parts := (Configuration.valid_iff c).1 h
  (Configuration.valid_iff _).2 { parts with zones := forall_set (P := fun _ => ZoneConfig.valid) parts.zones z hx }

theorem Configuration.valid_scene (n : Fin 32) {x : Scene} (hx : x.valid) :
    ({ c with scenes := c.scenes.set n x } : Configuration).valid :=
  have parts := (Configuration.valid_iff c).1 h
  (Configuration.valid_iff _).2 { parts with scenes := forall_set (P := fun _ => Scene.valid) parts.scenes n hx }

theorem Configuration.valid_pattern (k : Fin 8) {x : Pattern} (hx : x.valid) :
    ({ c with patterns := c.patterns.set k x } : Configuration).valid :=
  have parts := (Configuration.valid_iff c).1 h
  (Configuration.valid_iff _).2 { parts with patterns := forall_set (P := fun _ => Pattern.valid) parts.patterns k hx }

theorem Configuration.valid_panel (p : Fin 12) {x : PanelConfig} (hx : x.valid) :
    ({ c with panels := c.panels.set p x } : Configuration).valid :=
  have parts := (Configuration.valid_iff c).1 h
  (Configuration.valid_iff _).2 { parts with panels := forall_set (P := fun _ => PanelConfig.valid) parts.panels p hx }

theorem Configuration.valid_tag (p : Fin 12) (i : Fin 32) {x : TagEntry} (hx : x.valid) :
    ({ c with tagMaps := c.tagMaps.set p (c.tagMaps[p].set i x) } : Configuration).valid :=
  have parts := (Configuration.valid_iff c).1 h
  have entries := forall_set (P := fun _ => TagEntry.valid) (parts.tagMaps p) i hx
  (Configuration.valid_iff _).2
    { parts with
      tagMaps := forall_set (P := fun _ (m : Vector TagEntry 32) => ∀ i : Fin 32, m[i].valid) parts.tagMaps p entries }

theorem Configuration.valid_binding (b : Fin 255) {x : Binding} (hx : x.valid) :
    ({ c with bindings := c.bindings.set b x } : Configuration).valid :=
  have parts := (Configuration.valid_iff c).1 h
  (Configuration.valid_iff _).2 { parts with bindings := forall_set (P := fun _ => Binding.valid) parts.bindings b hx }

theorem Configuration.valid_terms (a : Axis) (d : Direction) {ts : List Term} (hx : ts.length ≤ 4) :
    ({ c with interlocks := c.interlocks.set a ((c.interlocks.get a).set d ts) } : Configuration).valid := by
  have parts := (Configuration.valid_iff c).1 h
  refine (Configuration.valid_iff _).2 { parts with interlocks := fun b e => ?_ }
  have := parts.interlocks b e
  rw [PerAxis.get_set]
  split
  · next hb =>
    subst hb
    cases d <;> cases e <;> first | exact hx | exact this
  · exact this

theorem Configuration.valid_common {speedLimit pumpRating : Nat} (h1 : speedLimit ≤ 500) (h2 : pumpRating ≤ 4000) :
    ({ c with speedLimit, pumpRating } : Configuration).valid :=
  (Configuration.valid_iff _).2 { (Configuration.valid_iff c).1 h with speedLimit := h1, pumpRating := h2 }

theorem storeAxis_valid (a : Axis) {x : AxisConfig} {f : AxisFields}
    (hx : storedAxis a (gearAfter a f c.gear) f = some x) :
    ({ c with axes := c.axes.set a x, deckLevel := if a = .platform then min f.deckLevel 1500 else c.deckLevel,
              gear := gearAfter a f c.gear } : Configuration).valid := by
  have parts := (Configuration.valid_iff c).1 h
  refine (Configuration.valid_iff _).2 { parts with axes := fun b => ?_, deckLevel := ?_, gear := ?_ }
  · simp only [PerAxis.get_set]
    split
    · next hb => subst hb; exact storedAxis_valid hx
    · next hb =>
      cases a with
      | hatch => exact parts.axes b
      | platform => exact parts.axes b
      | windlass => exact AxisConfig.valid_of_gear hb (parts.axes b)
  · simp only
    split
    · exact min_le_right _ _
    · exact parts.deckLevel
  · cases a with
    | hatch => exact parts.gear
    | platform => exact parts.gear
    | windlass => exact storedGear_valid f

end

/-! ## Requests -/

variable {s : State}

theorem valid_of_config {s t : State} (e : t.config = s.config) (h : s.config.valid) : t.config.valid := e ▸ h

theorem takeReset_config (tag : Byte) (kind : Nat) (s : State) : (takeReset tag kind s).config = s.config := by
  unfold takeReset
  split
  · rfl
  · split <;> rfl

theorem takeSetLink_valid (tag : Byte) (n : Nat) (h : s.config.valid) : (takeSetLink tag n s).config.valid := by
  unfold takeSetLink
  split
  · exact h
  · exact Configuration.valid_silence h clampInto_ge (clampInto_le (by decide))

theorem takeSetSupply_valid (tag : Byte) (supply reserve : Nat) (h : s.config.valid) :
    (takeSetSupply tag supply reserve s).config.valid := by
  unfold takeSetSupply
  split
  · exact h
  · exact valid_of_config (State.send_config (storeSupply supply reserve s) .pass)
      (Configuration.valid_supply h (min_le_right _ _) (min_le_right _ _))

theorem takeSetSlot_valid (tag : Byte) (slot e p c d o : Nat) (h : s.config.valid) :
    (takeSetSlot tag slot e p c d o s).config.valid := by
  unfold takeSetSlot
  split
  · exact h
  · next k _ =>
    split
    · exact h
    · exact valid_of_config (State.send_config (storeSlot k (storedSlot (slotClass k) e p c d o) s) .pass)
        (Configuration.valid_slot h k (storedSlot_valid _ _ _ _ _ _))

theorem takeSetAuxDemand_config (tag : Byte) (slot demand : Nat) (s : State) :
    (takeSetAuxDemand tag slot demand s).config = s.config := by
  unfold takeSetAuxDemand
  split
  · rfl
  · split
    · rfl
    · exact State.send_config _ _

theorem takeGetBudget_config (tag : Byte) (slot : Option Nat) (s : State) : (takeGetBudget tag slot s).config = s.config := by
  unfold takeGetBudget
  split
  · rfl
  · split <;> rfl

theorem takeSetZone_valid (tag : Byte) (zone : Nat) {f : ZoneFields} (hv : f.volume ≤ 255) (h : s.config.valid) :
    (takeSetZone tag zone f s).config.valid := by
  unfold takeSetZone
  split
  · exact h
  · next z _ =>
    split
    · exact h
    · split
      · exact h
      · next hr =>
        have written (b : ZoneConfig) (t : State) : (zoneWritten z b t).1.config = t.config := by
          unfold zoneWritten
          simp only
          split <;> rfl
        refine valid_of_config ((settle_config _).trans (written _ _)) ?_
        exact Configuration.valid_zone h z (storedZone_valid (by simpa using hr) hv)

theorem takeSetLevels_config (tag : Byte) (zone : Nat) (l : Vector (Option Nat) 4) (fade : Nat) (s : State) :
    (takeSetLevels tag zone l fade s).config = s.config := by
  unfold takeSetLevels
  split
  · rfl
  · refine settle_config_of_still ?_
    unfold levelsEvent
    split
    · rfl
    · exact changeZone_still _ _ _ _

theorem takeSetSetpoint_config (tag : Byte) (zone v : Nat) (s : State) :
    (takeSetSetpoint tag zone v s).config = s.config := by
  unfold takeSetSetpoint
  split
  · rfl
  · exact settle_config_of_still (changeZone_still _ _ _ _)

theorem takeSetMode_config (tag : Byte) (zone v : Nat) (s : State) : (takeSetMode tag zone v s).config = s.config := by
  unfold takeSetMode
  split
  · rfl
  · exact settle_config_of_still (changeZone_still _ _ _ _)

theorem takeGetZone_config (tag : Byte) (zone : Nat) (s : State) : (takeGetZone tag zone s).config = s.config := by
  unfold takeGetZone; split <;> rfl

theorem takeStoreScene_valid (tag : Byte) (scene : Nat) {r : Option SceneFields} (hr : ∀ f ∈ r, ∀ m ∈ f.mode, m ≤ 255)
    (h : s.config.valid) : (takeStoreScene tag scene r s).config.valid := by
  unfold takeStoreScene
  split
  · exact h
  · next k _ =>
    split
    · exact h
    · next f =>
      split
      · exact h
      · exact Configuration.valid_scene h k (storedScene_valid (hr f rfl))

theorem takeRecallScene_config (tag : Byte) (zone scene : Nat) (s : State) :
    (takeRecallScene tag zone scene s).config = s.config := by
  unfold takeRecallScene
  split
  · exact settle_config_of_still (recallScene_still _ _ _)
  · rfl

theorem takeCueAdd_config (tag : Byte) (f : CueFields) (s : State) : (takeCueAdd tag f s).config = s.config := by
  unfold takeCueAdd
  split
  · rfl
  · split
    · rfl
    · simp only
      split <;> rfl

theorem takeCueClear_config (tag : Byte) (s : State) : (takeCueClear tag s).config = s.config := by
  unfold takeCueClear; split <;> rfl

theorem takeCueCommit_config (tag : Byte) (mode : Nat) (s : State) : (takeCueCommit tag mode s).config = s.config := by
  unfold takeCueCommit
  split
  · rfl
  · split <;> rfl

theorem takeCueStatus_config (tag : Byte) (p : Option Nat) (s : State) : (takeCueStatus tag p s).config = s.config := by
  unfold takeCueStatus
  split
  · rfl
  · split <;> rfl

theorem takeSetAxis_valid (tag : Byte) (axis : Nat) (f : AxisFields) (h : s.config.valid) :
    (takeSetAxis tag axis f s).config.valid := by
  unfold takeSetAxis
  split
  · exact h
  · next a _ =>
    split
    · exact h
    · split
      · exact h
      · next c hc => exact valid_of_config (settle_config _) (storeAxis_valid h a hc)

theorem takeGetAxis_config (tag : Byte) (axis : Nat) (s : State) : (takeGetAxis tag axis s).config = s.config := by
  unfold takeGetAxis; split <;> rfl

theorem takeAckFault_config (tag : Byte) (axis : Nat) (s : State) : (takeAckFault tag axis s).config = s.config := by
  unfold takeAckFault
  split
  · rfl
  · split
    · rfl
    · split
      · rfl
      · exact settle_config_of_still (by simp [acknowledge])

theorem takeOpenProgram_config (tag : Byte) (c a : Nat) (s : State) : (takeOpenProgram tag c a s).config = s.config := by
  unfold takeOpenProgram
  split
  · split <;> rfl
  · rfl

theorem takeProgramStep_config (tag : Byte) (c : Nat) (f : StepFields) (s : State) :
    (takeProgramStep tag c f s).config = s.config := by
  unfold takeProgramStep
  split
  · rfl
  · split
    · rfl
    · refine settle_config_of_still ?_
      unfold breakAdmission
      simp only
      split <;> rfl
    · exact settle_config_of_still (admitStep_still _ _ _)

theorem takeCancel_config (mode : Nat) (cancel : Fin 16 → State → Handled) (tag : Byte) (c : Nat) (s : State)
    (hc : ∀ c, (cancel c s).1.still = s.still) : (takeCancel mode cancel tag c s).config = s.config := by
  unfold takeCancel
  split
  · rfl
  · split
    · rfl
    · exact settle_config_of_still (hc _)

theorem takePauseProgram_config (tag : Byte) (c : Nat) (s : State) : (takePauseProgram tag c s).config = s.config := by
  unfold takePauseProgram
  split
  · rfl
  · split
    · rfl
    · split
      · exact State.send_config _ _
      · rfl

theorem takeResumeProgram_config (tag : Byte) (c : Nat) (s : State) : (takeResumeProgram tag c s).config = s.config := by
  unfold takeResumeProgram
  split
  · rfl
  · split
    · rfl
    · refine settle_config_of_still ?_
      unfold resumeHolds
      simp only
      split
      · rfl
      · split
        · split <;> simp
        · simp

theorem takeGetProgram_config (tag : Byte) (c : Option Nat) (s : State) : (takeGetProgram tag c s).config = s.config := by
  unfold takeGetProgram
  split
  · rfl
  · split <;> rfl

theorem takeSetInterlock_valid (tag : Byte) (axis d : Nat) (l : Option (List (Nat × Nat))) (h : s.config.valid) :
    (takeSetInterlock tag axis d l s).config.valid := by
  unfold takeSetInterlock
  split
  · next a d _ _ =>
    split
    · exact h
    · split
      · exact h
      · split
        · exact h
        · next ts hts => exact valid_of_config (State.send_config _ _) (Configuration.valid_terms h a d (storedTerms_length hts))
  · exact h

theorem takeSetInterlockCommon_valid (tag : Byte) (c : Option (Nat × Nat)) (h : s.config.valid) :
    (takeSetInterlockCommon tag c s).config.valid := by
  unfold takeSetInterlockCommon
  split
  · exact h
  · split
    · exact h
    · have posted (t : State) : t.postRating.config = t.config := by
        unfold State.postRating
        split
        · exact State.send_config _ _
        · rfl
      exact valid_of_config ((posted _).trans (State.send_config _ _))
        (Configuration.valid_common h (min_le_right _ _) (min_le_right _ _))

theorem takeSetPattern_valid (tag : Byte) (k : Nat) (r : Option (Nat × List (Nat × Nat))) (h : s.config.valid) :
    (takeSetPattern tag k r s).config.valid := by
  unfold takeSetPattern
  split
  · exact h
  · next k _ =>
    split
    · exact h
    · split
      · exact h
      · split
        · exact h
        · next p hp => exact Configuration.valid_pattern h k (storedPattern_valid hp)

theorem takeChimePlay_config (tag : Byte) (p n : Nat) (zones : List Nat) (s : State) :
    (takeChimePlay tag p n zones s).config = s.config := by
  unfold takeChimePlay
  split
  · rfl
  · split
    · rfl
    · exact (State.config_of_still (s.joinNotice_still _) : (s.joinNotice _).config = s.config)

theorem takeSetPanel_valid (tag : Byte) (p : Nat) {r : Option PanelFields}
    (hr : ∀ f ∈ r, ∀ k ∈ f.coefficients.toList, -2147483648 ≤ k ∧ k ≤ 2147483647) (h : s.config.valid) :
    (takeSetPanel tag p r s).config.valid := by
  unfold takeSetPanel
  split
  · exact h
  · next k _ =>
    split
    · exact h
    · next f =>
      split
      · exact h
      · split
        · exact h
        · next c hc => exact Configuration.valid_panel h k (storedPanel_valid hc (hr f rfl))

theorem takeSetTagmap_valid (tag : Byte) (p e : Nat) {f : TagFields} (hf : f.tag ≤ 255) (h : s.config.valid) :
    (takeSetTagmap tag p e f s).config.valid := by
  unfold takeSetTagmap
  split
  · next k i _ _ =>
    split
    · exact h
    · split
      · exact h
      · next e he => exact valid_of_config (settle_config _) (Configuration.valid_tag h k i (storedTag_valid he hf))
  · exact h

theorem takeGetPanel_config (tag : Byte) (p n : Nat) (s : State) : (takeGetPanel tag p n s).config = s.config := by
  unfold takeGetPanel
  split <;> rfl

theorem takeSetBinding_valid (tag : Byte) (b : Nat) (r : Option BindingFields) (h : s.config.valid) :
    (takeSetBinding tag b r s).config.valid := by
  unfold takeSetBinding
  split
  · exact h
  · exact h
  · exact h
  · next f k _ =>
    split
    · exact h
    · split
      · exact h
      · next x hx => exact Configuration.valid_binding h k (storedBinding_valid hx)

theorem takeSaveConfig_config (tag : Byte) (s : State) : (takeSaveConfig tag s).config = s.config := by
  unfold takeSaveConfig; split <;> rfl

/-- Every request with operands that fit keeps the configuration in its ranges. -/
theorem carryOut_valid {i : Instr} (hi : Instr.sized i) (h : s.config.valid) : (carryOut i s).config.valid := by
  cases i with
  | unknownRequest tag kind => exact h
  | getInfo tag => exact h
  | getStatus tag => exact h
  | reset tag kind => exact valid_of_config (takeReset_config tag kind s) h
  | setLink tag n => exact takeSetLink_valid tag n h
  | setSupply tag n m => exact takeSetSupply_valid tag n m h
  | setSlot tag k e p c d o => exact takeSetSlot_valid tag k e p c d o h
  | setAuxDemand tag k d => exact valid_of_config (takeSetAuxDemand_config tag k d s) h
  | getBudget tag k => exact valid_of_config (takeGetBudget_config tag k s) h
  | setZone tag z f => exact takeSetZone_valid tag z hi h
  | setLevels tag z l f => exact valid_of_config (takeSetLevels_config tag z l f s) h
  | setSetpoint tag z v => exact valid_of_config (takeSetSetpoint_config tag z v s) h
  | setMode tag z v => exact valid_of_config (takeSetMode_config tag z v s) h
  | getZone tag z => exact valid_of_config (takeGetZone_config tag z s) h
  | storeScene tag n f => exact takeStoreScene_valid tag n hi h
  | recallScene tag z n => exact valid_of_config (takeRecallScene_config tag z n s) h
  | cueAdd tag f => exact valid_of_config (takeCueAdd_config tag f s) h
  | cueClear tag => exact valid_of_config (takeCueClear_config tag s) h
  | cueCommit tag m => exact valid_of_config (takeCueCommit_config tag m s) h
  | cueStatus tag p => exact valid_of_config (takeCueStatus_config tag p s) h
  | setAxis tag a f => exact takeSetAxis_valid tag a f h
  | getAxis tag a => exact valid_of_config (takeGetAxis_config tag a s) h
  | ackFault tag a => exact valid_of_config (takeAckFault_config tag a s) h
  | openProgram tag c a => exact valid_of_config (takeOpenProgram_config tag c a s) h
  | programStep tag c f => exact valid_of_config (takeProgramStep_config tag c f s) h
  | cancelAtBoundary tag c =>
    refine valid_of_config (takeCancel_config _ _ tag c s fun c => ?_) h
    unfold cancelBoundary; split <;> rfl
  | cancelImmediate tag c =>
    refine valid_of_config (takeCancel_config _ _ tag c s fun c => ?_) h
    unfold cancelNow; split <;> rfl
  | pauseProgram tag c => exact valid_of_config (takePauseProgram_config tag c s) h
  | resumeProgram tag c => exact valid_of_config (takeResumeProgram_config tag c s) h
  | getProgram tag c => exact valid_of_config (takeGetProgram_config tag c s) h
  | setInterlock tag a d l => exact takeSetInterlock_valid tag a d l h
  | setInterlockCommon tag c => exact takeSetInterlockCommon_valid tag c h
  | setVessel tag v a b c => exact valid_of_config (State.send_config _ _) h
  | setPattern tag k f => exact takeSetPattern_valid tag k f h
  | chimePlay tag p n z => exact valid_of_config (takeChimePlay_config tag p n z s) h
  | chimeStop tag => exact h
  | chimeClear tag => exact h
  | setPanel tag p f => exact takeSetPanel_valid tag p hi h
  | setTagmap tag p e f => exact takeSetTagmap_valid tag p e hi h
  | getPanel tag p n => exact valid_of_config (takeGetPanel_config tag p n s) h
  | setBinding tag b f => exact takeSetBinding_valid tag b f h
  | saveConfig tag => exact valid_of_config (takeSaveConfig_config tag s) h
  | _ => exact h

/-! ## The input buffer, the receiver and the resets -/

theorem carryFrame_valid (f : Frame) (h : s.config.valid) : (carryFrame f s).config.valid := by
  have hf := examine_sized f
  unfold carryFrame
  split
  · exact h
  · exact h
  · exact h
  · next i hi => exact carryOut_valid (hi ▸ hf : (Examined.request i).sized) h

theorem serve_valid (n : Nat) (h : s.config.valid) : (serve n s).config.valid := by
  induction n generalizing s with
  | zero => exact h
  | succ n ih =>
    unfold serve
    split
    · exact h
    · split
      · refine ih (valid_of_config (State.kick_config _) (carryFrame_valid _ ?_))
        exact h
      · exact h

theorem goodFrame_valid (f : Frame) (h : s.config.valid) : (goodFrame f s).config.valid := by
  unfold goodFrame
  simp only
  split
  · refine serve_valid _ ?_
    exact h
  · exact h

theorem receive_valid (flush : Bool) (n : Nat) (h : s.config.valid) : (receive flush n s).config.valid := by
  induction n generalizing s with
  | zero => exact h
  | succ n ih =>
    unfold receive
    split
    · split
      · refine ih ?_
        exact h
      · exact h
    · refine ih ?_
      exact h
    · refine ih (goodFrame_valid _ ?_)
      exact h

theorem takeByte_valid (b : LineByte) (h : s.config.valid) : (takeByte s b).config.valid := by
  unfold takeByte
  split
  · refine receive_valid _ _ ?_
    exact h
  · exact h

/-- A law of the configuration along a list of items. -/
theorem foldl_valid {α : Type} {f : State → α → State} (hf : ∀ (s : State) (x : α), s.config.valid → (f s x).config.valid)
    (l : List α) (h : s.config.valid) : (l.foldl f s).config.valid := by
  induction l generalizing s with
  | nil => exact h
  | cons x rest ih => exact ih (hf s x h)

theorem loadImage_valid (e : EepromAnswer) (s : State) : (loadImage e s).config.valid := by
  have read (image : Option Configuration) (hi : ∀ c, image = some c → c.valid) : (image.getD factory).valid := by
    cases image with
    | none => exact factory_valid
    | some c => exact hi c rfl
  cases e with
  | answers => exact read (readImage s.store.eeprom) fun _ => readImage_valid
  | silent => exact read none fun _ hc => by cases hc

theorem startZone_config (s : State) (z : Fin 24) : (startZone s z).config = s.config := by
  unfold startZone
  split
  · exact settle_config_of_still (recallScene_still _ _ _)
  · rfl

theorem startUp_valid (e : EepromAnswer) (levels : Inputs) (s : State) : (startUp e levels s).config.valid := by
  refine valid_of_config (endStartUp_config _) (foldl_valid (fun t z ht => valid_of_config (startZone_config t z) ht) _ ?_)
  exact valid_of_config (settle_config _) (loadImage_valid e s)

theorem warmZone_config (s : State) (z : Fin 24) : (warmZone s z).config = s.config := by
  unfold warmZone
  split
  · exact State.send_config _ _
  · rfl

theorem warm_valid (h : s.config.valid) :
    ((allZones.foldl warmZone ((startWarm s).send .pass)).send .evaluatePermits).endStartUp.config.valid := by
  refine valid_of_config (endStartUp_config _) (valid_of_config (State.send_config _ _) ?_)
  refine foldl_valid (fun t z ht => valid_of_config (warmZone_config t z) ht) _ ?_
  exact valid_of_config (State.send_config _ _) h

/-! ## Every command -/

theorem positionEvent_config (a : Axis) (before : Option Int) (s : State) :
    (positionEvent a before s).1.config = s.config := by
  unfold positionEvent; split <;> rfl

/-- Every command with operands that fit keeps the configuration in its ranges. -/
theorem exec_valid {i : Instr} {t : State} (hi : Instr.sized i) (h : s.config.valid) (he : exec i s = .next t) :
    t.config.valid := by
  have request : (carryOut i s).kick.config.valid := valid_of_config (State.kick_config _) (carryOut_valid hi h)
  cases i with
  | powerOn e levels =>
    obtain rfl := carried_eq he
    exact valid_of_config (State.kick_config _) (startUp_valid e levels _)
  | coldReset e levels =>
    obtain rfl := carried_eq he
    refine valid_of_config (State.kick_config _) ?_
    split
    · exact startUp_valid e levels _
    · exact h
  | warmReset =>
    obtain rfl := carried_eq he
    refine valid_of_config (State.kick_config _) ?_
    split
    · exact warm_valid (valid_of_config (failSave_config s) h)
    · exact h
  | frameReceived bytes =>
    obtain rfl := carried_eq he
    exact valid_of_config (State.kick_config _) (foldl_valid (fun t b ht => takeByte_valid b ht) bytes h)
  | byteGapExpiry =>
    obtain rfl := carried_eq he
    refine valid_of_config (State.kick_config _) ?_
    split
    · exact receive_valid _ _ h
    · exact h
  | frameSent =>
    obtain rfl := carried_eq he
    refine valid_of_config (State.kick_config _) ?_
    split
    · exact h
    · refine serve_valid _ (valid_of_config (State.kick_config _) ?_)
      split <;> exact h
  | linkSilenceExpiry =>
    obtain rfl := carried_eq he
    refine valid_of_config (State.kick_config _) ?_
    split
    · exact valid_of_config (settle_config _) h
    · exact h
  | baseLoadSample load =>
    obtain rfl := carried_eq he
    exact valid_of_config ((State.kick_config _).trans (State.send_config _ _)) h
  | meterSilenceExpiry =>
    obtain rfl := carried_eq he
    refine valid_of_config (State.kick_config _) ?_
    split
    · exact valid_of_config (State.send_config _ _) h
    · exact h
  | holdOffExpiry k =>
    obtain rfl := carried_eq he
    refine valid_of_config (State.kick_config _) ?_
    split
    · exact valid_of_config (State.send_config _ _) h
    · exact h
  | outputFrame =>
    obtain rfl := carried_eq he
    exact valid_of_config ((State.kick_config _).trans (settle_config _)) h
  | temperatureSample z x =>
    obtain rfl := carried_eq he
    exact valid_of_config ((State.kick_config _).trans (settle_config _)) h
  | lossTimerExpiry z =>
    obtain rfl := carried_eq he
    refine valid_of_config (State.kick_config _) ?_
    split
    · exact valid_of_config (settle_config _) h
    · exact h
  | capTimerExpiry =>
    obtain rfl := carried_eq he
    refine valid_of_config (State.kick_config _) ?_
    split <;> exact h
  | positionSample a x =>
    obtain rfl := carried_eq he
    exact valid_of_config ((State.kick_config _).trans ((settle_config _).trans (positionEvent_config _ _ _))) h
  | staleTimerExpiry a =>
    obtain rfl := carried_eq he
    refine valid_of_config (State.kick_config _) ?_
    split
    · exact valid_of_config (settle_config _) h
    · exact h
  | windlassPulse x =>
    obtain rfl := carried_eq he
    exact valid_of_config ((State.kick_config _).trans (settle_config _)) h
  | anchorHomeChange x =>
    obtain rfl := carried_eq he
    refine valid_of_config ((State.kick_config _).trans (settle_config _)) ?_
    rw [apply_ite Prod.fst, apply_ite State.config, positionEvent_config, ite_self]
    exact h
  | overloadInput x =>
    obtain rfl := carried_eq he
    exact valid_of_config ((State.kick_config _).trans (settle_config _)) h
  | warnTimeReached a =>
    obtain rfl := carried_eq he
    refine valid_of_config (State.kick_config _) ?_
    split
    · exact valid_of_config (State.send_config _ _) h
    · exact h
  | prepareTimerExpiry a =>
    obtain rfl := carried_eq he
    refine valid_of_config (State.kick_config _) ?_
    split
    · exact valid_of_config (settle_config _) h
    · exact h
  | stallWindowExpiry a =>
    obtain rfl := carried_eq he
    refine valid_of_config (State.kick_config _) ?_
    split
    · split
      · exact h
      · exact valid_of_config (State.send_config _ _) h
    · exact h
  | dwellEnd a =>
    obtain rfl := carried_eq he
    refine valid_of_config (State.kick_config _) ?_
    split
    · exact valid_of_config (State.send_config _ _) h
    · exact h
  | stopTimerExpiry a =>
    obtain rfl := carried_eq he
    refine valid_of_config (State.kick_config _) ?_
    split
    · exact valid_of_config (settle_config_of_still (endStop_still _ _)) h
    · exact h
  | starvationTimerExpiry c =>
    obtain rfl := carried_eq he
    refine valid_of_config (State.kick_config _) ?_
    split
    · exact valid_of_config (State.send_config _ _) h
    · exact h
  | fieldInputChange x b =>
    obtain rfl := carried_eq he
    exact valid_of_config ((State.kick_config _).trans (State.send_config _ _)) h
  | vesselAgeingExpiry =>
    obtain rfl := carried_eq he
    refine valid_of_config (State.kick_config _) ?_
    split
    · exact valid_of_config (State.send_config _ _) h
    · exact h
  | motionNoteEnd a =>
    obtain rfl := carried_eq he
    refine valid_of_config (State.kick_config _) ?_
    unfold motionNote
    split <;> exact h
  | noticeNoteEnd =>
    obtain rfl := carried_eq he
    refine valid_of_config (State.kick_config _) ?_
    unfold noticeNote
    split
    · simp only
      split
      · exact h
      · split <;> exact h
    · exact h
  | panelFrame p f =>
    obtain rfl := carried_eq he
    refine valid_of_config ((State.kick_config _).trans (settle_config _)) ?_
    unfold panelFrame
    split <;> exact h
  | panelSilenceExpiry p =>
    obtain rfl := carried_eq he
    refine valid_of_config (State.kick_config _) ?_
    split
    · exact valid_of_config (settle_config _) h
    · exact h
  | releaseTimerExpiry a =>
    obtain rfl := carried_eq he
    refine valid_of_config (State.kick_config _) ?_
    split
    · split
      · exact valid_of_config (State.send_config _ _) h
      · exact h
    · exact h
  | saveComplete x =>
    obtain rfl := carried_eq he
    refine valid_of_config (State.kick_config _) ?_
    split
    · exact h
    · exact h
    · exact valid_of_config (failSave_config s) h
    · exact valid_of_config (failSave_config s) h
  | saveTimerExpiry =>
    obtain rfl := carried_eq he
    refine valid_of_config (State.kick_config _) ?_
    split
    · exact valid_of_config (failSave_config s) h
    · exact h
  | _ =>
    cases he
    exact request

/-- Settles O58: every write of the configuration stores a record in its ranges, and every other part of a command leaves it. -/
theorem configurationStaysInRange : Obligations.ConfigurationStaysInRange := by
  unfold Obligations.ConfigurationStaysInRange
  exact fun c s t h hw he => exec_valid (sized_of_wellFormed hw) h he

end Sys2Proof.Machine
end

section
/-! Requests that are refused for a number beyond the last one, and requests that only read (R23, R45, R50, R63, R89, R116, R124,
R125, R133, R152, R156, R179). -/

namespace Sys2Proof.Machine

/-! ## Refusals -/

/-- A request that its owner refuses only gets its refusal. -/
theorem refused_of {s u : State} {kind tag : Byte} {result : Result} (h : u = s.refuse kind tag result) :
    ∃ t, carried u = .next t ∧ s.refuses t kind tag result :=
  ⟨_, rfl, h ▸ reply_kick_onlyAnswers s kind tag result []⟩

theorem axisOf_none {n : Nat} (h : 2 < n) : axisOf n = none := by
  match n, h with
  | _ + 3, _ => rfl

theorem directionOf_none {n : Nat} (h : 1 < n) : directionOf n = none := by
  match n, h with
  | _ + 2, _ => rfl

theorem takeSetAuxDemand_range (tag : Byte) (n d : Nat) (s : State) (h : n < 50 ∨ 51 < n) :
    takeSetAuxDemand tag n d s = s.refuse 0x12 tag .range := by
  rcases h with h | h
  · simp [takeSetAuxDemand, indexOf, show n < 52 by omega, h]
  · simp [takeSetAuxDemand, indexOf_none h]

theorem takeRecallScene_range (tag : Byte) (n x : Nat) (s : State) (h : 23 < n ∨ 31 < x) :
    takeRecallScene tag n x s = s.refuse 0x29 tag .range := by
  unfold takeRecallScene
  split
  · next hz hk =>
    rcases h with h | h
    · rw [indexOf_none h] at hz; cases hz
    · rw [indexOf_none h] at hk; cases hk
  · rfl

theorem takeOpenProgram_range (tag : Byte) (n x : Nat) (s : State) (h : 15 < n ∨ 2 < x) :
    takeOpenProgram tag n x s = s.refuse 0x38 tag .range := by
  unfold takeOpenProgram
  split
  · next hc ha =>
    rcases h with h | h
    · rw [indexOf_none h] at hc; cases hc
    · rw [axisOf_none h] at ha; cases ha
  · rfl

theorem takeSetInterlock_range (tag : Byte) (n d : Nat) (l : Option (List (Nat × Nat))) (s : State)
    (h : 3 < n ∨ (n ≤ 2 ∧ 1 < d)) : takeSetInterlock tag n d l s = s.refuse 0x33 tag .range := by
  unfold takeSetInterlock
  split
  · next ha hd =>
    rcases h with h | ⟨-, h⟩
    · rw [axisOf_none (by omega)] at ha; cases ha
    · rw [directionOf_none h] at hd; cases hd
  · rfl

theorem takeSetTagmap_range (tag : Byte) (n x : Nat) (f : TagFields) (s : State) (h : 11 < n ∨ 31 < x) :
    takeSetTagmap tag n x f s = s.refuse 0x41 tag .range := by
  unfold takeSetTagmap
  split
  · next hk hi =>
    rcases h with h | h
    · rw [indexOf_none h] at hk; cases hk
    · rw [indexOf_none h] at hi; cases hi
  · rfl

theorem takeGetPanel_range (tag : Byte) (n x : Nat) (s : State) (h : 11 < n ∨ 2 < x) :
    takeGetPanel tag n x s = s.refuse 0x43 tag .range := by
  rcases h with h | h
  · simp [takeGetPanel, indexOf_none h]
  · match x, h with
    | x + 3, _ => unfold takeGetPanel; split <;> simp_all

theorem takeProgramStep_range (tag : Byte) (n : Nat) (f : StepFields) (s : State) (h : 15 < n) :
    takeProgramStep tag n f s = s.reply 0x39 tag .range (u8 n) := by
  simp [takeProgramStep, indexOf_none h]

theorem takeCancel_range (mode : Nat) (cancel : Fin 16 → State → Handled) (tag : Byte) (n : Nat) (s : State) (h : 15 < n) :
    takeCancel mode cancel tag n s = s.refuse 0x3A tag .range := by
  simp [takeCancel, indexOf_none h]

/-- Settles O11: each request looks its number up first. -/
theorem numbersOutOfRangeAreRefused : Obligations.NumbersOutOfRangeAreRefused := by
  unfold Obligations.NumbersOutOfRangeAreRefused
  refine fun tag s => ⟨?_, ?_, ?_, ?_, ?_, ?_, ?_, ?_, ?_, ?_, ?_, ?_, ?_, ?_, ?_, ?_, ?_, ?_, ?_, ?_, ?_, ?_, ?_⟩
  · exact fun n _ _ _ _ _ h => refused_of (by simp [takeSetSlot, indexOf_none h])
  · exact fun n d h => refused_of (takeSetAuxDemand_range tag n d s h)
  · exact fun n h => refused_of (by simp [takeGetBudget, indexOf_none h])
  · exact fun n f h => refused_of (by simp [takeSetZone, indexOf_none h])
  · exact fun n l x h => refused_of (by simp [takeSetLevels, indexOf_none h])
  · exact fun n x h => refused_of (by simp [takeSetSetpoint, indexOf_none h])
  · exact fun n x h => refused_of (by simp [takeSetMode, indexOf_none h])
  · exact fun n h => refused_of (by simp [takeGetZone, indexOf_none h])
  · exact fun n r h => refused_of (by simp [takeStoreScene, indexOf_none h])
  · exact fun n x h => refused_of (takeRecallScene_range tag n x s h)
  · exact fun p h => refused_of (by simp [takeCueStatus, List.getElem?_eq_none h])
  · exact fun n f h => refused_of (by simp [takeSetAxis, axisOf_none h])
  · exact fun n h => refused_of (by simp [takeGetAxis, axisOf_none h])
  · exact fun n h => refused_of (by simp [takeAckFault, axisOf_none h])
  · exact fun n x h => refused_of (takeOpenProgram_range tag n x s h)
  · intro n f h
    refine ⟨_, rfl, ?_⟩
    rw [takeProgramStep_range tag n f s h]
    exact reply_kick_onlyAnswers s 0x39 tag .range (u8 n)
  · exact fun n h => ⟨refused_of (takeCancel_range 0 cancelBoundary tag n s h),
      refused_of (takeCancel_range 1 cancelNow tag n s h),
      refused_of (by simp [takePauseProgram, indexOf_none h]), refused_of (by simp [takeResumeProgram, indexOf_none h]),
      refused_of (by simp [takeGetProgram, indexOf_none h])⟩
  · exact fun n d l h => refused_of (takeSetInterlock_range tag n d l s h)
  · exact fun n r h => refused_of (by simp [takeSetPattern, indexOf_none h])
  · exact fun n r h => refused_of (by simp [takeSetPanel, indexOf_none h])
  · exact fun n x r h => refused_of (takeSetTagmap_range tag n x r s h)
  · exact fun n x h => refused_of (takeGetPanel_range tag n x s h)
  · exact fun r => refused_of (by simp [takeSetBinding])

end Sys2Proof.Machine
end

section
/-! O10: the replies of the requests that only read, each field by field. -/

namespace Sys2Proof.Machine

/-! ## Optional fields and their markers -/

theorem orMarker_one {α : Type} (f : α → List Byte) (o : Option α) : orMarker 1 f o = o.elim [0xFF] f := by cases o <;> rfl

theorem orMarker_elim {α : Type} (n : Nat) (f : α → List Byte) (o : Option α) :
    orMarker n f o = o.elim (List.replicate n 0xFF) f := by cases o <;> rfl

theorem orMarker_map {α : Type} (f : α → Nat) (o : Option α) :
    orMarker 1 (fun x => u8 (f x)) o = (o.map f).elim [0xFF] u8 := by cases o <;> rfl

theorem marker_one : marker 1 = [0xFF] := rfl

theorem axisByte_eq (a : Option Axis) : axisByte a = (a.map axisNumber).elim [0xFF] u8 := orMarker_map axisNumber a

theorem position_eq (p : Option Int) : position p = p.elim [0x80, 0, 0, 0] i32 := by cases p <;> rfl

theorem timeLeft_bytes (s : State) (d : Option Nat) :
    orMarker 4 u32 (s.timeLeft d) = d.elim [0xFF, 0xFF, 0xFF, 0xFF] fun n => u32 (n - s.now) := by cases d <;> rfl

theorem age_bytes (s : State) (f : Nat → List Byte) (d : Option Nat) :
    orMarker 4 f (s.age d) = d.elim [0xFF, 0xFF, 0xFF, 0xFF] fun n => f (s.now - n) := by cases d <;> rfl

/-! ## Replies -/

/-- A request that reads gets its reply and changes nothing else. -/
theorem answered_of {s u : State} {kind tag : Byte} {fields : List Byte} (h : u = s.reply kind tag .ok fields) :
    ∃ t, carried u = .next t ∧ s.onlyAnswers t (okFrame kind tag fields) :=
  ⟨_, rfl, h ▸ reply_kick_onlyAnswers s kind tag .ok fields⟩

theorem axisOf_axisNumber (a : Axis) : axisOf (axisNumber a) = some a := by cases a <;> rfl
theorem directionOf_code (d : Direction) : directionOf d.code = some d := by cases d <;> rfl

theorem takeGetBudget_slot (tag : Byte) (k : Fin 52) (s : State) :
    takeGetBudget tag (some k.val) s = s.reply 0x13 tag .ok (s.slotBytes k) := by simp [takeGetBudget]

theorem takeGetZone_zone (tag : Byte) (z : Fin 24) (s : State) :
    takeGetZone tag z.val s = s.reply 0x24 tag .ok (s.zoneBytes z) := by simp [takeGetZone]

theorem takeGetProgram_context (tag : Byte) (c : Fin 16) (s : State) :
    takeGetProgram tag (some c.val) s = s.reply 0x3D tag .ok (s.programBytes c) := by simp [takeGetProgram]

theorem slotClass_order (k : Fin 52) :
    (slotClass k).order = if k.val < 24 then 0 else if k.val < 48 then 1 else 2 := by
  unfold slotClass
  split
  · rfl
  · split <;> rfl

/-- The mode, the switch and the counters of the windlass, or the sensor of a hydraulic axis (R89). -/
theorem State.inputBytes_eq (s : State) (a : Axis) :
    s.inputBytes a = (hydraulicOf a).elim
      (u16 s.gypsy.count ++ flag s.inputs.anchorHome ++ flag s.inputs.payingOut ++ flag s.inputs.overload
        ++ u16 s.gypsy.reverse)
      fun h => flag (!(s.sensors.get h).fresh)
        ++ (s.sensors.get h).sampledAt.elim [0xFF, 0xFF, 0xFF, 0xFF] fun n => u32 (min 65535 ((s.now - n) / 1)) := by
  have code (b : Bool) : u8 (sensorCode b) = flag !b := by cases b <;> rfl
  unfold State.inputBytes
  cases hydraulicOf a with
  | none => rfl
  | some h => simp only [Option.elim_some, code, age_bytes, Nat.div_one]

theorem takeGetAxis_axis (tag : Byte) (a : Axis) (s : State) :
    takeGetAxis tag (axisNumber a) s = s.reply 0x31 tag .ok (s.axisBytes a) := by cases a <;> rfl

theorem State.ownConfigBytes_eq (s : State) (a : Axis) :
    s.ownConfigBytes a = if a = .hatch then [] else if a = .platform then u16 s.config.deckLevel
      else u32 s.config.gear.maxRode ++ u8 s.config.gear.pulses ++ u16 s.config.gear.chain ++ u16 s.config.gear.rating := by
  cases a <;> rfl

theorem driveBytes_eq (a : Axis) (d : Drive) :
    driveBytes a d = if a = .windlass then
        (if d.out = 0 ∧ d.inward = 0 then [0xFF] else [Config.motorDirectionCode (decide (d.out ≠ 0))])
          ++ u8 (max d.out d.inward) ++ flag d.brakeSet
      else u8 d.out ++ u8 d.inward ++ flag false := by
  cases a <;> rfl

theorem currentBytes_eq (c : Option CurrentStep) :
    currentBytes c = c.elim (List.replicate 16 0xFF) fun x => u8 x.context.val ++ x.step.bytes := orMarker_elim _ _ c

theorem faultBytes_eq (f : Option FaultRecord) :
    faultBytes f = f.elim (List.replicate 7 0xFF) fun f => u8 f.kind.code ++ f.position.elim [0x80, 0, 0, 0] i32
      ++ (f.context.map (·.val)).elim [0xFF] u8 ++ u8 f.count := by
  simp only [faultBytes, orMarker_elim 7, position_eq, orMarker_map]

theorem State.currentOf_eq (s : State) (c : Fin 16) :
    s.currentOf c = s.contexts[c].axis.bind fun a =>
      ((s.axis a).current.filter fun y => decide (y.context = c)).map (·.step) := by
  unfold State.currentOf
  congr 1
  funext a
  cases (s.axis a).current with
  | none => rfl
  | some y => by_cases h : y.context = c <;> simp [h, Option.filter]

theorem State.place_bytes (s : State) (c : Fin 16) :
    orMarker 1 u8 (s.place c)
      = (s.contexts[c].axis.map fun a => (s.queue a).findIdx fun b => b = c).elim [0xFF] u8 := by
  unfold State.place
  cases s.contexts[c].axis <;> rfl

theorem takeGetPanel_record (tag : Byte) (p : Fin 12) (s : State) :
    takeGetPanel tag p.val 0 s = s.reply 0x43 tag .ok (s.panelBytes p) := by simp [takeGetPanel]

theorem Touch.heldBytes_eq (x : Touch) :
    x.heldBytes = (match x with
      | .down g mx my => u8 g ++ u16 mx.toNat ++ u16 my.toNat
      | _ => List.replicate 5 0xFF) := by cases x <;> rfl

theorem lastGroupBytes_eq (x : Option LastGroup) :
    lastGroupBytes x = (match x with
      | none => [0xFF]
      | some .noTouch => [Config.groupKindCode 0]
      | some (.onGlass mx my px py g) => [Config.groupKindCode 1] ++ u16 mx ++ u16 my ++ i32 px ++ i32 py ++ u8 g
      | some (.offGlass mx my px py) => [Config.groupKindCode 2] ++ u16 mx ++ u16 my ++ i32 px ++ i32 py) := by
  rcases x with - | x
  · rfl
  · cases x <;> rfl

theorem BindingKind.isZone_iff (k : BindingKind) : k.isZone = true ↔ 1 ≤ k.code ∧ k.code ≤ 6 := by
  cases k <;> decide

/-- The target of a binding is sent for a kind that reads one (R156, R182). -/
theorem Binding.replyBytes_eq (b : Binding) :
    b.replyBytes = u8 b.kind.code
      ++ (if 1 ≤ b.kind.code ∧ b.kind.code ≤ 6 then b.target.elim [0xFF] (fun z => u8 z.val) else [0]) ++ u16 b.argument
      ++ u8 (axisNumber b.axis) ++ u8 b.preset.val ++ flag b.holdToRun := by
  simp only [Binding.replyBytes, BindingKind.isZone_iff, orMarker_one]
  rfl

/-- Settles O10: each reply, field by field; a reply and the choice that follows it change nothing but the frames on their way
to the host. -/
theorem readsAnswerAndChangeNothing : Obligations.ReadsAnswerAndChangeNothing := by
  unfold Obligations.ReadsAnswerAndChangeNothing
  dsimp only
  refine ⟨⟨?_, ?_, ?_, ?_, ?_, ?_, ?_, ?_, ?_, ?_⟩, ?_, ?_, ?_, ?_, ?_, ?_, ?_⟩
  · intro tag s
    refine answered_of (u := takeGetStatus tag s) ?_
    simp only [takeGetStatus, State.statusBytes, hydraulicByte, axisByte_eq, timeLeft_bytes]
    rfl
  · intro tag s
    refine answered_of (u := takeGetBudget tag none s) ?_
    simp only [takeGetBudget, State.budgetSummary, PassResult.bytes, PassResult.shortBytes, PassFlags.byte, List.append_assoc]
  · intro tag k s
    refine answered_of (takeGetBudget_slot tag k s |>.trans ?_)
    simp only [State.slotBytes, timeLeft_bytes, slotClass_order, State.slotConfig]
  · intro tag z s
    refine answered_of (takeGetZone_zone tag z s |>.trans ?_)
    have code (b : Bool) : u8 (temperatureCode b) = flag !b := by cases b <;> rfl
    simp only [State.zoneBytes, ZoneConfig.readBytes, orMarker_one, age_bytes, code, List.append_assoc]
    rfl
  · intro tag s
    refine answered_of (u := takeCueStatus tag none s) ?_
    simp only [takeCueStatus, State.cueSummary, timeLeft_bytes, orMarker_map]
  · intro tag p e s h
    refine answered_of (u := takeCueStatus tag (some p) s) ?_
    simp only [takeCueStatus, h]
  · intro tag a s
    refine answered_of (u := takeGetAxis tag (axisNumber a) s) ?_
    refine (takeGetAxis_axis tag a s).trans (congrArg (s.reply 0x31 tag .ok) ?_)
    unfold State.axisBytes
    simp only [faultBytes_eq, position_eq, orMarker_map, driveBytes_eq, State.inputBytes_eq, State.ownConfigBytes_eq,
      currentBytes_eq, Step.bytes, State.axisConfig, HoldSet.byte, timeLeft_bytes, age_bytes, marker_one]
  · intro tag s
    refine answered_of (u := takeGetProgram tag none s) ?_
    simp only [takeGetProgram, State.programSummary, ownerByte, orMarker_map, axisByte_eq]
    rfl
  · intro tag c s
    refine answered_of (takeGetProgram_context tag c s |>.trans ?_)
    simp only [State.programBytes]
    split
    · next h => rw [h]; rfl
    · simp only [ownerByte, orMarker_map, State.place_bytes, axisByte_eq, timeLeft_bytes, position_eq, orMarker_elim 15,
        State.currentOf_eq]
      rfl
  · intro tag p s
    refine ⟨answered_of (u := takeGetPanel tag p.val 0 s) ?_, answered_of (u := takeGetPanel tag p.val 1 s) ?_,
      answered_of (u := takeGetPanel tag p.val 2 s) ?_⟩
    · refine (takeGetPanel_record tag p s).trans (congrArg (s.reply 0x43 tag .ok) ?_)
      simp only [State.panelBytes, Touch.heldBytes_eq, age_bytes, lastGroupBytes_eq, Nat.div_one] <;>
        rfl
    · simp only [takeGetPanel, indexOf_val]
      rfl
    · simp only [takeGetPanel, indexOf_val]
      rfl
  · intro tag n s
    refine answered_of (u := takeStoreScene tag n.val none s) ?_
    simp only [takeStoreScene, indexOf_val, sceneReply]
  · intro tag a d s
    refine answered_of (u := takeSetInterlock tag (axisNumber a) d.code none s) ?_
    simp only [takeSetInterlock, axisOf_axisNumber, directionOf_code, interlockReply]
  · intro tag s
    refine answered_of (u := takeSetInterlockCommon tag none s) ?_
    simp only [takeSetInterlockCommon, commonReply, age_bytes]
    rfl
  · intro tag k s
    refine answered_of (u := takeSetPattern tag k.val none s) ?_
    simp only [takeSetPattern, indexOf_val, patternReply]
  · intro tag p s
    refine answered_of (u := takeSetPanel tag p.val none s) ?_
    simp only [takeSetPanel, indexOf_val, panelReply]
  · intro tag b s
    refine answered_of (u := takeSetBinding tag (b.val + 1) none s) ?_
    simp only [takeSetBinding, Nat.add_one_ne_zero, if_false, Nat.add_sub_cancel, indexOf_val, bindingReply,
      Binding.replyBytes_eq, List.append_assoc]
  · intro tag s
    exact answered_of (u := takeSetBinding tag 0 none s) rfl

end Sys2Proof.Machine
end

section
/-! O60: reset meets every law. Every axis is IDLE, every queue empty, every zone as it starts, and the factory configuration is in
its ranges. -/

namespace Sys2Proof.Machine

theorem reset_axis (a : Axis) : State.reset.axis a = axisStart := by cases a <;> rfl
theorem reset_queue (a : Axis) : State.reset.queue a = [] := by cases a <;> rfl
theorem reset_context (c : Fin 16) : State.reset.contexts[c] = contextStart := by simp [State.reset]
theorem reset_zone (z : Fin 24) : State.reset.zones[z] = zoneStart := by simp [State.reset]
theorem reset_slot (k : Fin 52) : State.reset.budget.slots[k] = slotStart := by simp [State.reset, budgetStart]
theorem reset_zoneConfig (z : Fin 24) : State.reset.config.zones[z] = factoryZone := by simp [State.reset, factory]

theorem axisStart_lawful : axisStart.lawful := by simp [AxisRecord.lawful, axisStart, noHolds]

theorem reset_axesLawful : State.reset.axesLawful := fun a => reset_axis a ▸ axisStart_lawful

theorem reset_pumpLaw : State.reset.pumpLaw := by
  intro h hk
  rw [reset_axis] at hk
  cases hk

theorem reset_runLaw : State.reset.runLaw := by unfold State.runLaw; decide

theorem reset_head (a : Axis) : State.reset.head a = none := by cases a <;> rfl

/-- With every queue empty and every context FREE the queues are in order. -/
theorem reset_queueLaw : State.reset.queueLaw := by
  refine ⟨fun a => ?_, fun c a => ?_, fun c => ?_, fun c => ?_, fun c a h => ?_,
    fun _ => ⟨fun a c h => ?_, fun a _ => ?_, fun a x h => ?_⟩⟩
  · rw [reset_queue]; exact List.nodup_nil
  · rw [reset_queue, reset_context]; simp [contextStart]
  · rw [reset_context]; simp [contextStart]
  · rw [reset_context]; simp [contextStart]
  · rw [reset_context] at h; simp [contextStart] at h
  · rw [reset_head] at h; cases h
  · rw [reset_axis]; rfl
  · rw [reset_axis] at h; cases h

theorem reset_permitsFresh : State.reset.permitsFresh := by unfold State.permitsFresh; decide +kernel

theorem reset_movesPermitted : State.reset.movesPermitted := by
  intro _ a d h
  rw [reset_axis] at h
  cases h

theorem reset_reportLaw : State.reset.reportLaw := by unfold State.reportLaw; decide +kernel

theorem zoneStart_foreseen : zoneStart.foreseen factoryZone.rated := by
  unfold Zone.foreseen Channel.onFade
  decide

theorem zoneStart_outputsFollow : zoneStart.outputsFollow := by unfold Zone.outputsFollow; decide

theorem zoneStart_runsWithin : zoneStart.runsWithin factoryZone := by unfold Zone.runsWithin; decide

theorem reset_zonesWithin : State.reset.zonesWithin := by
  intro _ z
  rw [reset_zone, reset_zoneConfig]
  exact ⟨zoneStart_foreseen, zoneStart_outputsFollow⟩

theorem reset_stageLaw : State.reset.stageLaw := by
  intro z
  rw [reset_zone, reset_zoneConfig]
  exact zoneStart_runsWithin

theorem reset_grantsWithin : State.reset.grantsWithin := by
  intro k
  rw [reset_slot]
  exact ⟨Nat.zero_le _, fun _ => le_rfl⟩

theorem reset_demandLaw : State.reset.demandLaw := by
  refine fun _ => ⟨fun z => ?_, rfl, rfl⟩
  rw [State.raw, State.raw, reset_slot, reset_slot, reset_zone, reset_zoneConfig]
  exact ⟨rfl, rfl⟩

theorem reset_grantsDelivered : State.reset.grantsDelivered := by
  refine ⟨fun k => ?_, fun _ => ⟨fun z => ?_, rfl, rfl⟩⟩
  · rw [reset_slot]; rfl
  · rw [reset_slot, reset_slot, reset_zone]; exact ⟨rfl, rfl⟩

theorem reset_laneLaw : State.reset.laneLaw := by
  refine ⟨fun k => ?_, fun a => ?_⟩
  · exact List.length_pos_iff.1 (((Configuration.valid_iff _).1 factory_valid).patterns k).1
  · rw [reset_axis]
    cases a <;> simp [State.reset, chimeStart, PerAxis.get, AxisState.warns, axisStart]

/-- Settles O60: law by law, over the start values. -/
theorem resetMeetsEveryLaw : Obligations.ResetMeetsEveryLaw := by
  unfold Obligations.ResetMeetsEveryLaw
  exact ⟨reset_axesLawful, reset_pumpLaw, reset_runLaw, reset_queueLaw, reset_permitsFresh, reset_movesPermitted,
    reset_reportLaw, factory_valid, fun h => (by cases h), ⟨Nat.zero_le _, .nil⟩, reset_zonesWithin, reset_stageLaw,
    fun h => (by cases h), reset_grantsWithin, reset_demandLaw, reset_grantsDelivered, reset_laneLaw⟩

end Sys2Proof.Machine
end

section
/-! A pass is shown by the pass result record until the end of its step (R11, R14), and what the signals of a step never do to
the Budget: post for an AUX slot, change a held peak, or part an effective demand from its raw demand and cap. -/

namespace Sys2Proof.Machine

/-! ## The pass result record of a pass (R14) -/

/-- The record tells of the Budget and the configuration alone. -/
theorem State.passed_congr {s t : State} (hb : t.budget = s.budget) (hc : t.config = s.config) (h : s.passed) : t.passed := by
  cases s
  cases t
  cases hb
  cases hc
  exact h

/-- The record does not tell of the last-posted copy. -/
theorem State.passed_posted {s : State} (copy : Option PostedCopy) (h : s.passed) :
    ({ s with budget := { s.budget with posted := copy } } : State).passed := h

theorem State.passPeak_afterPass (s : State) : s.afterPass.passPeak = s.passPeak := by
  unfold State.passPeak
  rw [State.afterPass_mode, State.afterPass_history, State.afterPass_heldPeak]
  cases h : s.budget.mode with
  | normal => rfl
  | hold => simp only [State.passPeak, h]

theorem State.ranked_afterPass (s : State) : s.afterPass.ranked = s.ranked := by
  have henters : s.afterPass.enters = s.enters := by
    funext k
    simp only [State.enters, State.slotConfig, State.afterPass_config, State.afterPass_slot]
  have hranks : s.afterPass.ranksBefore = s.ranksBefore := by
    funext a b
    simp only [State.ranksBefore, State.slotConfig, State.afterPass_config] <;> rfl
  unfold State.ranked
  rw [henters, hranks]

/-- The headroom of a pass is what the grants leave of A, in either mode (R14). -/
theorem State.passHeadroom_eq (s : State) : s.passHeadroom = s.passAvailable - grantSum s.passGrants := by
  unfold State.passHeadroom
  split
  · next h => rw [State.walk_headroom, State.passGrants_normal h]
  · rfl

/-- After a pass the record is that of the pass. -/
theorem State.afterPass_passed (s : State) : s.afterPass.passed := by
  unfold State.passed
  simp only [State.afterPass_result, State.afterPass_passNumber, State.afterPass_mode, State.afterPass_config,
    State.afterPass_heldPeak, State.passPeak_afterPass, State.afterPass_grants, State.ranked_afterPass]
  refine ⟨rfl, rfl, rfl, rfl, rfl, rfl, rfl, s.passHeadroom_eq, rfl, rfl, ?_, s.passResult_short, ?_, ?_⟩
  · cases h : s.budget.mode <;> simp [State.passResult, passFlags, h]
  · rw [s.passResult_sat, decide_eq_decide]
    exact exists_congr fun k => by simp only [State.raw, State.afterPass_slot]
  · rw [s.passResult_shortList]
    refine congrArg (List.map fun k : Fin 52 => k.val) (List.filter_congr fun k _ => ?_)
    simp only [State.afterPass_slot]

/-- Between the turns of a step: the record shows a pass, or a pass comes next. -/
def passedOrPass (l : List Signal) (s : State) : Prop := s.passed ∨ l.head? = some .pass

theorem turn_passedOrPass {sent sent' : List Outgoing} {x : Signal} {rest l' : List Signal} {s t : State}
    (h : passedOrPass (x :: rest) s) (hturn : BudgetTurn sent rest s x sent' l' t) (hstill : t.still = s.still) :
    passedOrPass l' t := by
  have hc : t.config = s.config := State.config_of_still hstill
  have keeps (hx : x ≠ .pass) (hb : t.budget = s.budget) : passedOrPass l' t := by
    rcases h with h | h
    · exact .inl (State.passed_congr hb hc h)
    · exact absurd (Option.some.inj h) hx
  cases hturn with
  | pass => exact .inl s.afterPass_passed
  | post k d _ => exact .inr rfl
  | grant k g later more t hq ht => exact keeps (by simp) (Books.delivered ht).1
  | report content copy later hq =>
    rcases h with h | h
    · unfold reportBudget
      split
      · exact .inl h
      · exact .inl (State.passed_congr (s := { s with budget := { s.budget with posted := some copy } }) rfl rfl
          (State.passed_posted _ h))
    · cases h
  | quiet x more t hx _ ht => exact keeps hx (Books.same ht).1

theorem run_passed (n : Nat) (sent : List Outgoing) (l : List Signal) (s : State) (h : passedOrPass l s)
    (hu : (run n sent l s).unsettled = false) : (run n sent l s).passed := by
  rcases run_induct (P := fun _ l t => passedOrPass l t) (fun _ _ _ _ _ _ _ h ht hs => turn_passedOrPass h ht hs)
    n sent l s h with ⟨_, h⟩ | ⟨_, _, _, t, _, e⟩
  · exact h.resolve_right (by simp)
  · rw [e] at hu; cases hu

/-- A pass that is sent is shown at the end of its signals. -/
theorem send_pass_passed (s : State) (hu : (s.send .pass).unsettled = false) : (s.send .pass).passed :=
  run_passed _ _ _ _ (.inr rfl) hu

/-! ## The effective demand (R7), and the held peak of HOLD mode (R17) -/

/-- The effective demand of a slot follows its raw demand and its cap. -/
def State.effectiveFollows (k : Fin 52) (s : State) : Prop :=
  s.budget.slots[k].effective = min s.budget.slots[k].raw s.config.slots[k].cap

theorem effectiveFollows_budgetLaw (k : Fin 52) : BudgetLaw (State.effectiveFollows k) where
  same hb hc h := by unfold State.effectiveFollows at *; rwa [hb, hc]
  demand s j d h := by
    unfold State.effectiveFollows at *
    rcases eq_or_ne j k with rfl | hj
    · rw [State.withDemand_slot_same]; rfl
    · rw [State.withDemand_slot_other s d hj]; exact h
  report content copy s h := by
    unfold State.effectiveFollows at *
    rwa [reportBudget_slots, reportBudget_config]

theorem afterPass_effectiveFollows {k : Fin 52} {s : State} (h : s.effectiveFollows k) : s.afterPass.effectiveFollows k := by
  unfold State.effectiveFollows at *
  rw [State.afterPass_slot, State.afterPass_config]
  exact h

theorem settle_effectiveFollows {k : Fin 52} (h : Handled) (hs : h.1.effectiveFollows k) :
    (settle h).effectiveFollows k :=
  (effectiveFollows_budgetLaw k).run_keeps (fun _ => afterPass_effectiveFollows) _ _ _ _ hs

/-- The mode is HOLD and the held peak is this one. -/
def State.holdsPeak (n : Nat) (s : State) : Prop := s.budget.mode = .hold ∧ s.budget.heldPeak = n

theorem holdsPeak_budgetLaw (n : Nat) : BudgetLaw (State.holdsPeak n) where
  same hb _ h := by unfold State.holdsPeak at *; rwa [hb]
  demand _ _ _ h := h
  report content copy s h := by
    unfold reportBudget
    split <;> exact h

theorem afterPass_holdsPeak {n : Nat} {s : State} (h : s.holdsPeak n) : s.afterPass.holdsPeak n := by
  obtain ⟨hm, hp⟩ := h
  refine ⟨s.afterPass_mode.trans hm, s.afterPass_heldPeak.trans ?_⟩
  simp only [State.passPeak, hm, hp]

theorem send_holdsPeak {n : Nat} {s : State} (x : Signal) (h : s.holdsPeak n) : (s.send x).holdsPeak n :=
  (holdsPeak_budgetLaw n).run_keeps (fun _ => afterPass_holdsPeak) _ _ _ _ h

/-! ## Hold-offs (R9) -/

/-- The hold-off of a slot is not running, or has been started in this step at its full length. -/
def State.holdOffFresh (k : Fin 52) (s : State) : Prop :=
  s.budget.slots[k].holdOffEnds = none
    ∨ s.budget.slots[k].holdOffEnds = some (s.now + 1000 * s.config.slots[k].holdOff)

theorem State.withDemand_holdOff (s : State) (k j : Fin 52) (d : Nat) :
    (s.withDemand k d).budget.slots[j].holdOffEnds = s.budget.slots[j].holdOffEnds := by
  rcases eq_or_ne k j with rfl | h
  · rw [State.withDemand_slot_same]
  · rw [State.withDemand_slot_other s d h]

theorem afterPass_holdOffFresh {k : Fin 52} {s : State} (h : s.holdOffFresh k) : s.afterPass.holdOffFresh k := by
  unfold State.holdOffFresh at *
  rw [State.afterPass_slot, State.afterPass_now, State.afterPass_config]
  simp only [State.holdOffAfter_eq]
  split
  · exact .inr rfl
  · exact h

theorem send_holdOffFresh {k : Fin 52} {s : State} (x : Signal) (h : s.holdOffFresh k) : (s.send x).holdOffFresh k := by
  refine run_keeps (P := State.holdOffFresh k) (fun sent x rest s sent' l' t hs hturn hstill => ?_) (fun s hs => hs)
    signalBound [] [x] s h
  obtain ⟨hn, -, -, hc, -⟩ := State.fixed_fields (State.fixed_of_still hstill)
  have keeps (he : t.budget.slots[k].holdOffEnds = s.budget.slots[k].holdOffEnds) : t.holdOffFresh k := by
    unfold State.holdOffFresh at *
    rwa [he, hn, hc]
  cases hturn with
  | pass => exact afterPass_holdOffFresh hs
  | post j d _ => exact keeps (s.withDemand_holdOff j k d)
  | grant j g later more t hq ht => exact keeps (by rw [(Books.delivered ht).1])
  | report content copy later hq => exact keeps (by rw [reportBudget_slots])
  | quiet x more t _ _ ht => exact keeps (by rw [(Books.same ht).1])

/-! ## No signal of a step posts for an AUX slot (R7, R22) -/

/-- A signal posts for a slot with an owner inside the part, if it posts at all. -/
def Signal.inside : Signal → Bool
  | .post k _ => decide (k.val < 50)
  | _ => true

/-- Every signal of a list is inside. -/
def allInside (l : List Signal) : Bool := l.all (·.inside)

@[simp] theorem allInside_nil : allInside [] = true := rfl
@[simp] theorem allInside_cons (x : Signal) (l : List Signal) : allInside (x :: l) = (x.inside && allInside l) := by
  simp [allInside]
@[simp] theorem allInside_append (l m : List Signal) : allInside (l ++ m) = (allInside l && allInside m) := by
  simp [allInside]

theorem allInside_map {α : Type} (l : List α) (f : α → Signal) (h : ∀ x, (f x).inside = true) :
    allInside (l.map f) = true := by
  simp [allInside, h]

@[simp] theorem idleSignals_inside (a : Axis) : allInside (idleSignals a) = true := by cases a <;> rfl
@[simp] theorem windlassDemand_inside (a : Axis) (d : Nat) : allInside (windlassDemand a d) = true := by cases a <;> rfl
@[simp] theorem pumpSignals_inside (a : Axis) : allInside (pumpSignals a) = true := by cases a <;> rfl
@[simp] theorem faultReleases_inside (a : Axis) : allInside (faultReleases a) = true := by cases a <;> rfl

@[simp] theorem enterDwell_inside (a : Axis) (s : State) : allInside (enterDwell a s).2 = true := by
  unfold enterDwell
  simp only
  (repeat' split) <;> rfl

@[simp] theorem enterPreparing_inside (a : Axis) (s : State) : allInside (enterPreparing a s).2 = true := by
  unfold enterPreparing
  cases a <;> simp only [hydraulicOf] <;> (repeat' split) <;> rfl

@[simp] theorem nextStep_inside (a : Axis) (c : Fin 16) (s : State) : allInside (nextStep a c s).2 = true := by
  unfold nextStep
  simp only
  (repeat' split) <;> simp

@[simp] theorem faultHead_inside (a : Axis) (e : Bool) (s : State) : allInside (faultHead a e s).2 = true := by
  unfold faultHead
  (repeat' split) <;> simp [Signal.inside]

@[simp] theorem endAxis_inside (a : Axis) (s : State) : allInside (endAxis a s).2 = true := by
  unfold endAxis
  cases a <;> simp only <;> split <;> rfl

@[simp] theorem sendOn_inside (item : Outgoing) (s : State) : allInside (sendOn item s).2 = true := by
  cases item with
  | report content copy => rfl
  | grant k g =>
    simp only [sendOn]
    unfold deliverTo deliverPump deliverWindlass
    simp only
    (repeat' split) <;> rfl

/-- A calm signal sends signals that are inside. -/
theorem handle_inside (x : Signal) (h : x.calm = true) (s : State) : allInside (handle x s).2 = true := by
  cases x with
  | cueFrame => cases h
  | cueApplied m n l => cases h
  | press p t => cases h
  | lightDemand z =>
    have hz : z.val < 50 := by omega
    simp [handle, lightDemand, Signal.inside, lightSlot, hz]
  | climateWork z =>
    have hz : 24 + z.val < 50 := by omega
    simp [handle, climateWork, Signal.inside, climateSlot, hz]
  | post k d => simp only [handle]; unfold postDemand; split <;> rfl
  | pass => rfl
  | passEnd => rfl
  | reportZone z b => rfl
  | takeUp a => simp only [handle]; unfold takeUp; (repeat' split) <;> simp
  | endEntry a => simp only [handle]; unfold endEntry; split <;> rfl
  | testGates a => simp only [handle]; unfold testGates; simp only; (repeat' split) <;> simp
  | endDwell a => simp only [handle]; unfold endDwell; simp only; (repeat' split) <;> simp [Signal.inside]
  | addHold a r => rfl
  | removeHold a r => simp only [handle]; unfold removeHold; simp only; (repeat' split) <;> simp [Signal.inside]
  | travelled a b => simp only [handle]; unfold travelled; simp only; (repeat' split) <;> simp [Signal.inside]
  | fault a k =>
    simp only [handle]
    unfold fault
    simp only
    (repeat' split) <;> simp [Signal.inside]
  | reportFault a k p => rfl
  | reportAxis a => rfl
  | endProgram c e => simp only [handle]; unfold endProgram; simp only; (repeat' split) <;> simp [Signal.inside]
  | freeContext c e =>
    simp only [handle]
    unfold freeContext
    simp only
    split
    · rfl
    · split
      · rfl
      · exact allInside_map _ _ fun _ => rfl
  | evaluatePermits => exact allInside_map _ _ fun _ => rfl
  | deliverPermit a d v => simp only [handle]; unfold deliverPermit; simp only; (repeat' split) <;> rfl
  | requestPump h => simp only [handle]; unfold requestPump; (repeat' split) <;> rfl
  | releasePump h => simp only [handle]; unfold releasePump; (repeat' split) <;> rfl
  | handOver => simp only [handle]; unfold handOver; (repeat' split) <;> rfl
  | release p t => simp only [handle]; unfold release; (repeat' split) <;> rfl
  | actionResult p r c => rfl

/-- A turn with calm signals that are inside leaves calm signals that are inside. -/
theorem turn_inside (sent : List Outgoing) (x : Signal) (rest : List Signal) (s : State) (hx : x.calm = true)
    (hr : allInside rest = true) : allInside (turn sent x rest s).2.1 = true := by
  unfold turn
  split
  · exact hr
  · simp [hr, Signal.inside]
  · simp [hr, handle_inside x hx s]

/-- The demands of an AUX slot stand as they were posted. -/
theorem run_aux {k : Fin 52} (hk : 50 ≤ k.val) (n : Nat) (sent : List Outgoing) (l : List Signal) (s : State)
    (hc : allCalm l = true) (hi : allInside l = true) :
    (run n sent l s).budget.slots[k].raw = s.budget.slots[k].raw := by
  induction n generalizing sent l s with
  | zero => cases l <;> rfl
  | succ n ih =>
    cases l with
    | nil => rfl
    | cons x rest =>
      simp only [allCalm_cons, allInside_cons, Bool.and_eq_true] at hc hi
      rw [run_succ, ih _ _ _ (turn_calm sent x rest s hc.1 hc.2).1 (turn_inside sent x rest s hc.1 hi.2)]
      have hturn := turn_budget sent x rest s
      generalize (turn sent x rest s).1 = sent' at hturn
      generalize (turn sent x rest s).2.1 = l' at hturn
      generalize (turn sent x rest s).2.2 = t at hturn ⊢
      cases hturn with
      | pass => rw [State.afterPass_slot]
      | post j d _ =>
        have hj : j.val < 50 := of_decide_eq_true hi.1
        rw [State.withDemand_slot_other s d (fun e => by subst e; omega)]
      | grant j g later more t hq ht => rw [(Books.delivered ht).1]
      | report content copy later hq => rw [reportBudget_slots]
      | quiet x more t _ _ ht => rw [(Books.same ht).1]

end Sys2Proof.Machine
end

section
/-! The commands of the Budget (sections 1.2, 1.3 and 1.6): each stores its fields and takes a pass, which the pass result
record shows at the end of the step. -/

namespace Sys2Proof.Machine

/-! ## Following a state through a command's end -/

theorem State.follows_of {s t : State} (hf : t.fixed = s.fixed) (ha : t.aspect = s.aspect) : s.follows t :=
  ⟨hf, congrArg Prod.fst ha, congrArg Prod.snd ha⟩

/-- A calm signal and what it leads to leave all that `State.follows` names. -/
theorem send_follows (s : State) {x : Signal} (hx : x.calm = true) : s.follows (s.send x) :=
  State.follows_of (s.send_fixed x) (settle_aspect (s, [x]) (by simp [hx]))

theorem State.follows.kick {s t : State} (h : s.follows t) : s.follows t.kick := by
  obtain ⟨hf, hl, hc⟩ := h
  exact State.follows_of (t.kick_fixed.trans hf) (t.kick_aspect.trans (Prod.ext hl hc))

theorem State.follows.reply {s t : State} (h : s.follows t) (kind tag : Byte) (result : Result) (fields : List Byte) :
    s.follows (t.reply kind tag result fields) := h

/-- What a step has passed is shown when its last signal has been taken. -/
def State.settledPassed (s : State) : Prop := s.unsettled = false → s.passed

theorem State.settledPassed.kick {s : State} (h : s.settledPassed) : s.kick.settledPassed := by
  obtain ⟨hb, hc, hu, -⟩ := s.kick_same
  exact fun hn => State.passed_congr hb hc (h (hu ▸ hn))

theorem State.settledPassed.reply {s : State} (h : s.settledPassed) (kind tag : Byte) (result : Result)
    (fields : List Byte) : (s.reply kind tag result fields).settledPassed :=
  fun hn => State.passed_congr (s := s) rfl rfl (h hn)

theorem State.send_now (s : State) (x : Signal) : (s.send x).now = s.now := (State.fixed_fields (s.send_fixed x)).1

theorem State.kick_slots (s : State) : s.kick.budget.slots = s.budget.slots := congrArg Budget.slots s.kick_same.1

/-- The reply goes behind the frames on their way, whatever signals went before. -/
theorem reply_kick_answers {s u : State} (h : u.outgoing = s.outgoing) (kind tag : Byte) (fields : List Byte) :
    s.answers (u.reply kind tag .ok fields).kick kind tag fields := by
  have hbusy := State.kick_busy (u.reply kind tag .ok fields) (by simp)
  exact hbusy.2.trans (by rw [State.reply_outgoing, h]; rfl)

/-- The end of a step in which a pass was sent. -/
theorem pass_ends (s : State) :
    s.follows (s.send .pass).kick ∧ (s.send .pass).kick.settledPassed :=
  ⟨(send_follows s rfl).kick, State.settledPassed.kick (send_pass_passed s)⟩

/-- The end of a request that stored its fields, sent a pass and answers. -/
theorem pass_reply_ends (s w : State) (h : w.outgoing = s.outgoing) (kind tag : Byte) (fields : List Byte) :
    let t := ((w.send .pass).reply kind tag .ok fields).kick
    w.follows t ∧ t.settledPassed ∧ s.answers t kind tag fields :=
  ⟨((send_follows w rfl).reply kind tag .ok fields).kick,
    State.settledPassed.kick (State.settledPassed.reply (send_pass_passed w) kind tag .ok fields),
    reply_kick_answers ((w.send_outgoing .pass).trans h) kind tag fields⟩

/-! ## SET_SLOT (R21) -/

/-- The stored fields of a slot, by its number. -/
theorem storedSlot_eq (k : Fin 52) (enabled priority cap dmin holdOff : Nat) :
    storedSlot (slotClass k) enabled priority cap dmin holdOff =
      { enabled := decide (enabled ≠ 0), priority := min priority 31, cap := min cap 4000,
        dmin := if k.val < 24 then min dmin 4000 else 0, holdOff := if k.val < 24 then 0 else min holdOff 600 } := by
  have hflag : flagOf enabled = decide (enabled ≠ 0) := by rw [Bool.eq_iff_iff]; simp [flagOf]
  unfold storedSlot
  by_cases h : k.val < 24
  · simp only [slotClass_divisible h, hflag, h, if_true]
  · have hclass : slotClass k ≠ .divisible := (slotClass_ne_divisible k).2 (Nat.not_lt.1 h)
    simp only [hclass, hflag, h, if_false]

theorem storeSlot_config (k : Fin 52) (c : SlotConfig) (s : State) : (storeSlot k c s).config.slots[k] = c := by
  simp [storeSlot]

theorem storeSlot_effectiveFollows (k : Fin 52) (c : SlotConfig) (s : State) : (storeSlot k c s).effectiveFollows k := by
  rw [State.effectiveFollows, storeSlot_config, storeSlot, State.onSlot_same]

/-! ## SET_AUX_DEMAND (R22) -/

theorem send_post_equal {k : Fin 52} {d : Nat} {s : State} (h : s.budget.slots[k].raw = d) : s.send (.post k d) = s := by
  have hturn : turn [] (.post k d) [] s = ([], [], s) := by
    have hpost : postDemand k d s = (s, []) := if_pos h.symm
    simp [turn, handle, hpost, Signal.outgoing]
  exact (run_succ 99999 [] (.post k d) [] s).trans (by rw [hturn]; exact run_nil _ _ _)

theorem send_post_other {k : Fin 52} {d : Nat} {s : State} (h : s.budget.slots[k].raw ≠ d) :
    s.send (.post k d) = run 99999 [] [.pass] (s.withDemand k d) := by
  have hturn : turn [] (.post k d) [] s = ([], [.pass], s.withDemand k d) := by
    have hpost : postDemand k d s = (s.withDemand k d, [.pass]) := if_neg (Ne.symm h)
    simp [turn, handle, hpost, Signal.outgoing]
  exact (run_succ 99999 [] (.post k d) [] s).trans (by rw [hturn])

/-- The demand of an AUX slot stands at the end of the step as it was posted. -/
theorem send_post_aux {k : Fin 52} (hk : 50 ≤ k.val) (d : Nat) (s : State) :
    (s.send (.post k d)).budget.slots[k].raw = d := by
  by_cases h : s.budget.slots[k].raw = d
  · rw [send_post_equal h, h]
  · rw [send_post_other h, run_aux hk _ _ _ _ rfl rfl, State.withDemand_slot_same]

/-- A new demand of an AUX slot takes a pass, and the effective demand follows it. -/
theorem send_post_aux_new {k : Fin 52} (hk : 50 ≤ k.val) {d : Nat} {s : State} (h : s.budget.slots[k].raw ≠ d) :
    ((s.send (.post k d)).unsettled = false → (s.send (.post k d)).passed)
      ∧ (s.send (.post k d)).budget.slots[k].effective = min d s.config.slots[k].cap := by
  refine ⟨fun hu => ?_, ?_⟩
  · rw [send_post_other h] at hu ⊢
    exact run_passed _ _ _ _ (.inr rfl) hu
  · have heff : (s.withDemand k d).effectiveFollows k := by
      rw [State.effectiveFollows, State.withDemand_slot_same]
      rfl
    have hend : (s.send (.post k d)).effectiveFollows k := by
      rw [send_post_other h]
      exact (effectiveFollows_budgetLaw k).run_keeps (fun _ => afterPass_effectiveFollows) _ _ _ _ heff
    rw [State.effectiveFollows, send_post_aux hk, State.send_config] at hend
    exact hend

theorem takeSetAuxDemand_aux (tag : Byte) {k : Fin 52} (hk : 50 ≤ k.val) (demand : Nat) (s : State) :
    takeSetAuxDemand tag k.val demand s =
      let t := s.send (.post k (min demand 4000))
      t.reply 0x12 tag .ok (u8 k.val ++ u16 t.budget.slots[k].raw ++ u16 t.budget.slots[k].effective
        ++ u16 t.budget.slots[k].grant) := by
  simp [takeSetAuxDemand, Nat.not_lt.2 hk]

/-- Settles O14: each request stores its fields and sends one pass, which the pass result record shows at the end. -/
theorem budgetRequestsTakePasses : Obligations.BudgetRequestsTakePasses := by
  refine ⟨fun tag supply reserve s => ?_, fun tag k enabled priority cap dmin holdOff s => ?_, fun tag k demand s hk => ?_⟩
  · by_cases h : s.store.saving.isSome = true
    · simp only [h, if_true]
      exact refused_of (by simp [takeSetSupply, State.isSaving, h])
    · simp only [h]
      refine ⟨_, rfl, ?_⟩
      have e : takeSetSupply tag supply reserve s = ((storeSupply supply reserve s).send .pass).reply 0x10 tag .ok
          (u16 (min supply 40000) ++ u8 (min reserve 50)) := by
        simp [takeSetSupply, State.isSaving, h, storeSupply]
      rw [e]
      exact pass_reply_ends s (storeSupply supply reserve s) rfl 0x10 tag _
  · refine ⟨_, rfl, ?_⟩
    split
    · next h =>
      have e : takeSetSlot tag k.val enabled priority cap dmin holdOff s = s.refuse 0x11 tag .busy := by
        simp [takeSetSlot, State.isSaving, h]
      rw [e]
      exact reply_kick_onlyAnswers s 0x11 tag .busy []
    · next h =>
      intro c
      have hc : storedSlot (slotClass k) enabled priority cap dmin holdOff = c := storedSlot_eq ..
      have hconfig : ((storeSlot k c s).send .pass).slotConfig k = c := by
        rw [State.slotConfig, State.send_config, storeSlot_config]
      have e : takeSetSlot tag k.val enabled priority cap dmin holdOff s
          = ((storeSlot k c s).send .pass).reply 0x11 tag .ok (u8 k.val ++ c.bytes) := by
        simp only [takeSetSlot, indexOf_val, State.isSaving, h, hc, hconfig, if_false, Bool.false_eq_true]
      rw [e]
      obtain ⟨hfollows, hpassed, hanswers⟩ := pass_reply_ends s (storeSlot k c s) rfl 0x11 tag (u8 k.val ++ c.bytes)
      refine ⟨hfollows, hpassed, ?_, ?_⟩
      · have heff := settle_effectiveFollows (storeSlot k c s, [.pass]) (storeSlot_effectiveFollows k c s)
        rw [State.effectiveFollows, settle_config, storeSlot_config] at heff
        rw [State.kick_slots]
        exact heff
      · have hbytes : u8 k.val ++ c.bytes
            = u8 k.val ++ flag c.enabled ++ u8 c.priority ++ u16 c.cap ++ u16 c.dmin ++ u16 c.holdOff := by
          simp only [SlotConfig.bytes, List.append_assoc]
        exact hbytes ▸ hanswers
  · refine ⟨_, rfl, ?_⟩
    rw [takeSetAuxDemand_aux tag hk]
    simp only [State.kick_slots]
    refine ⟨((send_follows s rfl).reply ..).kick, send_post_aux hk _ s, fun hne => ?_, fun heq => ?_,
      reply_kick_answers (s.send_outgoing _) 0x12 tag _⟩
    · obtain ⟨hpassed, heff⟩ := send_post_aux_new hk hne
      exact ⟨State.settledPassed.kick (State.settledPassed.reply hpassed 0x12 tag .ok _), heff⟩
    · rw [State.kick_core, State.reply_core, send_post_equal heq]

/-! ## The meter and the hold-offs (R3, R4, R9) -/

/-- The newest 7 entries of a list. -/
theorem drop_newest {α : Type} (l : List α) : l.drop (l.length + 1 - 8) = (l.reverse.take 7).reverse := by
  rw [List.reverse_take, List.reverse_reverse, List.length_reverse]
  rfl

theorem sampleBudget_eq (load now : Nat) (b : Budget) :
    sampleBudget load now b = { b with
      mode := .normal, meterDeadline := some (now + 500),
      history := (if b.mode = .normal then (b.history.reverse.take 7).reverse else []) ++ [load] } := by
  unfold sampleBudget
  cases h : b.mode with
  | normal => rw [if_pos rfl, ← drop_newest]; rfl
  | hold => rw [if_neg (by simp)]; rfl

theorem kick_becomes (s : State) : s.becomes s.kick :=
  ⟨s.kick_core, congrArg State.link s.kick_fixed⟩

/-- Settles O15: a sample, a silence and the end of a hold-off each take one pass; an expiry of a stopped timer takes none. -/
theorem meterAndHoldOffsTakePasses : Obligations.MeterAndHoldOffsTakePasses := by
  refine ⟨fun load s => ⟨_, rfl, ?_⟩, fun s => ⟨_, rfl, fun h => ?_, fun h => ?_⟩,
    fun k s => ⟨_, rfl, fun h => ?_, fun h => ?_⟩⟩
  · rw [sampleBudget_eq]
    exact pass_ends _
  · rw [h]
    exact kick_becomes s
  · rw [if_pos (Option.isSome_iff_ne_none.2 h)]
    obtain ⟨hfollows, hpassed⟩ :=
      pass_ends { s with budget := { s.budget with mode := .hold, history := [], meterDeadline := none } }
    refine ⟨hfollows, hpassed, ?_⟩
    rw [(State.kick_same _).1]
    exact (send_holdsPeak .pass ⟨rfl, rfl⟩).2
  · rw [h]
    exact kick_becomes s
  · rw [if_pos (Option.isSome_iff_ne_none.2 h)]
    obtain ⟨hfollows, hpassed⟩ := pass_ends (s.onSlot k fun r => { r with holdOffEnds := none })
    refine ⟨hfollows, hpassed, ?_⟩
    have hfresh : (s.onSlot k fun r => { r with holdOffEnds := none }).holdOffFresh k := by
      rw [State.holdOffFresh, State.onSlot_same]
      exact .inl rfl
    have hend := send_holdOffFresh .pass hfresh
    rw [State.holdOffFresh, State.send_config, State.send_now] at hend
    rw [State.kick_slots]
    exact hend

end Sys2Proof.Machine
end

section
/-! What a pass leads to while every axis rests: its grants reach their owners and nothing else happens. The state at the end
of such a pass is told outright (R11, R16, R19), and so are the state after a lighting demand and after new permits. -/

namespace Sys2Proof.Machine

/-! ## Rest -/

/-- What the axes, the programs, the notices and the owners of the pump are. -/
def State.standing (s : State) : Motion × Chime × Option Hydraulic × Option Hydraulic :=
  (s.motion, s.chime, s.pump.owner, s.pump.waiting)

/-- No axis has a step or a hold, nobody owns the pump, and the windlass asks for nothing. -/
structure State.atRest (s : State) : Prop where
  current : ∀ a : Axis, (s.axis a).current = none
  holds : ∀ a : Axis, (s.axis a).holds = noHolds
  owner : s.pump.owner = none
  demand : s.raw windlassSlot = 0

theorem State.axes_of_standing {s t : State} (h : t.standing = s.standing) : t.axes = s.axes :=
  congrArg (fun x => x.1.axes) h

theorem State.atRest.congr {s t : State} (hs : s.atRest) (h : t.standing = s.standing)
    (hd : t.raw windlassSlot = s.raw windlassSlot) : t.atRest := by
  have haxis (a : Axis) : t.axis a = s.axis a := congrArg (PerAxis.get · a) (State.axes_of_standing h)
  have howner : t.pump.owner = s.pump.owner := congrArg (fun x => x.2.2.1) h
  obtain ⟨hcurrent, hholds, hnone, hdemand⟩ := hs
  exact ⟨fun a => by rw [haxis, hcurrent], fun a => by rw [haxis, hholds], howner.trans hnone, hd.trans hdemand⟩

/-- A signal to an axis that finds nothing to do at rest. -/
def Signal.resting : Signal → Bool
  | .removeHold _ _ | .testGates _ | .deliverPermit _ _ _ => true
  | _ => false

theorem noHolds_has (r : HoldReason) : noHolds.has r = false := by cases r <;> rfl

/-- At rest such a signal does nothing. -/
theorem handle_resting {s : State} (hs : s.atRest) {x : Signal} (hx : x.resting = true) : handle x s = (s, []) := by
  cases x with
  | removeHold a r => simp only [handle, removeHold, hs.holds a, noHolds_has, if_false, Bool.false_eq_true]
  | testGates a => simp only [handle, testGates, hs.current a]
  | deliverPermit a d v =>
    have hstep : (s.axis a).stepDirection ≠ some d := by simp [AxisRecord.stepDirection, hs.current a]
    simp only [handle, deliverPermit, hstep, false_and, if_false]
  | _ => cases hx

theorem turn_resting {s : State} (hs : s.atRest) {x : Signal} (hx : x.resting = true) (sent : List Outgoing)
    (rest : List Signal) : turn sent x rest s = (sent, rest, s) := by
  have hend : x ≠ .passEnd := fun e => by subst e; cases hx
  have hout : x.outgoing s = [] := by cases x <;> first | rfl | cases hx
  rw [turn_handle sent x rest s hend, handle_resting hs hx, hout, List.append_nil, List.nil_append]

/-- At rest a run passes over such signals. -/
theorem run_resting {s : State} (hs : s.atRest) (l : List Signal) (hl : ∀ x ∈ l, x.resting = true) (n : Nat)
    (sent : List Outgoing) (rest : List Signal) : run (l.length + n) sent (l ++ rest) s = run n sent rest s := by
  induction l with
  | nil => rw [List.length_nil, Nat.zero_add, List.nil_append]
  | cons x l ih =>
    obtain ⟨hx, hrest⟩ := List.forall_mem_cons.1 hl
    rw [List.length_cons, Nat.add_right_comm, List.cons_append, run_succ, turn_resting hs hx]
    exact ih hrest

/-! ## Deliveries at rest -/

@[simp] theorem reportZoneChange_standing (z : Fin 24) (before : Zone) (s : State) :
    (reportZoneChange z before s).standing = s.standing := by
  unfold reportZoneChange
  split <;> rfl

@[simp] theorem reportBudget_standing (content : List Byte) (copy : PostedCopy) (s : State) :
    (reportBudget content copy s).standing = s.standing := by
  unfold reportBudget
  split <;> rfl

/-- What a pass sends on reaches no axis by itself. -/
theorem sendOn_standing (item : Outgoing) (s : State) : (sendOn item s).1.standing = s.standing := by
  cases item with
  | report content copy => exact reportBudget_standing content copy s
  | grant k g =>
    simp only [sendOn]
    rcases slot_cases k with ⟨z, rfl⟩ | ⟨z, rfl⟩ | rfl | rfl | h
    · rw [deliverTo_light]; exact reportZoneChange_standing ..
    · rw [deliverTo_climate]; exact reportZoneChange_standing ..
    · rw [deliverTo_pump, deliverPump_state]; rfl
    · rw [deliverTo_windlass, deliverWindlass_state]; rfl
    · rw [deliverTo_aux k g s h]

/-- The Budget but for the last-posted copy, and the configuration. -/
def State.ledger (s : State) : Budget × Configuration := ({ s.budget with posted := none }, s.config)

theorem State.slots_of_ledger {s t : State} (h : t.ledger = s.ledger) : t.budget.slots = s.budget.slots :=
  congrArg (fun x => x.1.slots) h

theorem State.raw_of_ledger {s t : State} (h : t.ledger = s.ledger) (k : Fin 52) : t.raw k = s.raw k := by
  rw [State.raw, State.slots_of_ledger h]
  rfl

theorem State.passed_of_ledger {s t : State} (h : t.ledger = s.ledger) (hs : s.passed) : t.passed :=
  State.passed_congr (s := { s with budget := { s.budget with posted := none } })
    (t := { t with budget := { t.budget with posted := none } }) (congrArg Prod.fst h) (congrArg Prod.snd h) hs

theorem sendOn_ledger (item : Outgoing) (s : State) : (sendOn item s).1.ledger = s.ledger := by
  have hconfig : (sendOn item s).1.config = s.config := State.config_of_still (sendOn_still item s)
  cases item with
  | grant k g =>
    have hbudget : (sendOn (.grant k g) s).1.budget = s.budget := (Books.delivered (deliverTo_books k g s)).1
    rw [State.ledger, hbudget, hconfig]
    rfl
  | report content copy =>
    simp only [sendOn, reportBudget]
    split <;> rfl

/-- What an owner sends on a delivery at rest finds nothing to do, and is at most two signals. -/
theorem sendOn_resting {s : State} (hs : s.atRest) (item : Outgoing) :
    (∀ x ∈ (sendOn item s).2, x.resting = true) ∧ (sendOn item s).2.length ≤ 2 := by
  cases item with
  | report content copy => simp [sendOn]
  | grant k g =>
    simp only [sendOn]
    rcases slot_cases k with ⟨z, rfl⟩ | ⟨z, rfl⟩ | rfl | rfl | h
    · simp
    · simp
    · simp [deliverPump, hs.owner]
    · rw [deliverTo_windlass, deliverWindlass, hs.demand]
      split
      · simp [Signal.resting]
      · simp
    · simp [deliverTo_aux k g s h]

/-- The state after one thing that a pass has sent on. -/
def State.receives (s : State) (item : Outgoing) : State := (sendOn item s).1

theorem State.atRest.receives {s : State} (hs : s.atRest) (item : Outgoing) : (s.receives item).atRest :=
  hs.congr (sendOn_standing item s) (State.raw_of_ledger (sendOn_ledger item s) windlassSlot)

/-- At rest everything that is on its way arrives, in order. -/
theorem run_deliveries {s : State} (hs : s.atRest) (sent : List Outgoing) (n : Nat) (hn : 3 * sent.length + 1 ≤ n) :
    run n sent [.passEnd] s = sent.foldl State.receives s := by
  induction sent generalizing s n with
  | nil =>
    obtain ⟨m, rfl⟩ : ∃ m, n = m + 1 := ⟨n - 1, by omega⟩
    rw [run_succ]
    exact run_nil m [] s
  | cons item later ih =>
    obtain ⟨hresting, hlength⟩ := sendOn_resting hs item
    rw [List.length_cons] at hn
    obtain ⟨m, rfl⟩ : ∃ m, n = (sendOn item s).2.length + m + 1 := ⟨n - 1 - (sendOn item s).2.length, by omega⟩
    rw [run_succ, List.foldl_cons]
    exact (run_resting (hs.receives item) _ hresting m later [.passEnd]).trans (ih (hs.receives item) m (by omega))

/-! ## A pass at rest -/

/-- The state that a pass leaves at rest, with everything that it sent on arrived. -/
def State.passTaken (s : State) : State := s.passOutgoing.foldl State.receives s.afterPass

/-- What a pass and its deliveries keep, `passTaken` keeps. -/
theorem passTaken_induct {P : State → Prop} {s : State} (hpass : P s.afterPass)
    (hreceives : ∀ t item, P t → P (State.receives t item)) : P s.passTaken := by
  unfold State.passTaken
  generalize s.afterPass = t at hpass
  induction s.passOutgoing generalizing t with
  | nil => exact hpass
  | cons item l ih => exact ih _ (hreceives t item hpass)

theorem passTaken_ledger (s : State) : s.passTaken.ledger = s.afterPass.ledger :=
  passTaken_induct (P := fun t => t.ledger = s.afterPass.ledger) rfl fun t item h => (sendOn_ledger item t).trans h

theorem passTaken_standing (s : State) : s.passTaken.standing = s.standing :=
  passTaken_induct (P := fun t => t.standing = s.standing)
    (by simp only [State.standing, State.motion, State.afterPass]) fun t item h => (sendOn_standing item t).trans h

theorem passTaken_still (s : State) : s.passTaken.still = s.still :=
  passTaken_induct (P := fun t => t.still = s.still) s.afterPass_still fun t item h => (sendOn_still item t).trans h

theorem passTaken_aspect (s : State) : s.passTaken.aspect = s.aspect :=
  passTaken_induct (P := fun t => t.aspect = s.aspect)
    (by simp only [State.aspect, State.looks, State.afterPass_zones, State.afterPass_cue])
    fun t item h => (sendOn_aspect item t).trans h

theorem passTaken_passed (s : State) : s.passTaken.passed := State.passed_of_ledger (passTaken_ledger s) s.afterPass_passed

theorem State.raw_afterPass (s : State) (k : Fin 52) : s.afterPass.raw k = s.raw k := by
  rw [State.raw, State.afterPass_slot]
  rfl

theorem passTaken_raw (s : State) (k : Fin 52) : s.passTaken.raw k = s.raw k :=
  (State.raw_of_ledger (passTaken_ledger s) k).trans (s.raw_afterPass k)

/-- A pass sends on at most a grant for each slot and its report. -/
theorem State.passOutgoing_length (s : State) : s.passOutgoing.length ≤ 53 := by
  have hle : s.passChanged.length ≤ 52 := (List.length_filter_le _ _).trans (List.length_finRange (n := 52)).le
  simp only [State.passOutgoing, List.length_append, List.length_map, List.length_singleton]
  omega

theorem State.atRest.afterPass {s : State} (hs : s.atRest) : s.afterPass.atRest :=
  hs.congr (by simp only [State.standing, State.motion, State.afterPass]) (s.raw_afterPass windlassSlot)

theorem run_pass_rest {s : State} (hs : s.atRest) {n : Nat} (hn : 161 ≤ n) : run n [] [.pass] s = s.passTaken := by
  obtain ⟨m, rfl⟩ : ∃ m, n = m + 1 := ⟨n - 1, by omega⟩
  have hlength := s.passOutgoing_length
  rw [run_succ]
  exact run_deliveries hs.afterPass s.passOutgoing m (by omega)

theorem send_pass_rest {s : State} (hs : s.atRest) : s.send .pass = s.passTaken :=
  run_pass_rest hs (show 161 ≤ signalBound by decide)

/-! ## A lighting demand and new permits at rest -/

/-- The state after a zone's lighting demand at rest: a demand that differs takes a pass. -/
theorem send_lightDemand_rest {s : State} (hs : s.atRest) (z : Fin 24) :
    let u := (lightDemand z s).1
    let d := lightingDemand s.config.zones[z].rated s.zones[z].channels
    s.send (.lightDemand z) = if d = s.raw (lightSlot z) then u else (u.withDemand (lightSlot z) d).passTaken := by
  intro u d
  have hpost : postDemand (lightSlot z) d u
      = if d = s.raw (lightSlot z) then (u, []) else (u.withDemand (lightSlot z) d, [.pass]) := rfl
  have hsecond : s.send (.lightDemand z) = run 99998 [] (postDemand (lightSlot z) d u).2 (postDemand (lightSlot z) d u).1 := by
    refine (run_succ 99999 [] (.lightDemand z) [] s).trans ((run_succ 99998 [] (.post (lightSlot z) d) [] u).trans ?_)
    rw [turn_handle [] (.post (lightSlot z) d) [] u (by simp)]
    simp only [handle, Signal.outgoing, List.append_nil]
  rw [hsecond, hpost]
  split
  · exact run_nil _ _ _
  · have hrest : (u.withDemand (lightSlot z) d).atRest := by
      refine hs.congr rfl ?_
      rw [State.raw, State.withDemand_slot_other u d (windlassSlot_ne_lightSlot z).symm]
      rfl
    exact run_pass_rest hrest (show 161 ≤ 99998 by decide)

/-- At rest new permits are stored, and no axis acts on one. -/
theorem send_evaluatePermits_rest {s : State} (hs : s.atRest) :
    s.send .evaluatePermits = { s with permits := s.workedPermits } := by
  have hresting : ∀ x ∈ (evaluatePermits s).2, x.resting = true := by
    intro x hx
    obtain ⟨p, -, rfl⟩ := List.mem_map.1 hx
    rfl
  have hlength : (evaluatePermits s).2.length ≤ 6 := by
    rw [evaluatePermits, List.length_map]
    exact List.length_filter_le _ _
  have hrest : (evaluatePermits s).1.atRest := hs.congr rfl rfl
  obtain ⟨m, hm⟩ : ∃ m, 99999 = (evaluatePermits s).2.length + m := ⟨99999 - (evaluatePermits s).2.length, by omega⟩
  refine (run_succ 99999 [] .evaluatePermits [] s).trans ?_
  rw [turn_handle [] .evaluatePermits [] s (by simp), hm]
  exact (run_resting hrest _ hresting m [] []).trans (run_nil _ _ _)

end Sys2Proof.Machine
end

section
/-! The WARM reset (R185): what it keeps through its passes, its zones and its permits, and its START report. -/

namespace Sys2Proof.Machine

/-! ## What a WARM reset keeps -/

/-- A hold-off is that of a state, or has been started since at its full length. -/
def State.holdOffKept (r t : State) (k : Fin 52) : Prop :=
  t.budget.slots[k].holdOffEnds = r.budget.slots[k].holdOffEnds
    ∨ (24 ≤ k.val ∧ r.config.slots[k].holdOff ≠ 0
        ∧ t.budget.slots[k].holdOffEnds = some (r.now + 1000 * r.config.slots[k].holdOff))

/-- What the passes and lighting demands of a WARM reset leave of the state that it starts from. -/
structure WarmKept (r t : State) : Prop where
  still : t.still = r.still
  cue : t.cue = r.cue
  standing : t.standing = r.standing
  raw : ∀ k : Fin 52, 24 ≤ k.val → t.raw k = r.raw k
  holdOff : ∀ k : Fin 52, r.holdOffKept t k
  grant : r.raisedInNormal t

theorem WarmKept.refl (r : State) : WarmKept r r :=
  ⟨rfl, rfl, rfl, fun _ _ => rfl, fun _ => .inl rfl, fun _ _ => le_rfl⟩

theorem WarmKept.congr {r t u : State} (h : WarmKept r t) (hstill : u.still = t.still) (hcue : u.cue = t.cue)
    (hstanding : u.standing = t.standing) (hledger : u.ledger = t.ledger) : WarmKept r u where
  still := hstill.trans h.still
  cue := hcue.trans h.cue
  standing := hstanding.trans h.standing
  raw k hk := (State.raw_of_ledger hledger k).trans (h.raw k hk)
  holdOff k := by
    rw [State.holdOffKept, State.slots_of_ledger hledger]
    exact h.holdOff k
  grant hm k := by
    have hmode : u.budget.mode = t.budget.mode := congrArg (fun x => x.1.mode) hledger
    rw [State.slots_of_ledger hledger]
    exact h.grant (hmode ▸ hm) k

theorem WarmKept.afterPass {r t : State} (h : WarmKept r t) : WarmKept r t.afterPass where
  still := t.afterPass_still.trans h.still
  cue := t.afterPass_cue.trans h.cue
  standing := (by simp only [State.standing, State.motion, State.afterPass] : t.afterPass.standing = t.standing).trans
    h.standing
  raw k hk := (t.raw_afterPass k).trans (h.raw k hk)
  holdOff k := by
    obtain ⟨hn, -, -, hc, -⟩ := State.fixed_fields (State.fixed_of_still h.still)
    rw [State.holdOffKept, State.afterPass_slot]
    simp only [State.holdOffAfter_eq, hn, hc]
    split
    · next hfell => exact .inr ⟨hfell.2.1, hfell.2.2, rfl⟩
    · exact h.holdOff k
  grant := afterPass_raisedInNormal h.grant

theorem WarmKept.passTaken {r t : State} (h : WarmKept r t) : WarmKept r t.passTaken :=
  passTaken_induct h.afterPass fun u item hu =>
    hu.congr (sendOn_still item u) (congrArg Prod.snd (sendOn_aspect item u)) (sendOn_standing item u) (sendOn_ledger item u)

theorem WarmKept.withDemand {r t : State} (h : WarmKept r t) (z : Fin 24) (d : Nat) :
    WarmKept r (t.withDemand (lightSlot z) d) where
  still := h.still
  cue := h.cue
  standing := h.standing
  raw k hk := by
    have hne : lightSlot z ≠ k := fun e => by subst e; exact absurd hk (by simp [lightSlot])
    rw [State.raw, State.withDemand_slot_other t d hne]
    exact h.raw k hk
  holdOff k := by
    rw [State.holdOffKept, State.withDemand_holdOff]
    exact h.holdOff k
  grant := (raisedInNormal_budgetLaw r).demand t (lightSlot z) d h.grant

theorem WarmKept.atRest {r t : State} (h : WarmKept r t) (hr : r.atRest) : t.atRest :=
  hr.congr h.standing (h.raw windlassSlot (by decide))

/-- What holds besides after the first pass of a WARM reset: its record is shown and its grants have been delivered. -/
structure WarmSettled (r t : State) : Prop where
  kept : WarmKept r t
  passed : t.passed
  delivered : t.allDelivered

theorem WarmSettled.congr {r t u : State} (h : WarmSettled r t) (hstill : u.still = t.still) (hcue : u.cue = t.cue)
    (hstanding : u.standing = t.standing) (hledger : u.ledger = t.ledger) : WarmSettled r u :=
  ⟨h.kept.congr hstill hcue hstanding hledger, State.passed_of_ledger hledger h.passed,
    State.allDelivered_congr (State.slots_of_ledger hledger) h.delivered⟩

theorem WarmKept.settled_passTaken {r t : State} (h : WarmKept r t) : WarmSettled r t.passTaken :=
  ⟨h.passTaken, passTaken_passed t,
    State.allDelivered_congr (State.slots_of_ledger (passTaken_ledger t)) t.afterPass_allDelivered⟩

/-! ## A zone at a WARM reset (R47) -/

/-- A zone with its running fades complete. -/
def Zone.completed (z : Zone) : Zone := { z with channels := z.channels.map Channel.complete }

theorem Zone.onChannels_complete (z : Zone) : (z.onChannels fun _ c => c.complete) = z.completed := by
  simp only [Zone.onChannels, Zone.completed, Zone.mk.injEq, true_and, and_true]
  apply Vector.ext
  intro i hi
  simp

theorem Zone.completed_look (z : Zone) : z.completed.look = z.look.completed := by
  simp only [Zone.completed, Zone.look, Zone.mk.injEq, true_and, and_true, Vector.map_map]
  refine Vector.map_congr_left fun c _ => ?_
  simp only [Function.comp_apply, Channel.complete]
  split <;> rfl

theorem Zone.isFading_look (z : Zone) : z.look.isFading = z.isFading := by
  simp [Zone.isFading, Zone.look]

theorem Zone.isFading_completed (z : Zone) : z.completed.isFading = false := by
  simp only [Zone.isFading, Zone.completed, Vector.toList_map, List.any_map, List.any_eq_false, Function.comp_apply,
    Channel.complete]
  intro c _
  split <;> simp_all

theorem Zone.completed_of_steady {z : Zone} (h : z.isFading = false) : z.completed = z := by
  have hsteady : z.channels.map Channel.complete = z.channels := by
    have hid : ∀ c ∈ z.channels, Channel.complete c = id c := fun c hc => by
      have hc' : c.fading = false := by simpa using List.any_eq_false.1 h c (by simpa using hc)
      simp [Channel.complete, hc']
    rw [Vector.map_congr_left hid, Vector.map_id]
  rw [Zone.completed, hsteady]

theorem Zone.isFading_eq_false (z : Zone) : z.isFading = false ↔ ∀ i : Fin 4, z.channels[i].fading = false := by
  simp [Zone.isFading, Vector.any_eq_false, Fin.forall_iff]

/-- The zone with its fades complete and its outputs recomputed, before its demand is worked out. -/
def State.completeZone (s : State) (z : Fin 24) : State := s.onZone z fun r => r.completed.rescale

theorem warmZone_fading {s : State} {z : Fin 24} (h : s.zones[z].isFading = true) :
    warmZone s z = ((s.completeZone z).send (.lightDemand z)).reportZone z := by
  simp only [warmZone, h, if_true, Zone.onChannels_complete, State.completeZone]

theorem warmZone_steady {s : State} {z : Fin 24} (h : s.zones[z].isFading = false) : warmZone s z = s.reportZone z := by
  simp only [warmZone, h, if_false, Bool.false_eq_true]

/-- A zone's fades complete, and its demand with its pass follows. -/
theorem warmZone_settled {r s : State} (hr : r.atRest) (h : WarmSettled r s) (z : Fin 24) : WarmSettled r (warmZone s z) := by
  by_cases hz : s.zones[z].isFading = true
  · rw [warmZone_fading hz]
    have hcomplete : WarmSettled r (s.completeZone z) := h.congr rfl rfl rfl rfl
    have hdemand : WarmSettled r (lightDemand z (s.completeZone z)).1 := hcomplete.congr rfl rfl rfl rfl
    have hsend : WarmSettled r ((s.completeZone z).send (.lightDemand z)) := by
      rw [send_lightDemand_rest (hcomplete.kept.atRest hr) z]
      split
      · exact hdemand
      · exact (hdemand.kept.withDemand z _).settled_passTaken
    exact hsend.congr rfl rfl rfl rfl
  · rw [warmZone_steady (by simpa using hz)]
    exact h.congr rfl rfl rfl rfl

theorem State.looks_get (s : State) (y : Fin 24) : s.looks[y] = s.zones[y].look := by
  simp [State.looks]

theorem State.onZone_looks_get (s : State) (z y : Fin 24) (f : Zone → Zone) :
    (s.onZone z f).looks[y] = if z = y then (f s.zones[z]).look else s.looks[y] := by
  rw [State.looks_get, State.looks_get]
  split
  · next h => subst h; exact congrArg Zone.look (s.onZone_same z f)
  · next h => exact congrArg Zone.look (s.onZone_other z y f h)

theorem warmZone_looks_get (s : State) (z y : Fin 24) :
    (warmZone s z).looks[y] = if z = y then s.looks[y].completed else s.looks[y] := by
  by_cases hz : s.zones[z].isFading = true
  · have hsend : ((s.completeZone z).send (.lightDemand z)).looks = (s.completeZone z).looks :=
      congrArg Prod.fst (settle_aspect (s.completeZone z, [.lightDemand z]) rfl)
    rw [warmZone_fading hz]
    refine (congrArg (·[y]) hsend).trans ((s.onZone_looks_get z y _).trans ?_)
    split
    · next h => subst h; rw [Zone.rescale_look, Zone.completed_look, State.looks_get]
    · rfl
  · have hsteady : s.zones[z].isFading = false := by simpa using hz
    rw [warmZone_steady hsteady]
    split
    · next h =>
      subst h
      rw [State.looks_get, State.looks_get, Zone.completed_of_steady (by rw [Zone.isFading_look]; exact hsteady)]
      rfl
    · rfl

/-- A steady zone, or another one, keeps its posted demand. -/
theorem warmZone_raw {s : State} (hs : s.atRest) {z y : Fin 24} (h : s.zones[y].isFading = false) :
    (warmZone s z).raw (lightSlot y) = s.raw (lightSlot y) := by
  by_cases hz : s.zones[z].isFading = true
  · have hne : z ≠ y := fun e => by subst e; rw [h] at hz; cases hz
    have hcomplete : (s.completeZone z).atRest := hs.congr rfl rfl
    rw [warmZone_fading hz]
    refine (?_ : ((s.completeZone z).send (.lightDemand z)).raw (lightSlot y) = _)
    rw [send_lightDemand_rest hcomplete z]
    split
    · rfl
    · rw [passTaken_raw, State.raw, State.withDemand_slot_other _ _ (fun e => hne (lightSlot_inj.1 e))]
      rfl
  · rw [warmZone_steady (by simpa using hz)]
    rfl

theorem warmZone_isFading {s : State} {z y : Fin 24} (h : s.zones[y].isFading = false) :
    (warmZone s z).zones[y].isFading = false := by
  rw [← Zone.isFading_look, ← State.looks_get, warmZone_looks_get]
  split
  · exact Zone.isFading_completed _
  · rw [State.looks_get, Zone.isFading_look, h]

/-! ## All zones -/

theorem foldl_warmZone_settled {r s : State} (hr : r.atRest) (h : WarmSettled r s) (l : List (Fin 24)) :
    WarmSettled r (l.foldl warmZone s) := by
  induction l generalizing s with
  | nil => exact h
  | cons z l ih => exact ih (warmZone_settled hr h z)

theorem foldl_warmZone_looks (s : State) (l : List (Fin 24)) (hl : l.Nodup) (y : Fin 24) :
    (l.foldl warmZone s).looks[y] = if y ∈ l then s.looks[y].completed else s.looks[y] := by
  induction l generalizing s with
  | nil => simp
  | cons z l ih =>
    obtain ⟨hz, hl⟩ := List.nodup_cons.1 hl
    rw [List.foldl_cons, ih _ hl, warmZone_looks_get]
    by_cases hy : z = y
    · subst hy
      simp [hz]
    · simp [hy, Ne.symm hy]

theorem foldl_warmZone_raw {r s : State} (hr : r.atRest) (h : WarmSettled r s) (l : List (Fin 24)) {y : Fin 24}
    (hy : s.zones[y].isFading = false) : (l.foldl warmZone s).raw (lightSlot y) = s.raw (lightSlot y) := by
  induction l generalizing s with
  | nil => rfl
  | cons z l ih =>
    rw [List.foldl_cons, ih (warmZone_settled hr h z) (warmZone_isFading hy)]
    exact warmZone_raw (h.kept.atRest hr) hy

/-- Where no zone fades, the zones only report. -/
theorem foldl_warmZone_ledger {s : State} (l : List (Fin 24)) (h : ∀ y : Fin 24, s.zones[y].isFading = false) :
    (l.foldl warmZone s).ledger = s.ledger := by
  induction l generalizing s with
  | nil => rfl
  | cons z l ih =>
    rw [List.foldl_cons, ih fun y => warmZone_isFading (h y), warmZone_steady (h z)]
    rfl

/-! ## The end of the reset -/

/-- The state that a WARM reset starts from, once a save in flight has ended. -/
def State.warmStart (s : State) : State := startWarm s.failSave

/-- The state after the first pass and the zones. -/
def State.warmZones (s : State) : State := allZones.foldl warmZone (s.warmStart.send .pass)

/-- A save in flight ends without success, and touches the stored image alone. -/
theorem failSave_eq (s : State) : ∃ (n : Nat) (store : Store), s.failSave = { s with freeIndex := n, store := store }
    ∧ store.saving = none ∧ store.defaulted = s.store.defaulted
    ∧ (s.store.saving = none → store.eeprom = s.store.eeprom) := by
  unfold State.failSave
  split
  · next h => exact ⟨s.freeIndex, s.store, rfl, h, rfl, fun _ => rfl⟩
  · next w h => exact ⟨_, _, rfl, rfl, rfl, fun h' => by rw [h'] at h; cases h⟩

theorem State.warmStart_atRest (s : State) : s.warmStart.atRest where
  current a := by cases a <;> rfl
  holds a := by cases a <;> rfl
  owner := rfl
  demand := by
    rw [State.raw, State.warmStart, startWarm_slot_cleared _ (.inr rfl)]

theorem State.warmZones_settled (s : State) : WarmSettled s.warmStart s.warmZones := by
  have hrest := s.warmStart_atRest
  refine foldl_warmZone_settled hrest ?_ allZones
  rw [send_pass_rest hrest]
  exact (WarmKept.refl _).settled_passTaken

/-- The START entry goes first, as report 0 (R177). -/
theorem kick_start {s : State} {content : List Byte} (hs : s.link.sending = none) (hr : s.link.replies = [])
    (hp : s.link.resetPending = none) (hf : s.link.reports.find? (·.key = .start) = some ⟨.start, content⟩) :
    ∃ l : Link, s.kick = { s with link := l } ∧ l.base = s.link.base ∧ l.replies = []
      ∧ l.sending.map (·.frame) = some { kind := 0xE0, tag := 0, payload := content } := by
  have hchoose : chooseReport s.link.reports = some ⟨.start, content⟩ := by rw [chooseReport, hf, Option.some_or]
  refine ⟨s.kick.link, ?_⟩
  unfold State.kick
  rw [hs, hr, hp, hchoose]
  exact ⟨rfl, by simp [Link.base, Link.quiet, State.transmit], hr, rfl⟩

theorem State.eq_of_core {s t : State} (h : t.core = s.core) : t = { s with link := t.link } :=
  congrArg (fun x : State => { x with link := t.link }) h

@[simp] theorem State.post_core (s : State) (key : ReportKey) (content : List Byte) : (s.post key content).core = s.core := rfl
@[simp] theorem State.reportAxis_core (s : State) (a : Axis) : (s.reportAxis a).core = s.core := rfl

@[simp] theorem endStartUp_core (s : State) : s.endStartUp.core = s.core := by
  simp [State.endStartUp, allAxes]

@[simp] theorem endStartUp_still (s : State) : s.endStartUp.still = s.still := by
  simp [State.endStartUp, allAxes]

/-- What START tells stands outside the Link Interface (R184). -/
theorem State.startContent_of_core {s t : State} (h : t.core = s.core) : t.startContent = s.startContent :=
  (congrArg State.startContent h : t.core.startContent = _)

/-- The last report of a start-up is START. -/
theorem endStartUp_start (s : State) :
    s.endStartUp.link.reports.find? (·.key = .start) = some ⟨.start, s.startContent⟩ := by
  have hcore : (allAxes.foldl State.reportAxis s).core = s.core := by simp [allAxes]
  rw [← State.startContent_of_core hcore]
  exact find_postTo_same ..

/-- A due WARM reset: the zones, then the permits, and START on the line. -/
theorem exec_warmReset_due {s : State} (h : s.resetDue .warm = true) :
    ∃ l : Link, exec .warmReset s = .next { s.warmZones with permits := s.warmZones.workedPermits, link := l }
      ∧ l.base = linkAtReset.base ∧ l.replies = []
      ∧ l.sending.map (·.frame) = some { kind := 0xE0, tag := 0, payload := s.warmZones.startContent } := by
  have hsettled := s.warmZones_settled
  have hrest := hsettled.kept.atRest s.warmStart_atRest
  have hpermits := send_evaluatePermits_rest hrest
  generalize hw : s.warmZones = w at hsettled hpermits ⊢
  have hexec : exec .warmReset s = .next (w.send .evaluatePermits).endStartUp.kick := by
    refine congrArg Host.Outcome.next (congrArg State.kick ?_)
    rw [h, if_pos rfl, ← hw]
    rfl
  rw [hexec, hpermits]
  have hlink := State.link_of_still ((endStartUp_still { w with permits := w.workedPermits }).trans hsettled.kept.still)
  have hcore := endStartUp_core { w with permits := w.workedPermits }
  have hfind := endStartUp_start { w with permits := w.workedPermits }
  generalize ({ w with permits := w.workedPermits } : State).endStartUp = e at hlink hcore hfind ⊢
  obtain ⟨l, hkick, hbase, hreplies, hstart⟩ := kick_start (congrArg Link.sending hlink) (congrArg Link.replies hlink)
    (congrArg Link.resetPending hlink) hfind
  have hstartBase : e.link.base = linkAtReset.base :=
    (congrArg Link.base hlink : ({ e.link with reports := [] } : Link).base = _)
  refine ⟨l, ?_, hbase.trans hstartBase, hreplies, hstart⟩
  rw [hkick, State.eq_of_core hcore]

/-! ## O51 -/

/-- The Budget's slots as the WARM reset hands them to its pass: the demands of pump and windlass are 0 (R26). -/
def State.withoutMotion (s : State) : State :=
  (s.onSlot pumpSlot fun k => { k with raw := 0, effective := 0 }).onSlot windlassSlot fun k => { k with raw := 0, effective := 0 }

/-- The grants and hold-offs of a pass follow from the ledger and the clock. -/
theorem afterPass_slots_congr {s t : State} (hl : t.ledger = s.ledger) (hn : t.now = s.now) :
    t.afterPass.budget.slots = s.afterPass.budget.slots := by
  have e (u : State) : u.afterPass.budget.slots
      = ({ State.reset with now := u.now, budget := u.ledger.1, config := u.ledger.2 } : State).afterPass.budget.slots := rfl
  rw [e t, e s, hl, hn]

theorem warmStart_ledger (s : State) : s.warmStart.ledger = s.withoutMotion.ledger := by
  obtain ⟨n, store, h, -⟩ := failSave_eq s
  rw [State.warmStart, h]
  rfl

theorem warmStart_grant (s : State) (k : Fin 52) : s.warmStart.budget.slots[k].grant = s.budget.slots[k].grant := by
  obtain ⟨n, store, h, -⟩ := failSave_eq s
  rw [State.warmStart, (startWarm_prepared _).grant, h]

theorem warmStart_holdOff (s : State) (k : Fin 52) :
    s.warmStart.budget.slots[k].holdOffEnds = s.budget.slots[k].holdOffEnds := by
  obtain ⟨n, store, h, -⟩ := failSave_eq s
  rw [State.warmStart, h]
  by_cases hk : k = pumpSlot ∨ k = windlassSlot
  · rw [startWarm_slot_cleared _ hk]
  · rw [startWarm_slot_other _ (fun e => hk (.inl e)) (fun e => hk (.inr e))]

theorem warmStart_raw (s : State) {k : Fin 52} (hp : k ≠ pumpSlot) (hw : k ≠ windlassSlot) :
    s.warmStart.raw k = s.raw k := by
  obtain ⟨n, store, h, -⟩ := failSave_eq s
  rw [State.raw, State.warmStart, h, startWarm_slot_other _ hp hw]
  rfl

theorem warmStart_raw_cleared (s : State) {k : Fin 52} (h : k = pumpSlot ∨ k = windlassSlot) : s.warmStart.raw k = 0 := by
  rw [State.raw, State.warmStart, startWarm_slot_cleared _ h]

theorem warmStart_zones (s : State) : s.warmStart.zones = s.zones := by
  obtain ⟨n, store, h, -⟩ := failSave_eq s
  rw [State.warmStart, h]
  rfl

/-! ### After the zones -/

theorem warmPass_looks (s : State) : (s.warmStart.send .pass).looks = s.looks := by
  rw [(send_follows s.warmStart rfl).2.1, State.looks, warmStart_zones]
  rfl

theorem warmPass_isFading (s : State) (y : Fin 24) : (s.warmStart.send .pass).zones[y].isFading = s.zones[y].isFading := by
  rw [← Zone.isFading_look, ← State.looks_get, warmPass_looks, State.looks_get, Zone.isFading_look]

theorem warmZones_looks (s : State) : s.warmZones.looks = s.looks.map Zone.completed := by
  apply Vector.ext
  intro i hi
  have h := foldl_warmZone_looks (s.warmStart.send .pass) allZones (List.nodup_finRange 24) ⟨i, hi⟩
  rw [if_pos (show (⟨i, hi⟩ : Fin 24) ∈ allZones from List.mem_finRange _), warmPass_looks] at h
  rw [Vector.getElem_map]
  exact h

theorem warmPass_settled (s : State) : WarmSettled s.warmStart (s.warmStart.send .pass) := by
  rw [send_pass_rest s.warmStart_atRest]
  exact (WarmKept.refl _).settled_passTaken

theorem warmZones_raw_light {s : State} {z : Fin 24} (h : s.zones[z].isFading = false) :
    s.warmZones.raw (lightSlot z) = s.raw (lightSlot z) := by
  refine (foldl_warmZone_raw s.warmStart_atRest (warmPass_settled s) allZones ((warmPass_isFading s z).trans h)).trans ?_
  rw [send_pass_rest s.warmStart_atRest, passTaken_raw]
  exact warmStart_raw s (pumpSlot_ne_lightSlot z).symm (windlassSlot_ne_lightSlot z).symm

/-- Where no zone fades, the Budget is that of the one pass. -/
theorem warmZones_ledger {s : State} (h : ∀ z : Fin 24, s.zones[z].isFading = false) :
    s.warmZones.ledger = s.warmStart.afterPass.ledger := by
  refine (foldl_warmZone_ledger allZones fun y => (warmPass_isFading s y).trans (h y)).trans ?_
  rw [send_pass_rest s.warmStart_atRest]
  exact passTaken_ledger _

theorem warmStart_afterPass_slots (s : State) :
    s.warmStart.afterPass.budget.slots = s.withoutMotion.afterPass.budget.slots := by
  refine afterPass_slots_congr (warmStart_ledger s) ?_
  obtain ⟨n, store, h, -⟩ := failSave_eq s
  rw [State.warmStart, h]
  rfl

/-- The held peak stands in HOLD mode, and is that of the history in NORMAL mode (R17, R11). -/
theorem State.passed.heldPeak {s : State} (h : s.passed) : s.budget.heldPeak = s.passPeak := by
  obtain ⟨-, -, -, hpeak, hheld, -⟩ := h
  exact hheld.trans hpeak

/-- HOLD mode keeps the held peak through the zones. -/
theorem warmZones_holdsPeak {s : State} (h : s.budget.mode = .hold) : s.warmZones.holdsPeak s.budget.heldPeak := by
  have hstart : s.warmStart.holdsPeak s.budget.heldPeak := by
    obtain ⟨n, store, e, -⟩ := failSave_eq s
    rw [State.warmStart, e]
    exact ⟨h, rfl⟩
  have hpass := send_holdsPeak .pass hstart
  unfold State.warmZones
  generalize s.warmStart.send .pass = t at hpass ⊢
  induction allZones generalizing t with
  | nil => exact hpass
  | cons z l ih =>
    refine ih _ ?_
    by_cases hz : t.zones[z].isFading = true
    · rw [warmZone_fading hz]
      exact send_holdsPeak (.lightDemand z) (s := t.completeZone z) hpass
    · rw [warmZone_steady (by simpa using hz)]
      exact hpass

/-- What a WARM reset's signals leave as its start has it. -/
theorem warmZones_fields (s : State) : s.warmZones.fixed = s.warmStart.fixed :=
  State.fixed_of_still s.warmZones_settled.kept.still

theorem warmZones_store (s : State) :
    s.warmZones.store.defaulted = s.store.defaulted ∧ s.warmZones.store.saving = none ∧ s.warmZones.store.lastReset = .warm
      ∧ (s.store.saving = none → s.warmZones.store.eeprom = s.store.eeprom) := by
  obtain ⟨-, -, -, -, -, -, -, -, -, -, -, -, -, -, hstore⟩ := State.fixed_fields (warmZones_fields s)
  obtain ⟨n, store, h, hsaving, hdefaulted, heeprom⟩ := failSave_eq s
  rw [hstore, State.warmStart, h]
  exact ⟨hdefaulted, hsaving, rfl, heeprom⟩

theorem warmZones_kept (s : State) :
    s.warmZones.config = s.config ∧ s.warmZones.inputs = s.inputs ∧ s.warmZones.sensors = s.sensors
      ∧ s.warmZones.gypsy.count = s.gypsy.count ∧ s.warmZones.vessel = s.vessel
      ∧ s.warmZones.frameDeadline = s.frameDeadline ∧ s.warmZones.budget.mode = s.budget.mode
      ∧ s.warmZones.budget.history = s.budget.history ∧ s.warmZones.budget.meterDeadline = s.budget.meterDeadline
      ∧ s.warmZones.panels = s.panels.map (·.warm s.now) := by
  obtain ⟨-, -, -, hconfig, hhistory, hmode, hmeter, hframe, hsensors, hcount, hinputs, hvessel, hpanels, -, -⟩ :=
    State.fixed_fields (warmZones_fields s)
  obtain ⟨n, store, h, -⟩ := failSave_eq s
  rw [State.warmStart, h] at hconfig hhistory hmode hmeter hframe hsensors hcount hinputs hvessel hpanels
  exact ⟨hconfig, hinputs, hsensors, hcount, hvessel, hframe, hmode, hhistory, hmeter, hpanels⟩

theorem State.fields_of_standing {s t : State} (h : t.standing = s.standing) :
    t.contexts = s.contexts ∧ t.queues = s.queues ∧ t.runs = s.runs ∧ t.chime = s.chime ∧ t.pump.owner = s.pump.owner
      ∧ t.pump.waiting = s.pump.waiting :=
  ⟨congrArg (fun x => x.1.contexts) h, congrArg (fun x => x.1.queues) h, congrArg (fun x => x.1.runs) h,
    congrArg (fun x => x.2.1) h, congrArg (fun x => x.2.2.1) h, congrArg (fun x => x.2.2.2) h⟩

/-- The axes, programs, notices and the pump as a WARM reset leaves them (R93, R117, R127, R135, R162). -/
theorem warmZones_standing (s : State) :
    s.warmZones.cue = cueStart ∧ s.warmZones.contexts = Vector.replicate 16 contextStart
      ∧ s.warmZones.queues = { hatch := [], platform := [], windlass := [] } ∧ s.warmZones.chime = chimeStart
      ∧ s.warmZones.runs = runsStart ∧ s.warmZones.pump.owner = none ∧ s.warmZones.pump.waiting = none
      ∧ ∀ a : Axis, s.warmZones.axis a = (s.axis a).warm := by
  have hkept := s.warmZones_settled.kept
  have hstanding : s.warmZones.standing = s.warmStart.standing := hkept.standing
  obtain ⟨n, store, h, -⟩ := failSave_eq s
  have haxes : s.warmStart.axes = { hatch := s.axes.hatch.warm, platform := s.axes.platform.warm, windlass := s.axes.windlass.warm } := by
    rw [State.warmStart, h]
    rfl
  obtain ⟨hcontexts, hqueues, hruns, hchime, howner, hwaiting⟩ := State.fields_of_standing hstanding
  refine ⟨hkept.cue, hcontexts, hqueues, hchime, hruns, howner, hwaiting, fun a => ?_⟩
  rw [State.axis, State.axes_of_standing hstanding, haxes]
  cases a <;> rfl

theorem warmZones_heldPeak (s : State) :
    s.warmZones.budget.heldPeak = if s.budget.mode = .hold then s.budget.heldPeak else s.budget.history.foldl max 0 := by
  split
  · next h => exact (warmZones_holdsPeak h).2
  · next h =>
    obtain ⟨-, -, -, -, -, -, hmode, hhistory, -⟩ := warmZones_kept s
    have hnormal : s.budget.mode = .normal := by cases hm : s.budget.mode <;> simp_all
    simp only [s.warmZones_settled.passed.heldPeak, State.passPeak, hmode, hhistory, hnormal, peakLoad]

/-- The numbers of the axes that hold a fault, as START tells them. -/
theorem State.startContent_warm {s : State} (h : s.store.lastReset = .warm) :
    s.startContent = u8 2 ++ u8 (if s.store.defaulted = true then 1 else 0)
      ++ bits (allAxes.map fun a => (s.axis a).fault.isSome) := by
  rw [State.startContent, h]
  cases s.store.defaulted <;> rfl

/-- The Budget's slots after the zones: the demands without owners and of the climate stand, every grant has been delivered,
and none has risen in HOLD mode. -/
theorem warmZones_slots (s : State) :
    (∀ k : Fin 52, 50 ≤ k.val → s.warmZones.raw k = s.raw k)
      ∧ (∀ z : Fin 24, s.warmZones.raw (climateSlot z) = s.raw (climateSlot z))
      ∧ s.warmZones.raw pumpSlot = 0 ∧ s.warmZones.raw windlassSlot = 0
      ∧ ∀ k : Fin 52, s.warmZones.budget.slots[k].delivered = s.warmZones.budget.slots[k].grant
        ∧ (s.budget.mode = .hold → s.warmZones.budget.slots[k].grant ≤ s.budget.slots[k].grant)
        ∧ (s.warmZones.budget.slots[k].holdOffEnds = s.budget.slots[k].holdOffEnds
          ∨ (24 ≤ k.val ∧ s.config.slots[k].holdOff ≠ 0
              ∧ s.warmZones.budget.slots[k].holdOffEnds = some (s.now + 1000 * s.config.slots[k].holdOff))) := by
  obtain ⟨hkept, -, hdelivered⟩ := s.warmZones_settled
  obtain ⟨-, -, -, -, -, -, hmode, -⟩ := warmZones_kept s
  have hstart : s.warmStart.now = s.now ∧ s.warmStart.config = s.config := by
    obtain ⟨n, store, h, -⟩ := failSave_eq s
    rw [State.warmStart, h]
    exact ⟨rfl, rfl⟩
  refine ⟨fun k hk => ?_, fun z => ?_, ?_, ?_, fun k => ⟨hdelivered k, fun hm => ?_, ?_⟩⟩
  · rw [hkept.raw k (by omega)]
    exact warmStart_raw s (fun e => by subst e; exact absurd hk (by decide)) (fun e => by subst e; exact absurd hk (by decide))
  · rw [hkept.raw _ (by simp [climateSlot])]
    exact warmStart_raw s (pumpSlot_ne_climateSlot z).symm (windlassSlot_ne_climateSlot z).symm
  · rw [hkept.raw _ (by decide), warmStart_raw_cleared s (.inl rfl)]
  · rw [hkept.raw _ (by decide), warmStart_raw_cleared s (.inr rfl)]
  · exact (hkept.grant (hmode.trans hm) k).trans_eq (warmStart_grant s k)
  · have h := hkept.holdOff k
    rw [State.holdOffKept, warmStart_holdOff, hstart.1, hstart.2] at h
    exact h

theorem State.passNumber_of_ledger {s t : State} (h : t.ledger = s.ledger) : t.budget.passNumber = s.budget.passNumber :=
  congrArg (fun x => x.1.passNumber) h

/-- Where no zone fades there is one pass, on the slots as they stand without pump and windlass. -/
theorem warmZones_onePass {s : State} (h : ∀ z : Fin 24, s.zones[z].isFading = false) :
    s.warmZones.budget.passNumber = (s.budget.passNumber + 1) % 65536
      ∧ s.warmZones.budget.slots = s.withoutMotion.afterPass.budget.slots := by
  have hledger := warmZones_ledger h
  refine ⟨(State.passNumber_of_ledger hledger).trans ?_,
    (State.slots_of_ledger hledger).trans (warmStart_afterPass_slots s)⟩
  refine (State.afterPass_passNumber _).trans ?_
  obtain ⟨n, store, e, -⟩ := failSave_eq s
  rw [State.warmStart, e]
  rfl

/-- Settles O51: at rest the WARM reset's passes, zones and permits are told outright. -/
theorem warmResetKeepsTheConfiguration : Obligations.WarmResetKeepsTheConfiguration := by
  intro s
  by_cases hdue : s.link.resetPending = some .warm ∧ s.link.sending = none ∧ s.link.replies = []
  swap
  · refine ⟨s.kick, ?_, ?_⟩
    · have hd : s.resetDue .warm = false := by simpa [State.resetDue] using hdue
      refine congrArg Host.Outcome.next (congrArg State.kick ?_)
      rw [hd]
      rfl
    · rw [if_pos hdue]
      exact kick_becomes s
  obtain ⟨l, hexec, hbase, hreplies, hstart⟩ := exec_warmReset_due (s := s) (decide_eq_true hdue)
  refine ⟨_, hexec, ?_⟩
  rw [if_neg (not_not_intro hdue)]
  obtain ⟨hconfig, hinputs, hsensors, hcount, hvessel, hframe, hmode, hhistory, hmeter, hpanels⟩ := warmZones_kept s
  obtain ⟨hdefaulted, hsaving, hreset, heeprom⟩ := warmZones_store s
  obtain ⟨haux, hclimate, hpump, hwindlass, hslots⟩ := warmZones_slots s
  obtain ⟨hcue, hcontexts, hqueues, hchime, hruns, howner, hwaiting, haxes⟩ := warmZones_standing s
  have hpassed := s.warmZones_settled.passed
  have hheld := warmZones_heldPeak s
  have hlooks := warmZones_looks s
  have hlight (z : Fin 24) (hz : ∀ i : Fin 4, s.zones[z].channels[i].fading = false) :
      s.warmZones.raw (lightSlot z) = s.raw (lightSlot z) := warmZones_raw_light ((Zone.isFading_eq_false _).2 hz)
  have hone (hz : ∀ z : Fin 24, ∀ i : Fin 4, s.zones[z].channels[i].fading = false) :=
    warmZones_onePass fun z => (Zone.isFading_eq_false _).2 (hz z)
  rw [State.startContent_warm hreset] at hstart
  clear hexec
  generalize s.warmZones = w at *
  refine ⟨hconfig, hinputs, hsensors, hcount, hvessel, hframe, hdefaulted, hsaving, hreset, heeprom, hmode, hhistory, hmeter,
    hpump, hwindlass, State.passed_congr (s := w) rfl rfl hpassed, hheld, ⟨haux, fun z => ⟨hclimate z, fun _ => hlight z⟩,
      hslots, fun hz => ?_⟩, hcue, hcontexts, fun a => ?_, hchime, hruns, howner, hwaiting, fun _ => rfl, hpanels, haxes,
    hlooks, congrArg Link.receiving hbase, congrArg Link.gathered hbase, congrArg Link.buffer hbase, hreplies,
    congrArg Link.saveTag hbase, congrArg Link.silenceDeadline hbase, congrArg Link.resetPending hbase, hstart⟩
  · obtain ⟨hnumber, honly⟩ := hone hz
    refine ⟨hnumber, fun k => ?_⟩
    rw [honly]
    exact ⟨rfl, rfl⟩
  · rw [State.queue]
    simp only [hqueues]
    cases a <;> rfl

end Sys2Proof.Machine
end

section
/-! O18 is refuted: `State.demandLaw` and `State.queueLaw` do not say that a MOVING axis holds a current step. -/

namespace Sys2Proof.Machine

/-! ## The demand of a windlass that moves without a current step -/

/-- The windlass in MOVING without a current step, its rating posted, and the head context of its queue ACTIVE for LINK; a
PAUSE_PROGRAM of that context waits. No run reaches it, but the laws of demands and queues allow it. -/
def stepless : State :=
  let s := State.reset
  { (s.onSlot windlassSlot fun k => { k with raw := 850, effective := 850 }) with
    pending := [.pauseProgram 0 0],
    axes := s.axes.set .windlass { axisStart with state := .moving },
    contexts := s.contexts.set 0 (openedContext .active .link .windlass),
    queues := s.queues.set .windlass [0] }

theorem stepless_demandLaw : stepless.demandLaw := by
  intro _
  refine ⟨by decide +kernel, by decide +kernel, by decide +kernel⟩

theorem stepless_headLaw : stepless.headLaw := by
  refine ⟨fun a c => ?_, fun a => ?_, fun a x h => ?_⟩
  · cases a <;> revert c <;> decide +kernel
  · cases a <;> decide +kernel
  · cases a <;> cases h

theorem stepless_queueLaw : stepless.queueLaw := by
  refine ⟨fun a => ?_, fun c a => ?_, by decide +kernel, by decide +kernel, fun c a => ?_, fun _ => stepless_headLaw⟩
  · cases a <;> decide +kernel
  · cases a <;> revert c <;> decide +kernel
  · cases a <;> revert c <;> decide +kernel

/-- The state that the pause leaves: the windlass has gone to STOPPING. -/
def steplessPaused : State := (takePauseProgram 0 0 { stepless with pending := [] }).kick

theorem step_stepless : step stepless = .next steplessPaused := rfl

/-- STOPPING without a current step executes no program, while the rating still stands on the slot. -/
theorem steplessPaused_demand :
    steplessPaused.unsettled = false ∧ steplessPaused.axes.windlass.takesReason = false
      ∧ steplessPaused.raw windlassSlot = 850 := by decide +kernel

/-- Refutes O18: PAUSE_PROGRAM takes a windlass that moves without a current step to STOPPING, where it executes no
program any more, and nothing withdraws its demand. -/
theorem not_demandsFollowTheirOwners : ¬ Obligations.DemandsFollowTheirOwners := by
  intro h
  obtain ⟨hlaw, -⟩ := h stepless steplessPaused ⟨stepless_demandLaw, stepless_queueLaw⟩ step_stepless
  obtain ⟨hsettled, hidle, hraw⟩ := steplessPaused_demand
  obtain ⟨-, -, hwindlass⟩ := hlaw hsettled
  simp [hraw, hidle] at hwindlass

end Sys2Proof.Machine
end

section
/-! What the zones keep along a step, said once for every law of single zones (`ZoneLaw`): a law that the level changes, the
demands and the grants of one zone keep is kept by every signal, and so by every step. A level change may leave a zone short of
the law only until the lighting demand that it sends. -/

namespace Sys2Proof.Machine

/-! ## Laws of single zones -/

/-- `y` is `z` after level, mode and setpoint changes or frames: its climate record is that of `z`, and every channel that was on
its fade still is. -/
def Zone.relit (z y : Zone) : Prop := y.climate = z.climate ∧ ∀ i : Fin 4, z.channels[i].onFade → y.channels[i].onFade

/-- A zone after its lighting demand has been computed (R32, R33). -/
def Zone.demanded (c : ZoneConfig) (z : Zone) : Zone :=
  ({ z with demand := lightingDemand c.rated z.channels } : Zone).rescale

/-- A zone after a new configuration: new stage currents set the running stage (R38). -/
def Zone.restaged (before c : ZoneConfig) (z : Zone) : Zone :=
  if before.stageCurrents = c.stageCurrents then z else z.rerun c

/-- A law of single zones: `good` is the law, and `loose` is what stays of it between a level change and the lighting demand that
follows. Where `strict` holds no zone is ever loose. -/
structure ZoneLaw where
  good : ZoneConfig → Zone → Prop
  loose : Zone → Prop
  strict : Prop
  never : strict → ∀ z, ¬ loose z
  start : ∀ c, good c zoneStart
  relit_good : ∀ {c z y}, z.relit y → good c z → good c y ∨ loose y
  relit_loose : ∀ {z y}, z.relit y → loose z → loose y
  demanded : ∀ {c z}, good c z ∨ loose z → good c (z.demanded c)
  workOut_good : ∀ {c z}, good c z → good c (z.workOut c)
  workOut_loose : ∀ {c z}, loose z → loose (z.workOut c)
  light_good : ∀ {c z} (g : Nat), good c z → good c ({ z with lightGrant := g } : Zone).rescale
  light_loose : ∀ {z} (g : Nat), loose z → loose ({ z with lightGrant := g } : Zone).rescale
  climate_good : ∀ {c z} (g : Nat), good c z → good c (({ z with climate := { z.climate with grant := g } } : Zone).rerun c)
  climate_loose : ∀ {c z} (g : Nat), loose z → loose (({ z with climate := { z.climate with grant := g } } : Zone).rerun c)
  sampled : ∀ {c z} (k : Climate), k.demanded = z.climate.demanded → k.running = z.climate.running →
    k.grant = z.climate.grant → good c z → good c { z with climate := k }
  frame : ∀ {c z}, good c z → good c z.frame
  setpoint : ∀ {c z} (v : Nat), good c z → good c (z.changeSetpoint v)
  stored : ∀ {c c' z}, good c z → good c' (z.restaged c c') ∨ (c.rated ≠ c'.rated ∧ loose (z.restaged c c'))

/-- A zone meets the law, or is loose with its lighting demand among these signals. -/
def ZoneLaw.owes (L : ZoneLaw) (l : List Signal) (s : State) (z : Fin 24) : Prop :=
  L.good s.config.zones[z] s.zones[z] ∨ (L.loose s.zones[z] ∧ .lightDemand z ∈ l)

/-- Every zone meets the law or owes its lighting demand. -/
def ZoneLaw.waits (L : ZoneLaw) (l : List Signal) (s : State) : Prop := ∀ z : Fin 24, L.owes l s z

/-- Every zone meets the law, unless the law is not strict and a step has outrun its bound of signals. -/
def ZoneLaw.holds (L : ZoneLaw) (s : State) : Prop :=
  s.unsettled = false ∨ L.strict → ∀ z : Fin 24, L.good s.config.zones[z] s.zones[z]

variable {L : ZoneLaw}

theorem ZoneLaw.waits_nil {s : State} : L.waits [] s ↔ ∀ z : Fin 24, L.good s.config.zones[z] s.zones[z] :=
  ⟨fun h z => (h z).resolve_right (by simp), fun h z => .inl (h z)⟩

theorem ZoneLaw.owes.mono {l l' : List Signal} {s : State} {z : Fin 24} (h : L.owes l s z)
    (hl : .lightDemand z ∈ l → .lightDemand z ∈ l') : L.owes l' s z := h.imp_right fun ⟨hz, hm⟩ => ⟨hz, hl hm⟩

/-- Whether a zone owes its demand is told by its record and its configuration. -/
theorem ZoneLaw.owes.congr {l : List Signal} {s t : State} {z : Fin 24} (h : L.owes l s z) (hz : t.zones[z] = s.zones[z])
    (hc : t.config.zones = s.config.zones) : L.owes l t z := by
  unfold ZoneLaw.owes at *
  rwa [hz, hc]

/-- One zone acts: the others, whose demands still wait, are left alone. -/
theorem ZoneLaw.waits.one {l l' : List Signal} {s t : State} (h : L.waits l s) (z : Fin 24) (hz : L.owes l' t z)
    (hc : t.config.zones = s.config.zones) (ho : ∀ y : Fin 24, z ≠ y → t.zones[y] = s.zones[y])
    (hl : ∀ y : Fin 24, z ≠ y → .lightDemand y ∈ l → .lightDemand y ∈ l') : L.waits l' t := by
  intro y
  rcases eq_or_ne z y with rfl | hy
  · exact hz
  · exact ((h y).mono (hl y hy)).congr (ho y hy) hc

/-- No zone acts. -/
theorem ZoneLaw.waits.none {l l' : List Signal} {s t : State} (h : L.waits l s) (hz : t.zones = s.zones)
    (hc : t.config.zones = s.config.zones) (hl : ∀ y : Fin 24, .lightDemand y ∈ l → .lightDemand y ∈ l') : L.waits l' t :=
  fun y => ((h y).mono (hl y)).congr (by rw [hz]) hc

/-! ## Level, mode and setpoint changes -/

theorem Zone.relit.refl (z : Zone) : z.relit z := ⟨rfl, fun _ h => h⟩

theorem Zone.relit.trans {x y z : Zone} (h : x.relit y) (h' : y.relit z) : x.relit z :=
  ⟨h'.1.trans h.1, fun i hi => h'.2 i (h.2 i hi)⟩

/-- A change of each channel that leaves it on its fade. -/
theorem Zone.onChannels_relit (z : Zone) (f : Fin 4 → Channel → Channel) (h : ∀ i c, c.onFade → (f i c).onFade) :
    z.relit (z.onChannels f) := by
  refine ⟨rfl, fun i hi => ?_⟩
  simpa [Zone.onChannels] using h i _ hi

/-- A level change starts a fade at the present level, or ends it there. -/
theorem Channel.changeLevel_onFade (mode : ZoneMode) (l fade : Nat) (c : Channel) : (c.changeLevel mode l fade).onFade := by
  unfold Channel.changeLevel
  simp only
  split
  · simp [Channel.onFade]
  · simp [Channel.onFade]

/-- A channel that may take a level change stays on its fade. -/
theorem Channel.relevel_onFade (p : Prop) [Decidable p] (mode : ZoneMode) (l fade : Nat) {c : Channel} (h : c.onFade) :
    (if p then c.changeLevel mode l fade else c).onFade := by
  split
  · exact c.changeLevel_onFade mode l fade
  · exact h

theorem Channel.advance_onFade {c : Channel} (h : c.onFade) : c.advance.onFade := by
  unfold Channel.advance
  split
  · simp only
    split
    · simp [Channel.onFade]
    · next hf hk => simp [Channel.onFade, hf, Nat.lt_of_not_le hk]
  · exact h

theorem Channel.complete_onFade {c : Channel} (h : c.onFade) : c.complete.onFade := by
  unfold Channel.complete
  split
  · simp [Channel.onFade]
  · exact h

theorem Zone.rescale_relit (z : Zone) : z.relit z.rescale := z.onChannels_relit _ fun _ _ h => h

theorem Zone.changeLevels_relit (l : Vector (Option Nat) 4) (fade : Nat) (z : Zone) : z.relit (z.changeLevels l fade) := by
  refine z.onChannels_relit _ fun i c h => ?_
  split
  · exact c.changeLevel_onFade ..
  · exact h

theorem Zone.enterMode_relit (mode : ZoneMode) (z : Zone) : z.relit (z.enterMode mode) := by
  have moded : z.relit { z with mode } := ⟨rfl, fun _ h => h⟩
  cases mode with
  | occupied => exact moded
  | eco => exact moded.trans (Zone.onChannels_relit _ (fun _ c => if 600 < c.target then c.changeLevel .eco 600 3000 else c)
      fun _ _ h => Channel.relevel_onFade _ _ _ _ h)
  | vacant => exact moded.trans (Zone.onChannels_relit _ (fun _ c => if c.target ≠ 0 then c.changeLevel .vacant 0 3000 else c)
      fun _ _ h => Channel.relevel_onFade _ _ _ _ h)

theorem Zone.changeMode_relit (v : Nat) (z : Zone) : z.relit (z.changeMode v) := by
  unfold Zone.changeMode
  split
  · split
    · exact .refl z
    · exact z.enterMode_relit _
  · exact .refl z

theorem Zone.changeSetpoint_relit (v : Nat) (z : Zone) : z.relit (z.changeSetpoint v) := ⟨rfl, fun _ h => h⟩

theorem Zone.recall_relit (r : Scene) (z : Zone) : z.relit (z.recall r) := by
  have moded : z.relit (match r.mode with | some m => z.changeMode m | none => z) := by
    cases r.mode with
    | none => exact .refl z
    | some m => exact z.changeMode_relit m
  have lit := moded.trans (Zone.changeLevels_relit r.levels r.fade _)
  unfold Zone.recall
  cases r.setpoint with
  | none => exact lit
  | some v => exact lit.trans (Zone.changeSetpoint_relit v _)

theorem Zone.stepLevels_relit (f : Nat → Nat) (z : Zone) : z.relit (z.stepLevels f) := by
  refine z.onChannels_relit _ fun i c h => ?_
  split
  · exact h
  · exact c.changeLevel_onFade ..

/-- Where no channel's target steps, none takes a level change. -/
theorem Zone.stepLevels_of_none {f : Nat → Nat} {z : Zone} (h : (z.channels.toList.any fun c => f c.target != c.target) = false) :
    z.stepLevels f = z := by
  have hid (i : Fin 4) : f z.channels[i].target = z.channels[i].target := by
    simpa using List.any_eq_false.1 h z.channels[i] (by simp)
  simp only [Zone.stepLevels, Zone.onChannels, hid, if_true]
  congr 1
  apply Vector.ext
  intro i hi
  simp

theorem CueChange.apply_relit (scenes : Vector Scene 32) (c : CueChange) (z : Zone) : z.relit (c.apply scenes z) := by
  cases c with
  | scene n => exact z.recall_relit _
  | levels l fade => exact z.changeLevels_relit l fade
  | setpoint v => exact z.changeSetpoint_relit v
  | mode v => exact z.changeMode_relit v

/-- A value that leaves the mode leaves the zone (R34). -/
theorem Zone.changeMode_of_mode {v : Nat} {z : Zone} (h : (z.changeMode v).mode = z.mode) : z.changeMode v = z := by
  unfold Zone.changeMode at *
  split
  · next m _ =>
    split
    · rfl
    · next hm =>
      have henter : (z.enterMode m).mode = m := by cases m <;> rfl
      simp only [*, if_false] at h
  · rfl

/-! ## Zones at a cue -/

/-- The zones after the entries of a cue: each as it was or relit, and a zone that no entry names as it was. -/
theorem applyEntries_get (scenes : Vector Scene 32) (entries : List CueEntry) (zones : Vector Zone 24) (y : Fin 24) :
    zones[y].relit (applyEntries scenes entries zones)[y]
      ∧ ((∀ e ∈ entries, e.zone ≠ y) → (applyEntries scenes entries zones)[y] = zones[y]) := by
  unfold applyEntries
  induction entries generalizing zones with
  | nil => exact ⟨.refl _, fun _ => rfl⟩
  | cons e rest ih =>
    obtain ⟨hrelit, hother⟩ := ih (zones.set e.zone (e.change.apply scenes zones[e.zone]))
    rw [List.foldl_cons]
    by_cases he : e.zone = y
    · subst he
      rw [Fin.getElem_fin, Vector.getElem_set_self] at hrelit
      exact ⟨(CueChange.apply_relit scenes e.change _).trans hrelit, fun h => absurd rfl (h e (by simp))⟩
    · have hset : (zones.set e.zone (e.change.apply scenes zones[e.zone]))[y] = zones[y] := by
        simp [Fin.val_ne_of_ne he]
      rw [hset] at hrelit hother
      exact ⟨hrelit, fun h => hother fun x hx => h x (by simp [hx])⟩

theorem mem_namedZones (entries : List CueEntry) (z : Fin 24) : z ∈ namedZones entries ↔ ∃ e ∈ entries, e.zone = z := by
  simp [namedZones, allZones]

/-- The lighting demand is the first signal with which a zone settles after level changes. -/
theorem mem_settleZone (z : Fin 24) (before after : Zone) : .lightDemand z ∈ settleZone true z before after := by
  simp [settleZone]

end Sys2Proof.Machine
end

section
/-! The signals of a step keep a law of single zones: most leave every zone alone, and those that act on one send its lighting
demand after every level change. -/

namespace Sys2Proof.Machine

variable {L : ZoneLaw}

/-! ## Signals that leave the zones -/

/-- The signals that act on zones by themselves. -/
def Signal.zonal : Signal → Bool
  | .lightDemand _ | .climateWork _ | .cueFrame | .press _ _ => true
  | _ => false

/-- Every other signal leaves the zones. -/
theorem handle_zones (x : Signal) (h : x.zonal = false) (s : State) : (handle x s).1.zones = s.zones := by
  have indoor {t : State} (e : t.indoor = s.indoor) : t.zones = s.zones := congrArg Prod.fst e
  cases x with
  | lightDemand z => cases h
  | climateWork z => cases h
  | cueFrame => cases h
  | press p t => cases h
  | post k d => simp only [handle]; unfold postDemand; split <;> rfl
  | pass => exact indoor (State.afterPass_indoor s)
  | passEnd => rfl
  | cueApplied m n l => rfl
  | reportZone z b => exact indoor (reportZoneChange_indoor _ _ _)
  | takeUp a => exact indoor (takeUp_indoor _ _)
  | endEntry a => exact indoor (endEntry_indoor _ _)
  | testGates a => exact indoor (testGates_indoor _ _)
  | endDwell a => exact indoor (endDwell_indoor _ _)
  | addHold a r => exact indoor (addHold_indoor _ _ _)
  | removeHold a r => exact indoor (removeHold_indoor _ _ _)
  | travelled a b => exact indoor (travelled_indoor _ _ _)
  | fault a k => exact indoor (fault_indoor _ _ _)
  | reportFault a k p => exact indoor (reportFault_indoor _ _ _ _)
  | reportAxis a => rfl
  | endProgram c e => exact indoor (endProgram_indoor _ _ _)
  | freeContext c e => exact indoor (freeContext_indoor _ _ _)
  | evaluatePermits => rfl
  | deliverPermit a d v => exact indoor (deliverPermit_indoor _ _ _ _)
  | requestPump h => exact indoor (requestPump_indoor _ _)
  | releasePump h => exact indoor (releasePump_indoor _ _)
  | handOver => exact indoor (handOver_indoor _)
  | release p t => exact indoor (release_indoor _ _ _)
  | actionResult p r c => exact indoor (actionResult_indoor _ _ _ _)

theorem settle_zoneConfigs {s t : State} (h : t.still = s.still) : t.config.zones = s.config.zones :=
  congrArg Configuration.zones (State.config_of_still h)

/-! ## Signals that act on one zone -/

/-- The state that a change of one zone leaves, whatever the change. -/
theorem ZoneLaw.waits.onZone {l l' : List Signal} {s : State} (h : L.waits l s) (z : Fin 24) (f : Zone → Zone)
    (hz : L.good s.config.zones[z] (f s.zones[z]) ∨ (L.loose (f s.zones[z]) ∧ .lightDemand z ∈ l'))
    (hl : ∀ y : Fin 24, z ≠ y → .lightDemand y ∈ l → .lightDemand y ∈ l') : L.waits l' (s.onZone z f) := by
  refine h.one z ?_ rfl (fun y => s.onZone_other z y f) hl
  unfold ZoneLaw.owes
  rwa [State.onZone_same]

/-- A zone that keeps what it meets. -/
theorem ZoneLaw.waits.keepZone {l : List Signal} {s : State} (h : L.waits l s) (z : Fin 24) (f : Zone → Zone)
    (hg : L.good s.config.zones[z] s.zones[z] → L.good s.config.zones[z] (f s.zones[z]))
    (hloose : L.loose s.zones[z] → L.loose (f s.zones[z])) : L.waits l (s.onZone z f) :=
  h.onZone z f ((h z).imp hg (And.imp_left hloose)) fun _ _ => id

/-- A zone that takes level changes: it may be loose until the demand that it sends. -/
theorem ZoneLaw.waits.relitZone {l : List Signal} {s : State} (h : L.waits l s) (z : Fin 24) (f : Zone → Zone)
    (hf : s.zones[z].relit (f s.zones[z])) (hz : .lightDemand z ∈ l) : L.waits l (s.onZone z f) :=
  h.onZone z f ((h z).elim (fun hg => (L.relit_good hf hg).imp_right fun hl => ⟨hl, hz⟩)
    fun ⟨hl, _⟩ => .inr ⟨L.relit_loose hf hl, hz⟩) fun _ _ => id

/-- One event of a zone keeps the law when its demand follows wherever its levels change. -/
theorem ZoneLaw.waits.changeZone {l : List Signal} {s : State} (h : L.waits l s) (lighting : Bool) (z : Fin 24)
    (f : Zone → Zone) (hrelit : s.zones[z].relit (f s.zones[z]))
    (hdark : lighting = false → ∃ v, f s.zones[z] = s.zones[z] ∨ f s.zones[z] = s.zones[z].changeSetpoint v) :
    L.waits ((changeZone lighting z f s).2 ++ l) (changeZone lighting z f s).1 := by
  have hmore : L.waits ((Machine.changeZone lighting z f s).2 ++ l) s :=
    fun y => (h y).mono (by simp +contextual)
  cases lighting with
  | true => exact hmore.relitZone z _ hrelit (by simp [Machine.changeZone, mem_settleZone])
  | false =>
    obtain ⟨v, e | e⟩ := hdark rfl
    · exact hmore.keepZone z _ (fun hg => by rwa [e]) fun hl => by rwa [e]
    · exact hmore.keepZone z _ (fun hg => by rw [e]; exact L.setpoint v hg)
        fun hl => by rw [e]; exact L.relit_loose (Zone.changeSetpoint_relit v _) hl

theorem ZoneLaw.waits.recallScene {l : List Signal} {s : State} (h : L.waits l s) (z : Fin 24) (n : Fin 32) :
    L.waits ((recallScene z n s).2 ++ l) (recallScene z n s).1 := by
  unfold Machine.recallScene
  simp only
  split
  · exact h
  · exact h.changeZone true z _ (Zone.recall_relit _ _) (by simp)

theorem ZoneLaw.waits.modeEvent {l : List Signal} {s : State} (h : L.waits l s) (z : Fin 24) (v : Nat) :
    L.waits ((modeEvent z v s).2 ++ l) (modeEvent z v s).1 := by
  refine h.changeZone _ z _ (Zone.changeMode_relit v _) fun hdark => ⟨0, .inl ?_⟩
  exact Zone.changeMode_of_mode (by simpa using hdark)

theorem ZoneLaw.waits.setpointEvent {l : List Signal} {s : State} (h : L.waits l s) (z : Fin 24) (v : Nat) :
    L.waits ((setpointEvent z v s).2 ++ l) (setpointEvent z v s).1 :=
  h.changeZone false z _ (Zone.changeSetpoint_relit v _) fun _ => ⟨v, .inr rfl⟩

theorem ZoneLaw.waits.stepEvent {l : List Signal} {s : State} (h : L.waits l s) (z : Fin 24) (f : Nat → Nat) :
    L.waits ((stepEvent z f s).2 ++ l) (stepEvent z f s).1 :=
  h.changeZone _ z _ (Zone.stepLevels_relit f _) fun hdark => ⟨0, .inl (Zone.stepLevels_of_none hdark)⟩

theorem ZoneLaw.waits.levelsEvent {l : List Signal} {s : State} (h : L.waits l s) (z : Fin 24)
    (levels : Vector (Option Nat) 4) (fade : Nat) :
    L.waits ((levelsEvent z levels fade s).2 ++ l) (levelsEvent z levels fade s).1 := by
  unfold Machine.levelsEvent
  split
  · exact h
  · exact h.changeZone true z _ (Zone.changeLevels_relit _ _ _) (by simp)

theorem ZoneLaw.waits.zoneAction {l : List Signal} {s : State} (h : L.waits l s) (z : Fin 24) (b : Binding) :
    L.waits ((zoneAction z b s).2 ++ l) (zoneAction z b s).1 := by
  unfold Machine.zoneAction
  split
  · split
    · exact h.recallScene z _
    · exact h
  · exact h.stepEvent z _
  · exact h.stepEvent z _
  · exact h.setpointEvent z _
  · exact h.setpointEvent z _
  · exact h.modeEvent z _
  all_goals exact h

/-- A list of more signals keeps what is owed. -/
theorem ZoneLaw.waits.append {l : List Signal} {s : State} (h : L.waits l s) (more : List Signal) : L.waits (more ++ l) s :=
  h.none rfl rfl (by simp +contextual)

theorem ZoneLaw.waits.dispatchZone {l : List Signal} {s : State} (h : L.waits l s) (p : Fin 12) (t : Nat) (b : Binding) :
    L.waits ((dispatchZone p t b s).2 ++ l) (dispatchZone p t b s).1 := by
  unfold Machine.dispatchZone
  simp only
  split
  · rw [List.append_assoc]
    exact (h.append _).zoneAction _ b
  · exact h.append _

theorem dispatchGoto_zones (p : Fin 12) (t : Nat) (b : Binding) (s : State) : (dispatchGoto p t b s).1.zones = s.zones := by
  have hstart (c : Fin 16) (a : Axis) (x y : Int) : (startPanel c p a x y s).1.zones = s.zones :=
    congrArg Prod.fst (show (startPanel c p a x y s).1.indoor = s.indoor by simp [startPanel])
  unfold dispatchGoto
  simp only
  split
  · rfl
  · split
    · rfl
    · split
      · rfl
      · rfl
      · split <;> exact hstart ..

theorem ZoneLaw.waits.press {l : List Signal} {s : State} (h : L.waits l s) (p : Fin 12) (t : Nat) :
    L.waits ((press p t s).2 ++ l) (press p t s).1 := by
  have other {k : Handled} (hk : k.1.zones = s.zones) (hc : k.1.config.zones = s.config.zones) : L.waits (k.2 ++ l) k.1 :=
    (h.append _).none hk hc fun _ => id
  have hconfig {k : Handled} (e : k.1.still = s.still) : k.1.config.zones = s.config.zones := settle_zoneConfigs e
  unfold Machine.press
  split
  · unfold resumePress
    simp only
    split <;> exact other rfl rfl
  · simp only
    split
    · exact h
    · refine other (congrArg Prod.fst (?_ : (dispatchAck p t s).1.indoor = s.indoor)) (hconfig (dispatchAck_still ..))
      simp only [dispatchAck]
      split <;> simp
    · exact other rfl rfl
    · exact other (dispatchGoto_zones ..) (hconfig (dispatchGoto_still ..))
    all_goals exact h.dispatchZone p t _

/-! ## The output frame's cue -/

theorem ZoneLaw.waits.applyCue {l : List Signal} {s : State} (h : L.waits l s) (m : CommitMode) (late : Bool) :
    L.waits ((applyCue m late s).2 ++ l) (applyCue m late s).1 := by
  intro y
  obtain ⟨hrelit, hother⟩ := applyEntries_get s.config.scenes s.cue.entries s.zones y
  by_cases hy : ∃ e ∈ s.cue.entries, e.zone = y
  · have hmem : .lightDemand y ∈ (Machine.applyCue m late s).2 ++ l := by
      simp only [Machine.applyCue, List.mem_append, List.mem_flatMap]
      exact .inl (.inl ⟨y, (mem_namedZones _ y).2 hy, mem_settleZone ..⟩)
    rcases h y with hg | ⟨hl, -⟩
    · exact (L.relit_good hrelit hg).imp_right fun hl => ⟨hl, hmem⟩
    · exact .inr ⟨L.relit_loose hrelit hl, hmem⟩
  · refine ((h.append _) y).congr (hother ?_) rfl
    exact fun e he hz => hy ⟨e, he, hz⟩

theorem ZoneLaw.waits.cueFrame {l : List Signal} {s : State} (h : L.waits l s) :
    L.waits ((cueFrame s).2 ++ l) (cueFrame s).1 := by
  have hcount : L.waits l { s with cue := { s.cue with framesWaited := min 3100 (s.cue.framesWaited + 1) } } :=
    h.none rfl rfl fun _ => id
  unfold Machine.cueFrame
  split
  · exact h
  · simp only
    split
    · exact hcount.applyCue _ _
    · split
      · exact hcount.applyCue _ _
      · split
        · exact hcount
        · exact hcount.applyCue _ _

/-! ## Turns and runs -/

theorem ZoneLaw.waits.lightDemand {l : List Signal} {s : State} (z : Fin 24) (h : L.waits (.lightDemand z :: l) s) :
    L.waits ((lightDemand z s).2 ++ l) (lightDemand z s).1 := by
  have hl (y : Fin 24) (hy : z ≠ y) (hm : .lightDemand y ∈ Signal.lightDemand z :: l) :
      .lightDemand y ∈ (Machine.lightDemand z s).2 ++ l := by
    simpa [Machine.lightDemand, Ne.symm hy] using hm
  exact h.onZone z _ (.inl (L.demanded ((h z).imp_right And.left))) hl

theorem ZoneLaw.waits.climateWork {l : List Signal} {s : State} (z : Fin 24) (h : L.waits l s) :
    L.waits ((climateWork z s).2 ++ l) (climateWork z s).1 :=
  (h.append _).keepZone z _ L.workOut_good L.workOut_loose

theorem ZoneLaw.waits.reportZone {l : List Signal} {s : State} (h : L.waits l s) (z : Fin 24) (before : Zone) :
    L.waits l (reportZoneChange z before s) :=
  h.none (congrArg Prod.fst (reportZoneChange_indoor ..)) (settle_zoneConfigs (reportZoneChange_still ..)) fun _ => id

theorem ZoneLaw.waits.sendOn {l : List Signal} {s : State} (h : L.waits l s) (item : Outgoing) :
    L.waits ((sendOn item s).2 ++ l) (sendOn item s).1 := by
  have hconfig := settle_zoneConfigs (sendOn_still item s)
  cases item with
  | report content copy =>
    refine (h.append _).none ?_ hconfig fun _ => id
    simp only [Machine.sendOn]
    unfold reportBudget
    split <;> rfl
  | grant k g =>
    simp only [Machine.sendOn] at hconfig ⊢
    rcases slot_cases k with ⟨z, rfl⟩ | ⟨z, rfl⟩ | rfl | rfl | hk
    · rw [deliverTo_light]
      exact (h.keepZone z (fun r => ({ r with lightGrant := g } : Zone).rescale) (L.light_good g) (L.light_loose g)).reportZone z _
    · rw [deliverTo_climate]
      exact (h.keepZone z (fun r => ({ r with climate := { r.climate with grant := g } } : Zone).rerun s.config.zones[z])
        (L.climate_good g) (L.climate_loose g)).reportZone z _
    · exact (h.append _).none (congrArg Prod.fst (deliverPump_indoor g s)) hconfig fun _ => id
    · exact (h.append _).none (congrArg Prod.fst (deliverWindlass_indoor g s)) hconfig fun _ => id
    · rw [deliverTo_aux k g s hk]
      exact h

theorem ZoneLaw.waits.handle {x : Signal} {l : List Signal} {s : State} (h : L.waits (x :: l) s) :
    L.waits ((handle x s).2 ++ l) (handle x s).1 := by
  have tail (hx : ∀ z, x ≠ .lightDemand z) : L.waits l s := h.none rfl rfl fun y hy =>
    (List.mem_cons.1 hy).resolve_left fun e => hx y e.symm
  by_cases hx : x.zonal = true
  · cases x with
    | lightDemand z => exact h.lightDemand z
    | climateWork z => exact (tail (by simp)).climateWork z
    | cueFrame => exact (tail (by simp)).cueFrame
    | press p t => exact (tail (by simp)).press p t
    | _ => cases hx
  · have hzonal : x.zonal = false := by simpa using hx
    refine ((tail fun z e => ?_).append _).none (handle_zones x hzonal s) (settle_zoneConfigs (handle_still x s)) fun _ => id
    subst e
    cases hzonal

/-- Every turn keeps the law but for what the waiting signals still owe. -/
theorem ZoneLaw.waits.turn {x : Signal} {rest : List Signal} {s : State} (h : L.waits (x :: rest) s) (sent : List Outgoing) :
    L.waits (turn sent x rest s).2.1 (turn sent x rest s).2.2 := by
  rcases eq_or_ne x .passEnd with rfl | hx
  · cases sent with
    | nil => exact h.none rfl rfl fun y => by simp [Machine.turn]
    | cons item later => exact h.sendOn item
  · rw [turn_handle sent x rest s hx]
    exact h.handle

theorem ZoneLaw.waits.run {l : List Signal} {s : State} (h : L.waits l s) (n : Nat) (sent : List Outgoing) :
    L.waits [] (run n sent l s)
      ∨ (run n sent l s).unsettled = true ∧ ∃ l', L.waits l' (run n sent l s) := by
  induction n generalizing sent l s with
  | zero =>
    cases l with
    | nil => exact .inl h
    | cons x rest => exact .inr ⟨rfl, x :: rest, h.none rfl rfl fun _ => id⟩
  | succ n ih =>
    cases l with
    | nil => exact .inl h
    | cons x rest => exact ih (h.turn sent) _

/-- No signal clears `unsettled`. -/
theorem run_unsettled {n : Nat} {sent : List Outgoing} {l : List Signal} {s : State} (h : s.unsettled = true) :
    (run n sent l s).unsettled = true := by
  refine run_keeps (P := fun t => t.unsettled = true) (fun sent x rest s sent' l' t hs hturn _ => ?_) (fun _ _ => rfl) n sent l s h
  cases hturn with
  | pass => exact s.afterPass_unsettled.trans hs
  | post k d _ => exact hs
  | grant k g later more t hq ht => exact (Books.delivered ht).2.2.1.trans hs
  | report content copy later hq => exact (reportBudget_unsettled ..).trans hs
  | quiet x more t _ _ ht => exact (Books.same ht).2.2.1.trans hs

theorem settle_unsettled {h : Handled} (hu : (settle h).unsettled = false) : h.1.unsettled = false := by
  by_contra hn
  rw [settle, run_unsettled (by simpa using hn)] at hu
  cases hu

/-- An event that begins with the law, but for what its own signals owe, ends with it. -/
theorem ZoneLaw.settle (L : ZoneLaw) {h : Handled} (hw : h.1.unsettled = false ∨ L.strict → L.waits h.2 h.1) :
    L.holds (settle h) := by
  intro hend
  rcases (hw (hend.imp_left settle_unsettled)).run signalBound [] with hs | ⟨hu, l, hs⟩
  · exact ZoneLaw.waits_nil.1 hs
  · rcases hend with hend | hstrict
    · exact absurd hend (by rw [Machine.settle, hu]; simp)
    · exact fun z => (hs z).resolve_right fun ⟨hl, _⟩ => L.never hstrict _ hl

end Sys2Proof.Machine
end

section
/-! Every command and every step keeps a law of single zones. -/

namespace Sys2Proof.Machine

/-! ## What a law of the zones tells of -/

/-- What a law of single zones tells of. -/
def State.rooms (s : State) : Vector Zone 24 × Vector ZoneConfig 24 × Bool := (s.zones, s.config.zones, s.unsettled)

variable {L : ZoneLaw} {s : State}

theorem State.rooms_of {s t : State} (hz : t.zones = s.zones) (hc : t.config.zones = s.config.zones)
    (hu : t.unsettled = s.unsettled) : t.rooms = s.rooms := by simp [State.rooms, hz, hc, hu]

/-- What leaves the zones, the configuration and the books leaves what a law of the zones tells of. -/
theorem State.rooms_of_marks {s t : State} (hi : t.indoor = s.indoor) (hs : t.still = s.still) (hb : t.books = s.books) :
    t.rooms = s.rooms :=
  State.rooms_of (congrArg Prod.fst hi) (settle_zoneConfigs hs) (Books.same hb).2.2.1

theorem ZoneLaw.holds.quiet (h : L.holds s) {t : State} (e : t.rooms = s.rooms) : L.holds t := by
  simp only [State.rooms, Prod.mk.injEq] at e
  obtain ⟨hz, hc, hu⟩ := e
  unfold ZoneLaw.holds
  rw [hz, hc, hu]
  exact h

/-- The law, where a step that has not outrun its bound finds it, as the waiting signals of an event see it. -/
theorem ZoneLaw.holds.waits (h : L.holds s) (hu : s.unsettled = false ∨ L.strict) (l : List Signal) : L.waits l s :=
  fun z => .inl (h hu z)

/-- An event whose own changes leave the zones. -/
theorem ZoneLaw.holds.settled (h : L.holds s) {k : Handled} (e : k.1.rooms = s.rooms) : L.holds (Machine.settle k) :=
  L.settle fun hu => (h.quiet e).waits hu k.2

/-- An event of the zones. -/
theorem ZoneLaw.holds.event (h : L.holds s) {k : Handled} (hu : k.1.unsettled = s.unsettled)
    (hw : L.waits [] s → L.waits (k.2 ++ []) k.1) : L.holds (Machine.settle k) := by
  refine L.settle fun hk => ?_
  have := hw (h.waits (by rwa [← hu]) [])
  rwa [List.append_nil] at this

/-- One signal, after changes that leave the zones. -/
theorem ZoneLaw.holds.sent (h : L.holds s) {t : State} (x : Signal) (e : t.rooms = s.rooms) : L.holds (t.send x) :=
  h.settled (k := (t, [x])) e

@[simp] theorem State.kick_rooms (s : State) : s.kick.rooms = s.rooms :=
  have h := s.kick_core
  State.rooms_of (congrArg State.zones h : s.kick.core.zones = _) (congrArg Configuration.zones s.kick_config)
    (congrArg State.unsettled h : s.kick.core.unsettled = _)

theorem ZoneLaw.holds.kick (h : L.holds s) : L.holds s.kick := h.quiet s.kick_rooms

theorem ZoneLaw.holds.reply (h : L.holds s) (kind tag : Byte) (result : Result) (fields : List Byte) :
    L.holds (s.reply kind tag result fields) := h.quiet rfl

theorem ZoneLaw.holds.refuse (h : L.holds s) (kind tag : Byte) (result : Result) : L.holds (s.refuse kind tag result) :=
  h.quiet rfl

theorem ZoneLaw.holds.foldl {α : Type} {f : State → α → State} (hf : ∀ {t : State}, L.holds t → ∀ x, L.holds (f t x))
    (l : List α) (h : L.holds s) : L.holds (l.foldl f s) := by
  induction l generalizing s with
  | nil => exact h
  | cons x rest ih => exact ih (hf h x)

/-! ## Requests -/

/-- The requests that run no signals. -/
def runsNoSignals : Instr → Bool
  | .setSupply .. | .setSlot .. | .setAuxDemand .. | .setZone .. | .setLevels .. | .setSetpoint .. | .setMode ..
  | .recallScene .. | .setAxis .. | .ackFault .. | .programStep .. | .cancelAtBoundary .. | .cancelImmediate ..
  | .pauseProgram .. | .resumeProgram .. | .setInterlock .. | .setInterlockCommon .. | .setVessel .. | .setTagmap .. => false
  | _ => true

theorem State.joinNotice_rooms (s : State) (n : Notice) : (s.joinNotice n).rooms = s.rooms :=
  State.rooms_of_marks (by simp) (by simp) (by simp)

/-- Such a request refuses, or stores what no zone tells of, and replies. -/
theorem carryOut_rooms (i : Instr) (h : runsNoSignals i = true) : (carryOut i s).rooms = s.rooms := by
  have notice (tag : Byte) (p n : Nat) (zones : List Nat) : (takeChimePlay tag p n zones s).rooms = s.rooms := by
    unfold takeChimePlay
    split
    · rfl
    · split
      · rfl
      · exact s.joinNotice_rooms _
  cases i
  case chimePlay tag p n zones => exact notice tag p n zones
  all_goals cases h
  all_goals simp only [carryOut, takeGetPanel, takeReset, takeSetLink, takeGetBudget, takeGetZone, takeStoreScene, takeCueAdd,
    takeCueClear, takeCueCommit, takeCueStatus, takeGetAxis, takeOpenProgram, takeGetProgram, takeSetPattern, takeSetPanel,
    takeSetBinding, takeSaveConfig]
  all_goals
    repeat' split
    all_goals rfl

theorem takeSetSlot_holds (h : L.holds s) (tag : Byte) (slot e p c d o : Nat) : L.holds (takeSetSlot tag slot e p c d o s) := by
  unfold takeSetSlot
  split
  · exact h.refuse _ _ _
  · split
    · exact h.refuse _ _ _
    · exact (h.sent (t := storeSlot _ _ s) .pass rfl).reply _ _ _ _

theorem takeSetAuxDemand_holds (h : L.holds s) (tag : Byte) (slot demand : Nat) :
    L.holds (takeSetAuxDemand tag slot demand s) := by
  unfold takeSetAuxDemand
  split
  · exact h.refuse _ _ _
  · split
    · exact h.refuse _ _ _
    · exact (h.sent _ rfl).reply _ _ _ _

theorem takeSetSupply_holds (h : L.holds s) (tag : Byte) (supply reserve : Nat) :
    L.holds (takeSetSupply tag supply reserve s) := by
  unfold takeSetSupply
  split
  · exact h.refuse _ _ _
  · exact (h.sent (t := storeSupply supply reserve s) .pass rfl).reply _ _ _ _

theorem takeSetAxis_holds (h : L.holds s) (tag : Byte) (axis : Nat) (f : AxisFields) : L.holds (takeSetAxis tag axis f s) := by
  unfold takeSetAxis
  split
  · exact h.refuse _ _ _
  · split
    · exact h.refuse _ _ _
    · split
      · exact h.refuse _ _ _
      · exact (h.settled rfl).reply _ _ _ _

theorem takeAckFault_holds (h : L.holds s) (tag : Byte) (axis : Nat) : L.holds (takeAckFault tag axis s) := by
  unfold takeAckFault
  split
  · exact h.refuse _ _ _
  · split
    · exact h.refuse _ _ _
    · split
      · exact h.reply _ _ _ _
      · refine (h.settled ?_).reply _ _ _ _
        exact State.rooms_of_marks (by simp [acknowledge]) (by simp [acknowledge]) (by simp [acknowledge])

theorem breakAdmission_rooms (c : Fin 16) (s : State) : (breakAdmission c s).1.rooms = s.rooms := by
  unfold breakAdmission
  simp only
  split <;> rfl

theorem takeProgramStep_holds (h : L.holds s) (tag : Byte) (c : Nat) (f : StepFields) :
    L.holds (takeProgramStep tag c f s) := by
  unfold takeProgramStep
  split
  · exact h.reply _ _ _ _
  · split
    · exact h.reply _ _ _ _
    · exact (h.settled (breakAdmission_rooms _ s)).reply _ _ _ _
    · refine (h.settled ?_).reply _ _ _ _
      exact State.rooms_of_marks (by simp) (by simp) (by simp)

theorem takeCancel_holds (h : L.holds s) (mode : Nat) (cancel : Fin 16 → State → Handled) (tag : Byte) (c : Nat)
    (hc : ∀ c, (cancel c s).1.rooms = s.rooms) : L.holds (takeCancel mode cancel tag c s) := by
  unfold takeCancel
  split
  · exact h.refuse _ _ _
  · split
    · exact h.refuse _ _ _
    · exact (h.settled (hc _)).reply _ _ _ _

theorem cancelBoundary_rooms (c : Fin 16) (s : State) : (cancelBoundary c s).1.rooms = s.rooms := by
  unfold cancelBoundary; split <;> rfl

theorem cancelNow_rooms (c : Fin 16) (s : State) : (cancelNow c s).1.rooms = s.rooms := by
  unfold cancelNow; split <;> rfl

theorem takePauseProgram_holds (h : L.holds s) (tag : Byte) (c : Nat) : L.holds (takePauseProgram tag c s) := by
  unfold takePauseProgram
  split
  · exact h.refuse _ _ _
  · split
    · exact h.refuse _ _ _
    · split
      · exact (h.sent _ rfl).reply _ _ _ _
      · exact h.refuse _ _ _

theorem resumeHolds_rooms (a : Axis) (s : State) : (resumeHolds a s).1.rooms = s.rooms := by
  unfold resumeHolds
  simp only
  split
  · rfl
  · split
    · split
      · exact State.rooms_of_marks (by simp) (by simp) (by simp)
      · rfl
      · rfl
    · rfl

theorem takeResumeProgram_holds (h : L.holds s) (tag : Byte) (c : Nat) : L.holds (takeResumeProgram tag c s) := by
  unfold takeResumeProgram
  split
  · exact h.refuse _ _ _
  · split
    · exact h.refuse _ _ _
    · exact (h.settled (resumeHolds_rooms _ s)).reply _ _ _ _

theorem takeSetInterlock_holds (h : L.holds s) (tag : Byte) (a d : Nat) (l : Option (List (Nat × Nat))) :
    L.holds (takeSetInterlock tag a d l s) := by
  unfold takeSetInterlock
  split
  · split
    · exact h.reply _ _ _ _
    · split
      · exact h.refuse _ _ _
      · split
        · exact h.refuse _ _ _
        · refine ZoneLaw.holds.reply (h.sent .evaluatePermits ?_) _ _ _ _
          rfl
  · exact h.refuse _ _ _

theorem takeSetInterlockCommon_holds (h : L.holds s) (tag : Byte) (c : Option (Nat × Nat)) :
    L.holds (takeSetInterlockCommon tag c s) := by
  unfold takeSetInterlockCommon
  split
  · exact h.reply _ _ _ _
  · split
    · exact h.refuse _ _ _
    · refine ZoneLaw.holds.reply ?_ _ _ _ _
      simp only [storeCommon, State.postRating]
      split
      · refine ZoneLaw.holds.sent (h.sent .evaluatePermits ?_) _ rfl
        rfl
      · refine h.sent .evaluatePermits ?_
        rfl

theorem takeSetVessel_holds (h : L.holds s) (tag : Byte) (v a b c : Nat) : L.holds (takeSetVessel tag v a b c s) := by
  refine ZoneLaw.holds.reply (h.sent .evaluatePermits ?_) _ _ _ _
  rfl

theorem takeSetTagmap_holds (h : L.holds s) (tag : Byte) (p e : Nat) (f : TagFields) : L.holds (takeSetTagmap tag p e f s) := by
  unfold takeSetTagmap
  split
  · split
    · exact h.refuse _ _ _
    · split
      · exact h.refuse _ _ _
      · exact (h.settled rfl).reply _ _ _ _
  · exact h.refuse _ _ _

/-! ## Requests of the zones -/

theorem ZoneLaw.holds.zoneWritten (h : L.holds s) (z : Fin 24) (c : ZoneConfig) :
    L.holds (Machine.settle (zoneWritten z s.config.zones[z]
      { s with config := { s.config with zones := s.config.zones.set z c } })) := by
  set stored : State := { s with config := { s.config with zones := s.config.zones.set z c } }
  set k := Machine.zoneWritten z s.config.zones[z] stored with hk
  have hconfig : stored.config.zones[z] = c := by simp [stored]
  have hzone : k.1.zones[z] = s.zones[z].restaged s.config.zones[z] c ∧ k.1.config = stored.config
      ∧ k.1.unsettled = s.unsettled ∧ (∀ y : Fin 24, z ≠ y → k.1.zones[y] = s.zones[y])
      ∧ (s.config.zones[z].rated ≠ c.rated → .lightDemand z ∈ k.2) := by
    simp only [hk, Machine.zoneWritten, hconfig, Zone.restaged]
    split
    · exact ⟨rfl, rfl, rfl, fun _ _ => rfl, fun hr => if_neg hr ▸ by simp⟩
    · refine ⟨?_, rfl, rfl, fun y hy => stored.onZone_other z y _ hy, fun hr => if_neg hr ▸ by simp⟩
      rw [State.onZone_same]
  obtain ⟨hz, hc, hu, hother, hlight⟩ := hzone
  refine L.settle fun hunsettled y => ?_
  have hgood := h (by rwa [← hu])
  unfold ZoneLaw.owes
  rw [hc]
  rcases eq_or_ne z y with rfl | hy
  · rw [hz, hconfig]
    exact (L.stored (hgood z)).imp_right fun ⟨hr, hl⟩ => ⟨hl, hlight hr⟩
  · refine .inl ?_
    rw [hother y hy]
    simpa [stored, Fin.val_ne_of_ne hy, Vector.getElem_set_ne] using hgood y

theorem takeSetZone_holds (h : L.holds s) (tag : Byte) (zone : Nat) (f : ZoneFields) : L.holds (takeSetZone tag zone f s) := by
  unfold takeSetZone
  split
  · exact h.refuse _ _ _
  · split
    · exact h.refuse _ _ _
    · split
      · exact h.refuse _ _ _
      · exact (h.zoneWritten _ _).reply _ _ _ _

theorem takeSetLevels_holds (h : L.holds s) (tag : Byte) (zone : Nat) (l : Vector (Option Nat) 4) (fade : Nat) :
    L.holds (takeSetLevels tag zone l fade s) := by
  unfold takeSetLevels
  split
  · exact h.refuse _ _ _
  · refine (h.event ?_ fun hw => hw.levelsEvent _ l fade).reply _ _ _ _
    exact (Books.same (levelsEvent_books ..)).2.2.1

theorem takeSetSetpoint_holds (h : L.holds s) (tag : Byte) (zone v : Nat) : L.holds (takeSetSetpoint tag zone v s) := by
  unfold takeSetSetpoint
  split
  · exact h.refuse _ _ _
  · exact (h.event rfl fun hw => hw.setpointEvent _ v).reply _ _ _ _

theorem takeSetMode_holds (h : L.holds s) (tag : Byte) (zone v : Nat) : L.holds (takeSetMode tag zone v s) := by
  unfold takeSetMode
  split
  · exact h.refuse _ _ _
  · exact (h.event rfl fun hw => hw.modeEvent _ v).reply _ _ _ _

theorem ZoneLaw.holds.recallScene (h : L.holds s) (z : Fin 24) (n : Fin 32) :
    L.holds (Machine.settle (recallScene z n s)) :=
  h.event (Books.same (recallScene_books ..)).2.2.1 fun hw => hw.recallScene z n

theorem takeRecallScene_holds (h : L.holds s) (tag : Byte) (zone scene : Nat) :
    L.holds (takeRecallScene tag zone scene s) := by
  unfold takeRecallScene
  split
  · exact (h.recallScene _ _).reply _ _ _ _
  · exact h.refuse _ _ _

theorem carryOut_holds (h : L.holds s) (i : Instr) : L.holds (carryOut i s) := by
  cases i with
  | setSupply tag n m => exact takeSetSupply_holds h tag n m
  | setSlot tag k e p c d o => exact takeSetSlot_holds h tag k e p c d o
  | setAuxDemand tag k d => exact takeSetAuxDemand_holds h tag k d
  | setZone tag z f => exact takeSetZone_holds h tag z f
  | setLevels tag z l f => exact takeSetLevels_holds h tag z l f
  | setSetpoint tag z v => exact takeSetSetpoint_holds h tag z v
  | setMode tag z v => exact takeSetMode_holds h tag z v
  | recallScene tag z n => exact takeRecallScene_holds h tag z n
  | setAxis tag a f => exact takeSetAxis_holds h tag a f
  | ackFault tag a => exact takeAckFault_holds h tag a
  | programStep tag c f => exact takeProgramStep_holds h tag c f
  | cancelAtBoundary tag c => exact takeCancel_holds h _ _ _ _ fun c => cancelBoundary_rooms c s
  | cancelImmediate tag c => exact takeCancel_holds h _ _ _ _ fun c => cancelNow_rooms c s
  | pauseProgram tag c => exact takePauseProgram_holds h tag c
  | resumeProgram tag c => exact takeResumeProgram_holds h tag c
  | setInterlock tag a d l => exact takeSetInterlock_holds h tag a d l
  | setInterlockCommon tag c => exact takeSetInterlockCommon_holds h tag c
  | setVessel tag v a b c => exact takeSetVessel_holds h tag v a b c
  | setTagmap tag p e f => exact takeSetTagmap_holds h tag p e f
  | _ => exact h.quiet (carryOut_rooms _ rfl)

/-! ## The input buffer and the receiver -/

theorem carryFrame_holds (h : L.holds s) (f : Frame) : L.holds (carryFrame f s) := by
  unfold carryFrame
  split
  · exact h.refuse _ _ _
  · exact h.refuse _ _ _
  · exact h.refuse _ _ _
  · exact carryOut_holds h _

theorem serve_holds (h : L.holds s) (n : Nat) : L.holds (serve n s) := by
  induction n generalizing s with
  | zero => exact h
  | succ n ih =>
    unfold serve
    split
    · exact h
    · split
      · refine ih (carryFrame_holds ?_ _).kick
        exact h.quiet rfl
      · exact h

theorem goodFrame_holds (h : L.holds s) (f : Frame) : L.holds (goodFrame f s) := by
  unfold goodFrame
  simp only
  split
  · refine serve_holds ?_ _
    exact h.quiet rfl
  · exact h.quiet rfl

theorem receive_holds (h : L.holds s) (flush : Bool) (n : Nat) : L.holds (receive flush n s) := by
  induction n generalizing s with
  | zero => exact h
  | succ n ih =>
    unfold receive
    split
    · split
      · exact ih (h.quiet rfl)
      · exact h
    · exact ih (h.quiet rfl)
    · refine ih (goodFrame_holds ?_ _)
      exact h.quiet rfl

theorem takeByte_holds (h : L.holds s) (b : LineByte) : L.holds (takeByte s b) := by
  unfold takeByte
  split
  · refine receive_holds ?_ _ _
    exact h.quiet rfl
  · exact h

end Sys2Proof.Machine
end

section
/-! Every event of the part, and with it every step, keeps a law of single zones. -/

namespace Sys2Proof.Machine

variable {L : ZoneLaw} {s : State}

/-! ## Events that leave the zones -/

theorem positionEvent_rooms (a : Axis) (before : Option Int) (s : State) :
    (positionEvent a before s).1.rooms = s.rooms := by
  unfold positionEvent; split <;> rfl

theorem failSave_rooms (s : State) : s.failSave.rooms = s.rooms := by
  unfold State.failSave; split <;> rfl

theorem motionNote_rooms (a : Axis) (s : State) : (motionNote a s).rooms = s.rooms := by
  unfold motionNote; split <;> rfl

theorem noticeNote_rooms (s : State) : (noticeNote s).rooms = s.rooms := by
  unfold noticeNote
  split
  · simp only
    split
    · rfl
    · split <;> exact State.rooms_of_marks (by simp) (by simp) (by simp)
  · rfl

theorem panelFrame_rooms (p : Fin 12) (f : PanelFrame) (s : State) : (panelFrame p f s).1.rooms = s.rooms := by
  unfold panelFrame; split <;> rfl

theorem endStop_rooms (a : Axis) (s : State) : (endStop a s).1.rooms = s.rooms :=
  State.rooms_of_marks (by simp) (by simp) (by simp)

theorem endStartUp_rooms (s : State) : s.endStartUp.rooms = s.rooms :=
  State.rooms_of (congrArg State.zones (endStartUp_core s) : s.endStartUp.core.zones = _)
    (settle_zoneConfigs (endStartUp_still s)) (Books.same (endStartUp_books s)).2.2.1

theorem State.reportZone_rooms (s : State) (z : Fin 24) : (s.reportZone z).rooms = s.rooms := rfl

theorem startWarm_rooms (s : State) : (startWarm s).rooms = s.rooms := rfl

/-! ## Events of the zones -/

theorem frameSignals_holds (h : L.holds s) : L.holds (settle (frameSignals s)) := by
  refine L.settle fun hu z => .inl ?_
  have hz : (frameSignals s).1.zones[z] = s.zones[z].frame := by simp [frameSignals]
  rw [hz]
  exact L.frame (h hu z)

theorem climateEvent_holds (h : L.holds s) (z : Fin 24) (change : Climate → Climate)
    (hc : ∀ k, (change k).demanded = k.demanded ∧ (change k).running = k.running ∧ (change k).grant = k.grant) :
    L.holds (settle (climateEvent z change s)) := by
  refine L.settle fun hu => ?_
  obtain ⟨hdemanded, hrunning, hgrant⟩ := hc s.zones[z].climate
  exact (h.waits hu _).onZone z _ (.inl (L.sampled _ hdemanded hrunning hgrant (h hu z))) fun _ _ => id

/-! ## Resets -/

theorem ZoneLaw.holds.startZone (h : L.holds s) (z : Fin 24) : L.holds (startZone s z) := by
  unfold Machine.startZone
  split
  · exact (h.recallScene z _).quiet (State.reportZone_rooms _ z)
  · exact h.quiet (State.reportZone_rooms _ z)

theorem startUp_holds (e : EepromAnswer) (levels : Inputs) (d : Nat) (sensors : Sensors) (n : Nat) (k : ResetKind) :
    L.holds (startUp e levels (startLive d sensors n k s)) := by
  have started : L.holds (loadImage e (startLive d sensors n k s)) := by
    refine fun _ z => ?_
    have hz : (loadImage e (startLive d sensors n k s)).zones[z] = zoneStart := by simp [loadImage, startLive]
    rw [hz]
    exact L.start _
  have installed : L.holds (install levels (loadImage e (startLive d sensors n k s))) := started.settled rfl
  exact (installed.foldl (fun h => h.startZone) allZones).quiet (endStartUp_rooms _)

theorem ZoneLaw.holds.warmZone (h : L.holds s) (z : Fin 24) : L.holds (warmZone s z) := by
  unfold Machine.warmZone
  simp only
  split
  · refine ZoneLaw.holds.quiet (L.settle fun hu => ?_) (State.reportZone_rooms _ z)
    have completed : s.zones[z].relit (s.zones[z].onChannels fun _ c => c.complete).rescale :=
      (Zone.onChannels_relit _ (fun _ c => c.complete) fun _ _ h => Channel.complete_onFade h).trans (Zone.rescale_relit _)
    exact (h.waits hu _).relitZone z _ completed (by simp)
  · exact h.quiet (State.reportZone_rooms _ z)

theorem warm_holds (h : L.holds s) :
    L.holds ((allZones.foldl warmZone ((startWarm s).send .pass)).send .evaluatePermits).endStartUp := by
  have swept : L.holds (allZones.foldl warmZone ((startWarm s).send .pass)) :=
    ZoneLaw.holds.foldl (fun h => h.warmZone) allZones (h.sent .pass (startWarm_rooms s))
  exact (swept.sent .evaluatePermits rfl).quiet (endStartUp_rooms _)

/-! ## Commands and steps -/

/-- An event of the part whose condition may fail. -/
theorem ZoneLaw.holds.guarded (h : L.holds s) {c : Prop} [Decidable c] {t : State} (ht : L.holds t) :
    L.holds (if c then t else s).kick := by
  split
  · exact ht.kick
  · exact h.kick

theorem exec_holds (h : L.holds s) (i : Instr) {t : State} (e : exec i s = .next t) : L.holds t := by
  have request : L.holds (carryOut i s).kick := (carryOut_holds h i).kick
  have failed : L.holds s.failSave := h.quiet (failSave_rooms s)
  cases i with
  | powerOn e levels =>
    obtain rfl := carried_eq e
    exact (startUp_holds _ _ _ _ _ _).kick
  | coldReset e levels => cases e; exact h.guarded (startUp_holds _ _ _ _ _ _)
  | warmReset => cases e; exact h.guarded (warm_holds failed)
  | frameReceived bytes => cases e; refine ZoneLaw.holds.kick ?_; exact ZoneLaw.holds.foldl takeByte_holds bytes h
  | byteGapExpiry => cases e; exact h.guarded (receive_holds h _ _)
  | frameSent =>
    cases e
    cases s.link.sending with
    | none => exact h.kick
    | some x =>
      refine (serve_holds (ZoneLaw.holds.kick (h.quiet ?_)) _).kick
      split <;> rfl
  | linkSilenceExpiry => cases e; exact h.guarded (h.settled rfl)
  | baseLoadSample load => cases e; refine ZoneLaw.holds.kick ?_; exact h.sent _ rfl
  | meterSilenceExpiry => cases e; exact h.guarded (h.sent _ rfl)
  | holdOffExpiry k => cases e; exact h.guarded (h.sent _ rfl)
  | outputFrame => cases e; refine ZoneLaw.holds.kick ?_; exact frameSignals_holds h
  | temperatureSample z x => cases e; refine ZoneLaw.holds.kick ?_; exact climateEvent_holds h z _ fun _ => ⟨rfl, rfl, rfl⟩
  | lossTimerExpiry z => cases e; exact h.guarded (climateEvent_holds h z _ fun _ => ⟨rfl, rfl, rfl⟩)
  | capTimerExpiry => cases e; exact h.guarded (h.quiet rfl)
  | positionSample a x => cases e; refine ZoneLaw.holds.kick ?_; exact h.settled (positionEvent_rooms ..)
  | staleTimerExpiry a => cases e; exact h.guarded (h.settled rfl)
  | windlassPulse x => cases e; refine ZoneLaw.holds.kick ?_; exact h.settled rfl
  | anchorHomeChange x =>
    cases e
    refine (h.settled ?_).kick
    rw [apply_ite Prod.fst, apply_ite State.rooms, positionEvent_rooms, ite_self]
    rfl
  | overloadInput x => cases e; refine ZoneLaw.holds.kick ?_; exact h.settled rfl
  | warnTimeReached a => cases e; exact h.guarded (h.sent _ rfl)
  | prepareTimerExpiry a => cases e; exact h.guarded (h.settled rfl)
  | stallWindowExpiry a =>
    cases e
    refine ZoneLaw.holds.kick ?_
    split
    · split
      · exact h.quiet rfl
      · exact h.sent _ rfl
    · exact h
  | dwellEnd a => cases e; exact h.guarded (h.sent _ rfl)
  | stopTimerExpiry a => cases e; exact h.guarded (h.settled (endStop_rooms a s))
  | starvationTimerExpiry c => cases e; exact h.guarded (h.sent _ rfl)
  | fieldInputChange x b => cases e; refine ZoneLaw.holds.kick ?_; exact h.sent _ rfl
  | vesselAgeingExpiry => cases e; exact h.guarded (h.sent _ rfl)
  | motionNoteEnd a => cases e; refine ZoneLaw.holds.kick ?_; exact h.quiet (motionNote_rooms a s)
  | noticeNoteEnd => cases e; refine ZoneLaw.holds.kick ?_; exact h.quiet (noticeNote_rooms s)
  | panelFrame p f => cases e; refine ZoneLaw.holds.kick ?_; exact h.settled (panelFrame_rooms p f s)
  | panelSilenceExpiry p => cases e; exact h.guarded (h.settled rfl)
  | releaseTimerExpiry a =>
    cases e
    refine ZoneLaw.holds.kick ?_
    split
    · split
      · exact h.sent _ rfl
      · exact h
    · exact h
  | saveComplete x =>
    cases e
    refine ZoneLaw.holds.kick ?_
    split
    · exact h
    · exact h.quiet rfl
    · exact h.quiet (failSave_rooms s)
    · exact h.quiet (failSave_rooms s)
  | saveTimerExpiry => cases e; exact h.guarded (h.quiet (failSave_rooms s))
  | _ =>
    cases e
    exact request

/-- Every step keeps a law of single zones. -/
theorem step_holds (h : L.holds s) {t : State} (e : step s = .next t) : L.holds t := by
  unfold step at e
  split at e
  · cases e
    exact h.quiet rfl
  · next i rest _ => exact exec_holds (s := { s with pending := rest }) (h.quiet rfl) i e

end Sys2Proof.Machine
end

section
/-! No zone draws above its lighting grant, and each runs the highest stage that its climate grant allows (R31, R32, R33, R39). -/

namespace Sys2Proof.Machine

/-! ## The line of a fade (R31) -/

/-- A rising fade. -/
theorem fadeLevel_up {s t : Nat} (h : s ≤ t) (k n : Nat) : fadeLevel s t k n = s + (t - s) * k / n := by
  obtain ⟨d, rfl⟩ := Nat.exists_eq_add_of_le h
  have e : (((s + d : Nat) : Int) - s) * k = ((d * k : Nat) : Int) := by push_cast; ring
  rw [fadeLevel, e, ← Int.ofNat_tdiv, Nat.add_sub_cancel_left]
  generalize d * k / n = q
  omega

/-- A falling fade. -/
theorem fadeLevel_down {s t : Nat} (h : t ≤ s) (k n : Nat) : fadeLevel s t k n = s - (s - t) * k / n := by
  obtain ⟨d, rfl⟩ := Nat.exists_eq_add_of_le h
  have e : ((t : Int) - (t + d : Nat)) * k = -((d * k : Nat) : Int) := by push_cast; ring
  rw [fadeLevel, e, Int.neg_tdiv, ← Int.ofNat_tdiv, Nat.add_sub_cancel_left]
  generalize d * k / n = q
  omega

/-- A fade lies between its ends. -/
theorem fadeLevel_between (s t : Nat) {k n : Nat} (hk : k ≤ n) :
    min s t ≤ fadeLevel s t k n ∧ fadeLevel s t k n ≤ max s t := by
  have step (d : Nat) : d * k / n ≤ d := Nat.div_le_of_le_mul (by rw [Nat.mul_comm]; exact Nat.mul_le_mul_right d hk)
  rcases Nat.le_total s t with h | h
  · rw [fadeLevel_up h]
    have := step (t - s)
    generalize (t - s) * k / n = q at *
    omega
  · rw [fadeLevel_down h]
    have := step (s - t)
    generalize (s - t) * k / n = q at *
    omega

theorem fadeLevel_zero (s t n : Nat) : fadeLevel s t 0 n = s := by simp [fadeLevel]

/-- Along a fade the higher of level and target does not rise. -/
theorem fadeLevel_next (s t : Nat) {k n : Nat} (hk : k + 1 ≤ n) : fadeLevel s t (k + 1) n ≤ max (fadeLevel s t k n) t := by
  rcases Nat.le_total s t with h | h
  · have := (fadeLevel_between s t hk).2
    omega
  · rw [fadeLevel_down h, fadeLevel_down h]
    have : (s - t) * k / n ≤ (s - t) * (k + 1) / n := Nat.div_le_div_right (Nat.mul_le_mul_left _ (Nat.le_succ k))
    omega

/-- A frame of a channel on its fade never raises the higher of its level and target. -/
theorem Channel.advance_peak {c : Channel} (h : c.onFade) :
    max c.advance.level c.advance.target ≤ max c.level c.target := by
  unfold Channel.advance
  split
  · next hf =>
    simp only
    split
    · simp
    · next hk =>
      have hlevel : c.level = fadeLevel c.fadeStart c.target c.framesDone c.framesTotal := by
        rcases (by simpa [Channel.onFade, hf] using h : _ ∨ _) with ⟨h0, hs⟩ | ⟨-, hl⟩
        · rw [h0, fadeLevel_zero, hs]
        · exact hl
      have := fadeLevel_next c.fadeStart c.target (k := c.framesDone) (n := c.framesTotal) (by omega)
      simp only
      omega
  · exact le_rfl

/-! ## The draw of a zone (R32, R33) -/

theorem draw_mono {rated a b : Vector Nat 4} (h : ∀ i : Fin 4, a[i] ≤ b[i]) : draw rated a ≤ draw rated b :=
  List.sum_le_sum fun i _ => Nat.mul_le_mul_right _ (h i)

/-- The lighting demand is what the higher of level and target of every channel draws, rounded up. -/
theorem lightingDemand_bounds (rated : Vector Nat 4) (channels : Vector Channel 4) :
    draw rated (channels.map fun c => max c.level c.target) ≤ 1000 * lightingDemand rated channels
      ∧ 1000 * lightingDemand rated channels < draw rated (channels.map fun c => max c.level c.target) + 1000 := by
  have h : draw rated (channels.map fun c => max c.level c.target)
      = ((List.finRange 4).map fun i : Fin 4 => max channels[i].level channels[i].target * rated[i]).sum := by simp [draw]
  rw [h, lightingDemand]
  omega

/-- Channels scaled to a grant draw at most the grant where the demand covers their levels. -/
theorem draw_scaled_le {rated : Vector Nat 4} {levels : Vector Nat 4} {demand grant : Nat}
    (h : draw rated levels ≤ 1000 * demand) :
    draw rated (levels.map fun l => scaledOutput l grant demand) ≤ 1000 * grant := by
  rcases Nat.lt_or_ge grant demand with hg | hg
  · have hd : 0 < demand := by omega
    have share (l r : Nat) : demand * (l * grant / demand * r) ≤ grant * (l * r) := by
      have := Nat.mul_div_le (l * grant) demand
      nlinarith
    have total : demand * draw rated (levels.map fun l => scaledOutput l grant demand) ≤ grant * draw rated levels := by
      simp only [draw, ← List.sum_map_mul_left]
      refine List.sum_le_sum fun i _ => ?_
      simpa [scaledOutput, Nat.not_le.2 hg] using share levels[i] rated[i]
    nlinarith
  · simp only [scaledOutput, hg, if_true, Vector.map_id']
    omega

/-- A law-abiding zone draws at most its lighting grant. -/
theorem Zone.draw_outputs_le {rated : Vector Nat 4} {z : Zone} (h : z.foreseen rated) (ho : z.outputsFollow) :
    draw rated (z.channels.map (·.output)) ≤ 1000 * z.lightGrant := by
  have houtputs : z.channels.map (·.output) = (z.channels.map (·.level)).map fun l => scaledOutput l z.lightGrant z.demand := by
    apply Vector.ext
    intro i hi
    simpa using ho ⟨i, hi⟩
  have hlevels : draw rated (z.channels.map (·.level)) ≤ draw rated (z.channels.map fun c => max c.level c.target) :=
    draw_mono fun i => by simp
  rw [houtputs]
  exact draw_scaled_le (hlevels.trans h.2)

/-! ## The light law -/

theorem Zone.rescale_outputsFollow (z : Zone) : z.rescale.outputsFollow := by
  intro i
  simp [Zone.rescale, Zone.onChannels]

/-- Whether the demand foresees the draw is told by the channels but for their outputs. -/
theorem Zone.foreseen.rescale {rated : Vector Nat 4} {z : Zone} (h : z.foreseen rated) : z.rescale.foreseen rated := by
  refine ⟨fun i => z.rescale_relit.2 i (h.1 i), ?_⟩
  have hpeaks : z.rescale.channels.map (fun c => max c.level c.target) = z.channels.map fun c => max c.level c.target := by
    apply Vector.ext
    intro i hi
    simp [Zone.rescale, Zone.onChannels]
  rw [hpeaks]
  exact h.2

/-- A frame takes every channel along its fade, and no higher than the demand foresees. -/
theorem Zone.foreseen.frame {rated : Vector Nat 4} {z : Zone} (h : z.foreseen rated) : z.frame.foreseen rated := by
  unfold Zone.frame
  split
  · refine Zone.foreseen.rescale ⟨fun i => ?_, le_trans (draw_mono fun i => ?_) h.2⟩
    · exact (z.onChannels_relit _ fun _ _ hc => Channel.advance_onFade hc).2 i (h.1 i)
    · simpa [Zone.onChannels] using Channel.advance_peak (h.1 i)
  · exact h

theorem Zone.outputsFollow.frame {z : Zone} (h : z.outputsFollow) : z.frame.outputsFollow := by
  unfold Zone.frame
  split
  · exact Zone.rescale_outputsFollow _
  · exact h

/-- The demand that a zone computes foresees its draw. -/
theorem Zone.demanded_foreseen {c : ZoneConfig} {z : Zone} (h : ∀ i : Fin 4, z.channels[i].onFade) :
    (z.demanded c).foreseen c.rated := Zone.foreseen.rescale ⟨h, (lightingDemand_bounds c.rated z.channels).1⟩

theorem zoneStart_draw (rated : Vector Nat 4) : draw rated (zoneStart.channels.map fun c => max c.level c.target) = 0 := by
  simp [draw, zoneStart, channelStart]

/-- A new configuration leaves the channels, the demand and the lighting grant. -/
theorem Zone.restaged_light (before c : ZoneConfig) (z : Zone) : ∃ k, z.restaged before c = { z with climate := k } := by
  unfold Zone.restaged
  split
  · exact ⟨z.climate, rfl⟩
  · exact ⟨_, rfl⟩

/-- R33 as a law of single zones: a level change leaves every channel on its fade, and the demand that follows foresees the draw
again. -/
def lightLaw : ZoneLaw where
  good c z := z.foreseen c.rated ∧ z.outputsFollow
  loose z := ∀ i : Fin 4, z.channels[i].onFade
  strict := False
  never h := h.elim
  start c := ⟨⟨zoneStart_foreseen.1, by rw [zoneStart_draw]; exact Nat.zero_le _⟩, zoneStart_outputsFollow⟩
  relit_good hr h := .inr fun i => hr.2 i (h.1.1 i)
  relit_loose hr h i := hr.2 i (h i)
  demanded h := ⟨Zone.demanded_foreseen (h.elim (·.1.1) id), Zone.rescale_outputsFollow _⟩
  workOut_good h := h
  workOut_loose h := h
  light_good g h := ⟨Zone.foreseen.rescale h.1, Zone.rescale_outputsFollow _⟩
  light_loose g h i := (Zone.rescale_relit _).2 i (h i)
  climate_good _ h := h
  climate_loose _ h := h
  sampled _ _ _ _ h := h
  frame h := ⟨h.1.frame, h.2.frame⟩
  setpoint _ h := h
  stored {c c' z} h := by
    obtain ⟨k, hk⟩ := Zone.restaged_light c c' z
    rw [hk]
    by_cases hr : c.rated = c'.rated
    · exact .inl ⟨hr ▸ h.1, h.2⟩
    · exact .inr ⟨hr, h.1.1⟩

theorem lightLaw_holds (s : State) : lightLaw.holds s ↔ s.zonesWithin :=
  ⟨fun h hu => h (.inl hu), fun h hu => h (hu.resolve_right id)⟩

/-! ## The stage law -/

/-- The running stage as a choice (R39). -/
theorem runningStage_eq (c : ZoneConfig) (d : Stage) (g : Nat) :
    runningStage c d g =
      if Stage.stage2.code ≤ d.code ∧ c.stageCurrent .stage2 ≤ g then .stage2
      else if Stage.stage1.code ≤ d.code ∧ c.stageCurrent .stage1 ≤ g then .stage1
      else if Stage.fan.code ≤ d.code ∧ c.stageCurrent .fan ≤ g then .fan
      else .off := by
  unfold runningStage
  simp only [List.filter_cons, Bool.and_eq_true, decide_eq_true_eq]
  split_ifs <;> rfl

/-- The stage that is worked out afresh meets R39. -/
theorem Zone.rerun_runsWithin (c : ZoneConfig) (z : Zone) : (z.rerun c).runsWithin c := by
  simp only [Zone.runsWithin, Zone.rerun, runningStage_eq, List.forall_mem_cons, List.not_mem_nil, false_imp_iff, imp_true_iff,
    and_true]
  split_ifs with h2 h1 h0
  · exact ⟨h2.1, .inr h2.2, fun _ _ => by decide, fun _ _ => by decide, fun _ _ => by decide⟩
  · exact ⟨h1.1, .inr h1.2, fun _ _ => by decide, fun _ _ => by decide, fun hd hg => absurd ⟨hd, hg⟩ h2⟩
  · exact ⟨h0.1, .inr h0.2, fun _ _ => by decide, fun hd hg => absurd ⟨hd, hg⟩ h1, fun hd hg => absurd ⟨hd, hg⟩ h2⟩
  · exact ⟨Nat.zero_le _, .inl rfl, fun hd hg => absurd ⟨hd, hg⟩ h0, fun hd hg => absurd ⟨hd, hg⟩ h1,
      fun hd hg => absurd ⟨hd, hg⟩ h2⟩

/-- R39 tells of the demanded stage, the running stage, the grant and the stage currents. -/
theorem Zone.runsWithin.congr {c c' : ZoneConfig} {y z : Zone} (h : z.runsWithin c)
    (hk : y.climate.demanded = z.climate.demanded ∧ y.climate.running = z.climate.running ∧ y.climate.grant = z.climate.grant)
    (hc : c'.stageCurrent = c.stageCurrent) : y.runsWithin c' := by
  unfold Zone.runsWithin at *
  rw [hk.1, hk.2.1, hk.2.2, hc]
  exact h

theorem Zone.runsWithin.relit {c : ZoneConfig} {y z : Zone} (h : z.runsWithin c) (hr : z.relit y) : y.runsWithin c :=
  h.congr (by simp [hr.1]) rfl

/-- An idle unit runs OFF. -/
theorem zoneStart_runsWithin_any (c : ZoneConfig) : zoneStart.runsWithin c :=
  ⟨Nat.zero_le _, .inl rfl, fun x hx hd => by fin_cases hx <;> exact absurd hd (by decide)⟩

theorem Zone.frame_relit (z : Zone) : z.relit z.frame := by
  unfold Zone.frame
  split
  · exact (z.onChannels_relit _ fun _ _ hc => Channel.advance_onFade hc).trans (Zone.rescale_relit _)
  · exact .refl z

theorem ZoneConfig.stageCurrent_congr {c c' : ZoneConfig} (h : c.stageCurrents = c'.stageCurrents) :
    c'.stageCurrent = c.stageCurrent := by
  funext x
  simp only [ZoneConfig.stageCurrents, List.cons.injEq] at h
  cases x <;> simp [ZoneConfig.stageCurrent, h]

/-- R39 as a law of single zones. -/
def stageLaw : ZoneLaw where
  good c z := z.runsWithin c
  loose _ := False
  strict := True
  never _ _ := id
  start := zoneStart_runsWithin_any
  relit_good hr h := .inl (h.relit hr)
  relit_loose _ h := h
  demanded h := Zone.runsWithin.congr (h.resolve_right id) ⟨rfl, rfl, rfl⟩ rfl
  workOut_good _ := Zone.rerun_runsWithin _ _
  workOut_loose h := h
  light_good g h := Zone.runsWithin.congr h ⟨rfl, rfl, rfl⟩ rfl
  light_loose _ h := h
  climate_good _ _ := Zone.rerun_runsWithin _ _
  climate_loose _ h := h
  sampled _ hd hr hg h := Zone.runsWithin.congr h ⟨hd, hr, hg⟩ rfl
  frame {c z} h := h.relit z.frame_relit
  setpoint v h := h.relit (Zone.changeSetpoint_relit v _)
  stored {c c' z} h := by
    refine .inl ?_
    unfold Zone.restaged
    split
    · next hc => exact h.congr ⟨rfl, rfl, rfl⟩ (ZoneConfig.stageCurrent_congr hc)
    · exact Zone.rerun_runsWithin c' z

theorem stageLaw_holds (s : State) : stageLaw.holds s ↔ s.stageLaw :=
  ⟨fun h => h (.inr trivial), fun h _ => h⟩

/-- Settles O24: both laws are laws of single zones, which every step keeps, and a law-abiding zone draws at most its grant. -/
theorem zonesStayWithinTheirGrants : Obligations.ZonesStayWithinTheirGrants := by
  unfold Obligations.ZonesStayWithinTheirGrants
  refine ⟨fun s t h e => ?_, fun s t h e => ?_⟩
  · have kept : t.zonesWithin := (lightLaw_holds t).1 (step_holds ((lightLaw_holds s).2 h) e)
    exact ⟨kept, fun hu z => Zone.draw_outputs_le (kept hu z).1 (kept hu z).2⟩
  · exact (stageLaw_holds t).1 (step_holds ((stageLaw_holds s).2 h) e)

end Sys2Proof.Machine
end

section
/-! O57 is refuted: a zone named by a cue computes its demand after its grant has changed within the same step, and its ZONE
report, which compares it with the zone at the cue, then does not follow. -/

namespace Sys2Proof.Machine

/-! ## A zone whose scaled state ends without a report -/

/-- A zone whose first channel alone is lit, on a fade of 100 frames from 1000 to 0. -/
def dimmedZone (level framesDone demand grant : Nat) : Zone :=
  let c : Channel := { channelStart with level, fadeStart := 1000, framesDone, framesTotal := 100, fading := true }
  ({ zoneStart with channels := zoneStart.channels.set 0 c, demand, lightGrant := grant } : Zone).rescale

/-- A slot whose demand and grant are these, the grant delivered. -/
def grantedSlot (demand grant : Nat) : Slot :=
  { slotStart with raw := demand, effective := demand, grant, delivered := grant }

/-- Zone 0 ends its fade at the next frame, zone 2 falls through 510 and is scaled to 60 of 100, and a cue committed at the
frame takes zone 1 to 1000 and names zone 2 without a level. The supply leaves 160 for the three, and the transmit line is
busy. -/
def dimming : State :=
  let s := State.reset
  let rated : ZoneConfig := { factoryZone with rated := #v[100, 0, 0, 0] }
  { s with
    config := { s.config with supply := 160, reserve := 0, zones := ((s.config.zones.set 0 rated).set 1 rated).set 2 rated },
    budget := { s.budget with
      mode := .normal, history := [0], slots := (s.budget.slots.set 0 (grantedSlot 100 100)).set 2 (grantedSlot 100 60) },
    zones := (s.zones.set 0 (dimmedZone 10 99 100 100)).set 2 (dimmedZone 510 49 100 60),
    cue := { cueStart with
      entries := [{ zone := 1, change := .levels #v[some 1000, none, none, none] 0 },
        { zone := 2, change := .levels (Vector.replicate 4 none) 0 }],
      commit := some .atFrame },
    link := { s.link with sending := some { frame := { kind := 0x81, tag := 1, payload := [0] }, line := [] }, reports := [] },
    pending := [.outputFrame] }

/-- The state that the frame leaves. -/
def dimmed : State := (settle (frameSignals { dimming with pending := [] })).kick

theorem step_dimming : step dimming = .next dimmed := rfl

/-- Zone 2 was scaled and is scaled no more: the current that zone 0 gives up goes to zone 1, and zone 2 then demands 50. -/
theorem dimmed_scaled :
    dimmed.unsettled = false ∧ dimming.zones[(2 : Fin 24)].scaled = true ∧ dimmed.zones[(2 : Fin 24)].scaled = false := by
  decide +kernel

/-- Every report of zone 2 that waits or is sent tells of a scaled zone. -/
theorem dimmed_reported {c : List Byte} (h : dimmed.reported (.zone 2) c) : (c.drop 27).take 1 = flag true := by
  have waiting : ∀ e ∈ dimmed.link.reports, e.key = .zone 2 → (e.content.drop 27).take 1 = flag true := by decide +kernel
  have sending : ∀ x ∈ dimmed.link.sending, x.frame.kind ≠ ReportKey.code (.zone 2) := by decide +kernel
  rcases h with h | ⟨x, hx, hkind, -⟩
  · exact waiting _ h rfl
  · exact absurd hkind (sending x hx)

/-- Refutes O57: OUTPUT_FRAME ends the fade of zone 0 and applies a cue that names zones 1 and 2. Zone 2 is scaled before the
step and not after it, and its one report that waits, posted in between, says that it is scaled. -/
theorem not_reportsFollowTheChanges : ¬ Obligations.ReportsFollowTheChanges := by
  rintro ⟨-, -, -, -, -, h⟩
  obtain ⟨hsettled, hbefore, hafter⟩ := dimmed_scaled
  obtain ⟨hzones, -⟩ := h dimming dimmed step_dimming hsettled
  have hchange : dimmed.zones[(2 : Fin 24)].scaled ≠ dimming.zones[(2 : Fin 24)].scaled := by rw [hbefore, hafter]; decide
  obtain ⟨c, hc, -, -, hfields⟩ := hzones 2 (.inr (.inr (.inr (.inr (.inr (.inr hchange))))))
  have hscaled : (c.drop 27).take 1 = flag dimmed.zones[(2 : Fin 24)].scaled := by
    have := congrArg (List.take 1) hfields
    rwa [List.take_take] at this
  rw [dimmed_reported hc, hafter] at hscaled
  cases hscaled

end Sys2Proof.Machine
end

section
/-! What the calm signals of a step keep of one zone: a property of its record that its demand, its climate and its deliveries
keep, and that tells of nothing else. With it, what a temperature decides (R34, R37). -/

namespace Sys2Proof.Machine

/-! ## Properties of a zone that calm signals keep -/

/-- A property of a zone's record under its configuration that the four things which calm signals do to a zone keep. -/
structure ZoneKept (P : ZoneConfig → Zone → Prop) : Prop where
  demanded : ∀ {c z}, P c z → P c (z.demanded c)
  workOut : ∀ {c z}, P c z → P c (z.workOut c)
  light : ∀ {c z} (g : Nat), P c z → P c ({ z with lightGrant := g } : Zone).rescale
  climate : ∀ {c z} (g : Nat), P c z → P c (({ z with climate := { z.climate with grant := g } } : Zone).rerun c)

variable {P : ZoneConfig → Zone → Prop}

/-- A change of one zone's record that keeps the property, whichever zone it is. -/
theorem ZoneKept.onZone {s : State} {z : Fin 24} (y : Fin 24) {f : Zone → Zone}
    (hf : P s.config.zones[y] s.zones[y] → P s.config.zones[y] (f s.zones[y]))
    (h : P s.config.zones[z] s.zones[z]) : P s.config.zones[z] (s.onZone y f).zones[z] := by
  rcases eq_or_ne y z with rfl | hy
  · rw [State.onZone_same]
    exact hf h
  · rw [State.onZone_other _ _ _ _ hy]
    exact h

theorem ZoneKept.handle (K : ZoneKept P) {x : Signal} (hx : x.calm = true) {s : State} {z : Fin 24}
    (h : P s.config.zones[z] s.zones[z]) : P s.config.zones[z] (handle x s).1.zones[z] := by
  cases hz : x.zonal with
  | false => rwa [handle_zones x hz s]
  | true =>
    cases x with
    | lightDemand y => exact ZoneKept.onZone y K.demanded h
    | climateWork y => exact ZoneKept.onZone y K.workOut h
    | cueFrame => cases hx
    | press p t => cases hx
    | _ => cases hz

theorem ZoneKept.sendOn (K : ZoneKept P) (item : Outgoing) {s : State} {z : Fin 24}
    (h : P s.config.zones[z] s.zones[z]) : P s.config.zones[z] (sendOn item s).1.zones[z] := by
  have same {t u : State} (e : t.indoor = u.indoor) (hu : P s.config.zones[z] u.zones[z]) :
      P s.config.zones[z] t.zones[z] := by
    rwa [show t.zones = u.zones from congrArg Prod.fst e]
  generalize ht : (Machine.sendOn item s).1 = t
  cases item with
  | report content copy =>
    subst ht
    refine same ?_ h
    simp only [Machine.sendOn, reportBudget]
    split <;> rfl
  | grant k g =>
    rw [show Machine.sendOn (.grant k g) s = deliverTo k g s from rfl] at ht
    rcases slot_cases k with ⟨y, rfl⟩ | ⟨y, rfl⟩ | rfl | rfl | hk
    · rw [deliverTo_light] at ht
      subst ht
      exact same (reportZoneChange_indoor ..) (ZoneKept.onZone y (K.light g) h)
    · rw [deliverTo_climate] at ht
      subst ht
      exact same (reportZoneChange_indoor ..) (ZoneKept.onZone y (K.climate g) h)
    · subst ht
      exact same (deliverPump_indoor g s) h
    · subst ht
      exact same (deliverWindlass_indoor g s) h
    · rw [deliverTo_aux k g s hk] at ht
      subst ht
      exact h

/-- Calm signals keep such a property of every zone. -/
theorem ZoneKept.run (K : ZoneKept P) (n : Nat) (sent : List Outgoing) {l : List Signal} {s : State}
    (hl : allCalm l = true) {z : Fin 24} (h : P s.config.zones[z] s.zones[z]) :
    P s.config.zones[z] (run n sent l s).zones[z] := by
  induction n generalizing sent l s with
  | zero => cases l <;> exact h
  | succ n ih =>
    cases l with
    | nil => exact h
    | cons x rest =>
      simp only [allCalm_cons, Bool.and_eq_true] at hl
      obtain ⟨hx, hrest⟩ := hl
      rw [run_succ, ← State.config_of_still (turn_still sent x rest s)]
      refine ih _ (turn_calm sent x rest s hx hrest).1 ?_
      rw [State.config_of_still (turn_still sent x rest s)]
      unfold turn
      split
      · exact h
      · exact K.sendOn _ h
      · exact K.handle hx h

/-- What the first signal of an event establishes, its other signals keep. -/
theorem ZoneKept.settle (K : ZoneKept P) (x : Signal) (rest : List Signal) (s : State) (hx : x.calm = true)
    (hend : x ≠ .passEnd) (hrest : allCalm rest = true) (z : Fin 24)
    (h : P s.config.zones[z] (Machine.handle x s).1.zones[z]) :
    P s.config.zones[z] (Machine.settle (s, x :: rest)).zones[z] := by
  rw [Machine.settle, signalBound, run_succ, turn_handle _ _ _ _ hend]
  have hconfig : (Machine.handle x s).1.config = s.config := State.config_of_still (handle_still x s)
  have := K.run 99999 ([] ++ x.outgoing s) (l := (Machine.handle x s).2 ++ rest) (s := (Machine.handle x s).1)
    (by simp [handle_calm x hx, hrest]) (z := z) (by rwa [hconfig])
  rwa [hconfig] at this

/-! ## What the look of a zone tells -/

/-- Zones of one look agree on mode, setpoint and temperature. -/
theorem Zone.climate_of_look {y z : Zone} (h : y.look = z.look) :
    y.mode = z.mode ∧ y.setpoint = z.setpoint ∧ y.climate.live = z.climate.live
      ∧ y.climate.temperature = z.climate.temperature :=
  ⟨(congrArg Zone.mode h : y.look.mode = _), (congrArg Zone.setpoint h : y.look.setpoint = _),
    (congrArg (fun r => r.climate.live) h : y.look.climate.live = _),
    (congrArg (fun r => r.climate.temperature) h : y.look.climate.temperature = _)⟩

theorem State.follows.look {s t : State} (h : s.follows t) (z : Fin 24) : t.zones[z].look = s.zones[z].look := by
  rw [← State.looks_get, ← State.looks_get, h.2.1]

/-! ## The climate that is worked out (R37) -/

/-- The stage and direction of a zone are those that its setpoint, its mode and its temperature call for. -/
def Zone.climateDecided (_ : ZoneConfig) (z : Zone) : Prop :=
  let error : Int := (z.setpoint : Int) - z.climate.temperature
  z.climate.demanded = (if z.climate.live then errorStage z.mode error else restStage z.mode)
    ∧ z.climate.direction = (if z.climate.live then errorDirection error else .none)

theorem Zone.workOut_climateDecided (c : ZoneConfig) (z : Zone) : (z.workOut c).climateDecided c := by
  unfold Zone.workOut Zone.climateDecided
  cases h : z.climate.live <;> simp [Zone.rerun, h]

theorem climateDecided_kept : ZoneKept Zone.climateDecided where
  demanded h := h
  workOut _ := Zone.workOut_climateDecided _ _
  light _ h := h
  climate _ h := h

/-- A climate event leaves the zone as changed, with the climate that its record calls for. -/
theorem settle_climateEvent (z : Fin 24) (change : Climate → Climate) (s : State) :
    let u := s.onZone z fun r => { r with climate := change r.climate }
    let t := (settle (climateEvent z change s)).kick
    u.follows t ∧ t.zones[z].climateDecided t.config.zones[z] := by
  intro u t
  have hfollows : u.follows t :=
    State.follows.kick (State.follows_of (settle_fixed _) (settle_aspect (climateEvent z change s) rfl))
  refine ⟨hfollows, ?_⟩
  have hzones : t.zones = (settle (climateEvent z change s)).zones :=
    congrArg State.zones (State.kick_core _) |>.trans rfl
  rw [hzones]
  refine climateDecided_kept.settle (.climateWork z) _ u rfl (by simp) rfl z ?_
  simp only [handle, climateWork, State.onZone_same]
  exact Zone.workOut_climateDecided _ _

theorem deadband_eq (m : ZoneMode) : deadband m = if m = .occupied then 5 else if m = .eco then 20 else 40 := by
  cases m <;> rfl

/-- Settles O22: both events work out the climate first, and no later signal of the step takes it back. -/
theorem temperatureDecidesTheClimate : Obligations.TemperatureDecidesTheClimate := by
  unfold Obligations.TemperatureDecidesTheClimate
  refine ⟨fun z temperature s => ⟨_, rfl, ?_⟩, fun z s => ⟨_, rfl, fun h => ?_, fun h => ?_⟩⟩
  · obtain ⟨hfollows, hdemanded, hdirection⟩ := settle_climateEvent z (fun k =>
      { k with temperature, live := true, sampledAt := some s.now, lossDeadline := s.ends lossTime }) s
    obtain ⟨hmode, hsetpoint, hlive, htemperature⟩ := Zone.climate_of_look (hfollows.look z)
    rw [State.onZone_same] at hmode hsetpoint hlive htemperature
    simp only at hmode hsetpoint hlive htemperature
    refine ⟨hfollows, ?_⟩
    simp only [hmode, hsetpoint, hlive, htemperature, if_true, errorStage, restStage, deadband_eq, errorDirection] at *
    exact ⟨hdemanded, hdirection⟩
  · rw [h]
    exact kick_becomes s
  · rw [if_pos (Option.isSome_iff_ne_none.2 h)]
    obtain ⟨hfollows, hdemanded, hdirection⟩ :=
      settle_climateEvent z (fun k => { k with live := false, lossDeadline := none }) s
    obtain ⟨hmode, hsetpoint, hlive, htemperature⟩ := Zone.climate_of_look (hfollows.look z)
    rw [State.onZone_same] at hmode hsetpoint hlive htemperature
    simp only at hmode hlive
    refine ⟨hfollows, ?_⟩
    simp only [hmode, hlive, restStage] at *
    exact ⟨hdemanded, hdirection⟩

end Sys2Proof.Machine
end

section
/-! The output frame (R29, R31): the fades advance along their lines, and while no commit is pending the frame does no more. -/

namespace Sys2Proof.Machine

/-! ## Signals behind calm signals -/

/-- A turn leaves the signals that wait behind. -/
theorem turn_append (sent : List Outgoing) (x : Signal) (rest more : List Signal) (s : State) :
    turn sent x (rest ++ more) s = ((turn sent x rest s).1, (turn sent x rest s).2.1 ++ more, (turn sent x rest s).2.2) := by
  unfold turn
  split
  · rfl
  · simp
  · simp

/-- Calm signals come to an end before the signals behind them, with the looks of the zones and the cue as they were, or the run
has outrun its bound. -/
theorem run_calm_then (n : Nat) (sent : List Outgoing) {l : List Signal} (more : List Signal) (s : State)
    (hl : allCalm l = true) :
    (∃ n' sent' u, run n sent (l ++ more) s = run n' sent' more u ∧ u.aspect = s.aspect ∧ u.still = s.still)
      ∨ ((run n sent (l ++ more) s).unsettled = true ∧ (run n sent (l ++ more) s).aspect = s.aspect) := by
  induction n generalizing sent l s with
  | zero =>
    cases l with
    | nil => exact .inl ⟨0, sent, s, rfl, rfl, rfl⟩
    | cons x rest => exact .inr ⟨rfl, rfl⟩
  | succ n ih =>
    cases l with
    | nil => exact .inl ⟨n + 1, sent, s, rfl, rfl, rfl⟩
    | cons x rest =>
      simp only [allCalm_cons, Bool.and_eq_true] at hl
      obtain ⟨hcalm, haspect⟩ := turn_calm sent x rest s hl.1 hl.2
      rw [List.cons_append, run_succ, turn_append]
      rcases ih (turn sent x rest s).1 (turn sent x rest s).2.2 hcalm with ⟨n', sent', u, hrun, ha, hs⟩ | ⟨hu, ha⟩
      · exact .inl ⟨n', sent', u, hrun, ha.trans haspect, hs.trans (turn_still sent x rest s)⟩
      · exact .inr ⟨hu, ha.trans haspect⟩

/-! ## The frame of a zone -/

/-- A channel after one output frame, as R31 says it. -/
theorem Channel.advance_eq (c : Channel) :
    c.advance =
      if c.fading then
        if c.framesTotal ≤ c.framesDone + 1 then
          { c with framesDone := c.framesDone + 1, level := c.target, fading := false }
        else { c with
          framesDone := c.framesDone + 1,
          level := ((c.fadeStart : Int) + (((c.target : Int) - c.fadeStart) * (c.framesDone + 1 : Nat)).tdiv c.framesTotal).toNat }
      else c := rfl

theorem Channel.advance_of_steady {c : Channel} (h : c.fading = false) : c.advance = c := by
  simp [Channel.advance, h]

/-- One frame changes the look of a zone by its channels alone, each by its own frame. -/
theorem Zone.frame_look (z : Zone) : z.frame.look = ({ z with channels := z.channels.map Channel.advance } : Zone).look := by
  have hmap : (z.onChannels fun _ c => c.advance) = { z with channels := z.channels.map Channel.advance } := by
    unfold Zone.onChannels
    congr 1
    apply Vector.ext
    intro i hi
    simp
  unfold Zone.frame
  split
  · rw [Zone.rescale_look, hmap]
  · next h =>
    have hsteady := (Zone.isFading_eq_false z).1 (by simpa using h)
    rw [← hmap]
    congr 1
    unfold Zone.onChannels
    have : (Vector.ofFn fun i : Fin 4 => z.channels[i].advance) = z.channels := by
      apply Vector.ext
      intro i hi
      simpa using Channel.advance_of_steady (hsteady ⟨i, hi⟩)
    rw [this]

/-! ## The frame while no commit is pending -/

theorem frameSignals_split (s : State) : ∃ l, allCalm l = true ∧ (frameSignals s).2 = l ++ [.cueFrame] := by
  refine ⟨_, ?_, rfl⟩
  simp [allCalm, Signal.calm]

/-- A frame that finds no commit is over. -/
theorem run_cueFrame_idle (n : Nat) (sent : List Outgoing) {s : State} (h : s.cue.commit = none) :
    (run n sent [.cueFrame] s).aspect = s.aspect := by
  cases n with
  | zero => rfl
  | succ n =>
    have hframe : cueFrame s = (s, []) := by simp [cueFrame, h]
    rw [run_succ, turn_handle _ _ _ _ (by simp)]
    simp only [handle, hframe, List.append_nil]
    rw [run_nil]

/-- While no commit is pending an output frame advances the fades and leaves the cue. -/
theorem frame_aspect {s : State} (h : s.cue.commit = none) :
    (settle (frameSignals s)).aspect = (frameSignals s).1.aspect := by
  obtain ⟨l, hl, hsignals⟩ := frameSignals_split s
  rw [settle, hsignals]
  rcases run_calm_then signalBound [] [.cueFrame] (frameSignals s).1 hl with ⟨n, sent, u, hrun, ha, -⟩ | ⟨-, ha⟩
  · rw [hrun, run_cueFrame_idle n sent ?_, ha]
    rw [show u.cue = s.cue from congrArg Prod.snd ha]
    exact h
  · exact ha

/-! ## A whole fade (R31) -/

theorem fadeLevel_int (s t : Nat) {k n : Nat} (hk : k ≤ n) :
    (fadeLevel s t k n : Int) = s + (((t : Int) - s) * k).tdiv n := by
  have hstep (d : Nat) : d * k / n ≤ d := Nat.div_le_of_le_mul (by rw [Nat.mul_comm]; exact Nat.mul_le_mul_right d hk)
  refine Int.toNat_of_nonneg ?_
  rcases Nat.le_total s t with h | h
  · obtain ⟨d, rfl⟩ := Nat.exists_eq_add_of_le h
    have e : (((s + d : Nat) : Int) - s) * k = ((d * k : Nat) : Int) := by push_cast; ring
    rw [e, ← Int.ofNat_tdiv]
    positivity
  · obtain ⟨d, rfl⟩ := Nat.exists_eq_add_of_le h
    have e : ((t : Int) - (t + d : Nat)) * k = -((d * k : Nat) : Int) := by push_cast; ring
    rw [e, Int.neg_tdiv, ← Int.ofNat_tdiv]
    have := hstep d
    generalize d * k / n = q at *
    omega

/-- A fade after some of its frames, but not the last. -/
theorem Channel.advance_iterate {c : Channel} (hf : c.fading = true) (h0 : c.framesDone = 0) (hs : c.level = c.fadeStart)
    {k : Nat} (hk : k < c.framesTotal) :
    Channel.advance^[k] c = { c with framesDone := k, level := fadeLevel c.fadeStart c.target k c.framesTotal } := by
  induction k with
  | zero =>
    rw [fadeLevel_zero]
    cases c
    simp_all
  | succ k ih =>
    rw [Function.iterate_succ_apply', ih (by omega)]
    simp [Channel.advance, hf, hk]

/-- A fade after its last frame; a fade of no frames ends at its first. -/
theorem Channel.advance_iterate_last {c : Channel} (hf : c.fading = true) (h0 : c.framesDone = 0)
    (hs : c.level = c.fadeStart) :
    (Channel.advance^[max 1 c.framesTotal] c).fading = false ∧ (Channel.advance^[max 1 c.framesTotal] c).level = c.target
      ∧ (Channel.advance^[max 1 c.framesTotal] c).target = c.target := by
  obtain h | ⟨k, hk⟩ : c.framesTotal = 0 ∨ ∃ k, c.framesTotal = k + 1 := by
    cases c.framesTotal <;> simp
  · simp [h, Channel.advance, hf]
  · rw [hk, max_eq_right (by omega), Function.iterate_succ_apply', Channel.advance_iterate hf h0 hs (by omega)]
    simp [Channel.advance, hf, hk]

/-- Settles O23: the frame of every zone is that of its channels, and a fade's frames by induction. -/
theorem fadesFollowTheirLines : Obligations.FadesFollowTheirLines := by
  unfold Obligations.FadesFollowTheirLines
  refine ⟨fun s h => ⟨_, rfl, ?_⟩, fun c k hf h0 hs hk => ?_, fun c hf h0 hs => Channel.advance_iterate_last hf h0 hs⟩
  · refine State.follows.kick (State.follows_of ((settle_fixed _).trans rfl) ((frame_aspect h).trans ?_))
    refine Prod.ext ?_ rfl
    apply Vector.ext
    intro i hi
    simp only [State.aspect, State.looks, frameSignals, Vector.getElem_map]
    exact Zone.frame_look _
  · intro r
    have hr : r = { c with framesDone := k, level := fadeLevel c.fadeStart c.target k c.framesTotal } :=
      Channel.advance_iterate hf h0 hs hk
    rw [hr]
    obtain ⟨hlow, hhigh⟩ := fadeLevel_between c.fadeStart c.target hk.le
    exact ⟨hf, rfl, rfl, fadeLevel_int _ _ hk.le, hlow, hhigh⟩

end Sys2Proof.Machine
end

section
/-! SET_ZONE (R38, R41): every field is stored, and new stage currents take a pass. -/

namespace Sys2Proof.Machine

/-! ## Events that lead to a pass -/

/-- A signal that leads to a pass at once: the pass itself, or a demand that differs from the one that stands. -/
def passDue (x : Signal) (s : State) : Prop := x = .pass ∨ ∃ k d, x = .post k d ∧ d ≠ s.raw k

theorem passDue.congr {x : Signal} {s t : State} (h : passDue x s) (hb : t.budget = s.budget) : passDue x t := by
  unfold passDue State.raw at *
  rwa [hb]

theorem handle_post_equal {k : Fin 52} {d : Nat} {s : State} (h : d = s.raw k) : handle (.post k d) s = (s, []) := if_pos h

theorem handle_post_other {k : Fin 52} {d : Nat} {s : State} (h : d ≠ s.raw k) :
    handle (.post k d) s = (s.withDemand k d, [.pass]) := if_neg h

theorem run_passDue {x : Signal} {s : State} (h : passDue x s) (n : Nat) (sent : List Outgoing) (rest : List Signal)
    (hu : (run (n + 1) sent (x :: rest) s).unsettled = false) : (run (n + 1) sent (x :: rest) s).passed := by
  rcases h with rfl | ⟨k, d, rfl, hd⟩
  · exact run_passed _ _ _ _ (.inr rfl) hu
  · rw [run_succ, turn_handle _ _ _ _ (by simp), handle_post_other hd] at hu ⊢
    exact run_passed _ _ _ _ (.inr rfl) hu

/-- A demand posted before such a signal leads to its own pass, or to nothing. -/
theorem run_post_passDue {x : Signal} {s : State} (h : passDue x s) (k : Fin 52) (d : Nat) (n : Nat) (sent : List Outgoing)
    (rest : List Signal) (hu : (run (n + 2) sent (.post k d :: x :: rest) s).unsettled = false) :
    (run (n + 2) sent (.post k d :: x :: rest) s).passed := by
  rw [run_succ, turn_handle _ _ _ _ (by simp)] at hu ⊢
  by_cases hd : d = s.raw k
  · rw [handle_post_equal hd] at hu ⊢
    exact run_passDue h n _ rest hu
  · rw [handle_post_other hd] at hu ⊢
    exact run_passed _ _ _ _ (.inr rfl) hu

/-! ## The stored configuration of a zone -/

theorem zoneOutOfRange_iff (f : ZoneFields) :
    zoneOutOfRange f = true ↔ (∃ i : Fin 4, 160 < f.rated[i]) ∨ 400 < f.fan ∨ 400 < f.stage1 ∨ 400 < f.stage2
      ∨ ¬ (f.fan ≤ f.stage1 ∧ f.stage1 ≤ f.stage2) ∨ (31 < f.startScene ∧ f.startScene ≠ 255) := by
  have hrated : f.rated.toList.any (fun r => decide (160 < r)) = true ↔ ∃ i : Fin 4, 160 < f.rated[i] := by
    simp only [List.any_eq_true, decide_eq_true_eq, Vector.mem_toList_iff, Vector.mem_iff_getElem]
    exact ⟨fun ⟨_, ⟨i, hi, e⟩, h⟩ => ⟨⟨i, hi⟩, e ▸ h⟩, fun ⟨i, h⟩ => ⟨_, ⟨i.val, i.isLt, rfl⟩, h⟩⟩
  simp only [zoneOutOfRange, Bool.or_eq_true, hrated]
  simp only [decide_eq_true_eq, Bool.not_eq_true', decide_eq_false_iff_not, Bool.and_eq_true, bne_iff_ne, or_assoc]

theorem flagOf_eq (n : Nat) : flagOf n = decide (n ≠ 0) := by rw [Bool.eq_iff_iff]; simp [flagOf]

theorem storedZone_eq (f : ZoneFields) :
    storedZone f =
      { rated := f.rated, fan := f.fan, stage1 := f.stage1, stage2 := f.stage2, crewOnly := decide (f.crewOnly ≠ 0),
        passage := decide (f.passage ≠ 0), volume := f.volume,
        startScene := if f.startScene = 255 then none else some f.startScene } := by
  simp only [storedZone, flagOf_eq]

/-! ## What follows the storing -/

theorem zoneWritten_follows (z : Fin 24) (before : ZoneConfig) (s : State) : s.follows (settle (zoneWritten z before s)) := by
  have hcalm : allCalm (zoneWritten z before s).2 = true := by
    unfold zoneWritten
    simp only
    (repeat' split) <;> rfl
  refine State.follows_of ((settle_fixed _).trans ?_) ((settle_aspect _ hcalm).trans ?_)
  · unfold zoneWritten
    simp only
    split <;> rfl
  · unfold zoneWritten
    simp only
    split
    · rfl
    · exact Prod.ext (State.onZone_looks s z _ rfl) rfl

theorem zoneWritten_outgoing (z : Fin 24) (before : ZoneConfig) (s : State) :
    (settle (zoneWritten z before s)).outgoing = s.outgoing := by
  rw [settle_outgoing]
  unfold zoneWritten
  simp only
  split <;> rfl

/-- New stage currents take a pass in any case, behind the lighting demand where that comes first. -/
theorem zoneWritten_passed {z : Fin 24} {before : ZoneConfig} {s : State}
    (h : before.stageCurrents ≠ s.config.zones[z].stageCurrents) : (settle (zoneWritten z before s)).settledPassed := by
  intro hu
  set t := s.onZone z fun r => r.rerun s.config.zones[z]
  set d := s.config.zones[z].stageCurrent s.zones[z].climate.demanded
  set x : Signal := if d = s.raw (climateSlot z) then .pass else .post (climateSlot z) d with hx
  have hdue : passDue x s := by
    rw [hx]
    split
    · exact .inl rfl
    · next hd => exact .inr ⟨_, d, rfl, hd⟩
  have hwritten : zoneWritten z before s = (t, (if before.rated = s.config.zones[z].rated then [] else [.lightDemand z])
      ++ [x] ++ [.reportZone z s.zones[z]]) := by
    unfold zoneWritten
    rw [if_neg h]
  rw [hwritten, settle, signalBound] at hu ⊢
  by_cases hr : before.rated = s.config.zones[z].rated
  · rw [if_pos hr] at hu ⊢
    exact run_passDue (s := t) (hdue.congr rfl) 99999 [] [.reportZone z s.zones[z]] hu
  · rw [if_neg hr, List.singleton_append, List.cons_append, run_succ, turn_handle _ _ _ _ (by simp)] at hu ⊢
    exact run_post_passDue (s := (lightDemand z t).1) (hdue.congr rfl) _ _ 99997 _ _ hu

/-- The state in which a zone has a new configuration, before anything follows from it. -/
def State.storeZone (s : State) (z : Fin 24) (c : ZoneConfig) : State :=
  { s with config := { s.config with zones := s.config.zones.set z c } }

theorem State.storeZone_get (s : State) (z : Fin 24) (c : ZoneConfig) : (s.storeZone z c).config.zones[z] = c := by
  simp [State.storeZone]

/-- SET_ZONE whose fields lie in range, while nothing is being saved. -/
theorem takeSetZone_stores (tag : Byte) (z : Fin 24) (f : ZoneFields) {s : State} (hs : ¬ s.store.saving.isSome = true)
    (hf : ¬ zoneOutOfRange f = true) :
    takeSetZone tag z.val f s = (settle (zoneWritten z s.config.zones[z] (s.storeZone z (storedZone f)))).reply 0x20 tag .ok
      (u8 z.val ++ (storedZone f).bytes) := by
  obtain ⟨hfixed, -⟩ := zoneWritten_follows z s.config.zones[z] (s.storeZone z (storedZone f))
  obtain ⟨-, -, -, hconfig, -⟩ := State.fixed_fields hfixed
  have hzone : (settle (zoneWritten z s.config.zones[z] (s.storeZone z (storedZone f)))).config.zones[z] = storedZone f := by
    rw [hconfig, State.storeZone_get]
  have htaken : takeSetZone tag z.val f s
      = (settle (zoneWritten z s.config.zones[z] (s.storeZone z (storedZone f)))).reply 0x20 tag .ok
        (u8 z.val ++ (settle (zoneWritten z s.config.zones[z] (s.storeZone z (storedZone f)))).config.zones[z].bytes) := by
    simp only [takeSetZone, indexOf_val, State.isSaving, hs, hf, Bool.false_eq_true, if_false]
    rfl
  rw [htaken, hzone]

/-- Settles O20: the refusals in their order, and the storing with all that follows from it. -/
theorem setZoneStoresTheFields : Obligations.SetZoneStoresTheFields := by
  unfold Obligations.SetZoneStoresTheFields
  intro tag z f s
  by_cases hs : s.store.saving.isSome = true
  · simp only [hs, if_true]
    exact refused_of (by simp [takeSetZone, State.isSaving, hs])
  · simp only [hs, if_false, ← zoneOutOfRange_iff, Bool.false_eq_true]
    by_cases hf : zoneOutOfRange f = true
    · simp only [hf, if_true]
      exact refused_of (by simp [takeSetZone, State.isSaving, hs, hf])
    · refine ⟨_, rfl, ?_⟩
      rw [if_neg hf, takeSetZone_stores tag z f hs hf, ← storedZone_eq]
      refine ⟨((zoneWritten_follows z _ _).reply ..).kick, reply_kick_answers (zoneWritten_outgoing ..) 0x20 tag _, fun hne => ?_⟩
      refine State.settledPassed.kick (State.settledPassed.reply (zoneWritten_passed ?_) 0x20 tag .ok _)
      rwa [State.storeZone_get]

end Sys2Proof.Machine
end

section
/-! SET_LEVELS, SET_SETPOINT and SET_MODE (R30, R32, R34, R36, R42 to R44): the one event of a zone that each makes. -/

namespace Sys2Proof.Machine

/-! ## The demand of a zone (R32) -/

theorem Zone.rescale_channels (z : Zone) :
    z.rescale.channels = z.channels.map fun c => { c with output := scaledOutput c.level z.lightGrant z.demand } := by
  apply Vector.ext
  intro i hi
  simp [Zone.rescale, Zone.onChannels]

/-- The lighting demand does not tell of the outputs. -/
theorem lightingDemand_rescale (rated : Vector Nat 4) (z : Zone) :
    lightingDemand rated z.rescale.channels = lightingDemand rated z.channels := by
  simp [lightingDemand, Zone.rescale_channels]

/-- The demand of a zone is the one that its channels call for. -/
def Zone.demandFollows (c : ZoneConfig) (z : Zone) : Prop := z.demand = lightingDemand c.rated z.channels

theorem Zone.demanded_demandFollows (c : ZoneConfig) (z : Zone) : (z.demanded c).demandFollows c :=
  (lightingDemand_rescale c.rated _).symm

theorem demandFollows_kept : ZoneKept Zone.demandFollows where
  demanded _ := Zone.demanded_demandFollows _ _
  workOut h := h
  light _ h := h.trans (lightingDemand_rescale _ _).symm
  climate _ h := h

/-! ## One event of a zone -/

theorem settleZone_calm (lighting : Bool) (z : Fin 24) (before after : Zone) : allCalm (settleZone lighting z before after) = true := by
  unfold settleZone
  split_ifs <;> rfl

theorem settleZone_true (z : Fin 24) (before after : Zone) :
    settleZone true z before after = .lightDemand z :: settleZone false z before after := rfl

/-- An event of a zone leaves everything else that a step keeps. -/
theorem changeZone_follows (lighting : Bool) (z : Fin 24) (f : Zone → Zone) (s : State) :
    (s.onZone z f).follows (settle (changeZone lighting z f s)) :=
  State.follows_of (settle_fixed _) (settle_aspect _ (settleZone_calm ..))

/-- The event's demand is the one that the changed channels call for. -/
theorem changeZone_demand (z : Fin 24) (f : Zone → Zone) (s : State) :
    (settle (changeZone true z f s)).zones[z].demandFollows s.config.zones[z] := by
  rw [changeZone, settleZone_true]
  refine demandFollows_kept.settle (.lightDemand z) _ (s.onZone z fun _ => f s.zones[z]) rfl (by simp) (settleZone_calm ..) z ?_
  simp only [handle, lightDemand, State.onZone_same]
  exact Zone.demanded_demandFollows s.config.zones[z] (f s.zones[z])

theorem State.onZone_id {s : State} {z : Fin 24} {f : Zone → Zone} (h : f s.zones[z] = s.zones[z]) : s.onZone z f = s := by
  have hset : s.zones.set z s.zones[z] = s.zones := by simp
  simp only [State.onZone, h, hset]

theorem Zone.differs_self (z : Zone) : z.differs z = false := by simp [Zone.differs]

/-- An event that leaves the zone leaves everything. -/
theorem settle_changeZone_id {z : Fin 24} {f : Zone → Zone} {s : State} (h : f s.zones[z] = s.zones[z]) :
    settle (changeZone false z f s) = s := by
  have hevent : changeZone false z f s = (s, [.reportZone z s.zones[z]]) := by
    simp only [changeZone, h, settleZone, State.onZone_id (f := fun _ => s.zones[z]) rfl]
    simp
  have hreport : handle (.reportZone z s.zones[z]) s = (s, []) := by
    simp [handle, reportZoneChange, Zone.differs_self]
  rw [hevent, settle, signalBound, run_succ, turn_handle _ _ _ _ (by simp), hreport]
  exact run_nil _ _ _

theorem State.onZone_follows_congr {s t : State} {z : Fin 24} {f g : Zone → Zone} (h : f s.zones[z] = g s.zones[z])
    (hf : (s.onZone z f).follows t) : (s.onZone z g).follows t := by
  rwa [show s.onZone z g = s.onZone z f by simp only [State.onZone, h]]

/-! ## SET_LEVELS -/

/-- A level change as R30 says it. -/
theorem Channel.changeLevel_eq (mode : ZoneMode) (l fade : Nat) (c : Channel) :
    c.changeLevel mode l fade =
      let target := if mode = .eco then min (min l 1000) 600 else min l 1000
      if target = c.level then { c with target := target, fading := false }
      else { c with
        fadeStart := c.level, target := target, framesDone := 0, framesTotal := min fade 60000 / 10, fading := true } := by
  have hfade : clampFade fade / 10 = min fade 60000 / 10 := by unfold clampFade; omega
  simp only [Channel.changeLevel, cappedTarget, clampLevel, hfade]
  generalize (if mode = .eco then min (min l 1000) 600 else min l 1000) = target
  split
  · next h => rw [← h]
  · rfl

theorem Zone.changeLevels_eq (levels : Vector (Option Nat) 4) (fade : Nat) (z : Zone) :
    z.changeLevels levels fade = { z with channels := Vector.ofFn fun i : Fin 4 =>
      (levels[i].elim z.channels[i] fun l =>
        let target := if z.mode = .eco then min (min l 1000) 600 else min l 1000
        if target = z.channels[i].level then { z.channels[i] with target := target, fading := false }
        else { z.channels[i] with
          fadeStart := z.channels[i].level, target := target, framesDone := 0, framesTotal := min fade 60000 / 10,
          fading := true }) } := by
  unfold Zone.changeLevels Zone.onChannels
  congr 2
  funext i
  dsimp only
  cases levels[i] with
  | none => rfl
  | some l => exact Channel.changeLevel_eq ..

/-- Levels that are all absent change nothing. -/
theorem Zone.changeLevels_none {levels : Vector (Option Nat) 4} (h : ∀ i : Fin 4, levels[i] = none) (fade : Nat) (z : Zone) :
    z.changeLevels levels fade = z := by
  simp only [Zone.changeLevels, Zone.onChannels, h]
  congr 1
  apply Vector.ext
  intro i hi
  simp

theorem levels_all_none {levels : Vector (Option Nat) 4} :
    levels.toList.all (·.isNone) = true ↔ ∀ i : Fin 4, levels[i] = none := by
  simp only [List.all_eq_true, Vector.mem_toList_iff, Vector.mem_iff_getElem, Option.isNone_iff_eq_none]
  exact ⟨fun h i => h _ ⟨i.val, i.isLt, rfl⟩, fun h _ ⟨i, hi, e⟩ => e ▸ h ⟨i, hi⟩⟩

theorem levelsEvent_follows (z : Fin 24) (levels : Vector (Option Nat) 4) (fade : Nat) (s : State) :
    (s.onZone z (·.changeLevels levels fade)).follows (settle (levelsEvent z levels fade s)) := by
  unfold levelsEvent
  split
  · next h =>
    rw [State.onZone_id (Zone.changeLevels_none (levels_all_none.1 h) fade _), settle, run_nil]
    exact State.follows_of rfl rfl
  · exact changeZone_follows true z _ s

theorem levelsEvent_demand {z : Fin 24} {levels : Vector (Option Nat) 4} (fade : Nat) (s : State)
    (h : ∃ i : Fin 4, levels[i].isSome = true) :
    (settle (levelsEvent z levels fade s)).zones[z].demandFollows s.config.zones[z] := by
  obtain ⟨i, hi⟩ := h
  have hsome : ¬ levels.toList.all (·.isNone) = true := fun hall => by
    rw [levels_all_none.1 hall i] at hi
    cases hi
  rw [levelsEvent, if_neg hsome]
  exact changeZone_demand z _ s

/-! ## SET_SETPOINT and SET_MODE -/

theorem clampSetpoint_eq (v : Nat) : clampSetpoint v = (if v < 160 then 160 else if 300 < v then 300 else v) / 5 * 5 := by
  have h : clampInto 160 300 v = if v < 160 then 160 else if 300 < v then 300 else v := by
    unfold clampInto
    split_ifs <;> omega
  rw [clampSetpoint, h]

theorem Zone.changeMode_unknown {v : Nat} (h : 2 < v) (z : Zone) : z.changeMode v = z := by
  match v, h with
  | _ + 3, _ => rfl

theorem Zone.changeMode_same (z : Zone) : z.changeMode z.mode.code = z := by
  cases h : z.mode <;> simp [Zone.changeMode, ZoneMode.code, zoneModeOf, h]

/-- The entry to a mode by its value; a value that names the mode in force or none changes nothing (R34). -/
theorem Zone.changeMode_cases (v : Nat) (z : Zone) :
    z.changeMode v =
      if 2 < v ∨ v = z.mode.code then z
      else
        let mode : ZoneMode := if v = 0 then .occupied else if v = 1 then .eco else .vacant
        { z with mode := mode, channels := z.channels.map fun c =>
            if v = 1 ∧ 600 < c.target then c.changeLevel mode 600 3000
            else if v = 2 ∧ c.target ≠ 0 then c.changeLevel mode 0 3000 else c } := by
  split
  · next h =>
    rcases h with h | h
    · exact Zone.changeMode_unknown h z
    · rw [h]
      exact Zone.changeMode_same z
  · next h =>
    obtain ⟨hv, hne⟩ := not_or.1 h
    have hmap (f : Channel → Channel) : z.channels.map f = Vector.ofFn fun i : Fin 4 => f z.channels[i] := by
      apply Vector.ext
      intro i hi
      simp
    have hmode (m : ZoneMode) (h : v = m.code) : m ≠ z.mode := fun e => hne (e ▸ h)
    simp only [hmap]
    obtain rfl | rfl | rfl : v = 0 ∨ v = 1 ∨ v = 2 := by omega
    · have hm := hmode .occupied rfl
      simp [Zone.changeMode, zoneModeOf, hm, Zone.enterMode]
    · have hm := hmode .eco rfl
      simp [Zone.changeMode, zoneModeOf, hm, Zone.enterMode, Zone.onChannels]
    · have hm := hmode .vacant rfl
      simp [Zone.changeMode, zoneModeOf, hm, Zone.enterMode, Zone.onChannels]

/-- The entry to a new mode as R34 says it, with the level changes as R30 says them. -/
theorem Zone.changeMode_eq {v : Nat} {z : Zone} (hv : v ≤ 2) (hne : v ≠ z.mode.code) :
    z.changeMode v = { z with
      mode := if v = 0 then .occupied else if v = 1 then .eco else .vacant,
      channels := z.channels.map fun c =>
        let target := if v = 1 then 600 else 0
        if (v = 1 ∧ 600 < c.target) ∨ (v = 2 ∧ c.target ≠ 0) then
          if target = c.level then { c with target := target, fading := false }
          else { c with fadeStart := c.level, target := target, framesDone := 0, framesTotal := 300, fading := true }
        else c } := by
  rw [Zone.changeMode_cases, if_neg (not_or.2 ⟨Nat.not_lt.2 hv, hne⟩)]
  obtain rfl | rfl | rfl : v = 0 ∨ v = 1 ∨ v = 2 := by omega
  · simp
  · simp [Channel.changeLevel_eq]
  · simp [Channel.changeLevel_eq]

/-! ## The requests -/

/-- The end of a request of a zone: the reply goes out and the zones stay. -/
theorem State.reply_kick_zones (s : State) (kind tag : Byte) (result : Result) (fields : List Byte) :
    (s.reply kind tag result fields).kick.zones = s.zones :=
  (congrArg State.zones (State.kick_core _) : (State.core _).zones = _)

/-- Settles O21: each request is one event of its zone, whose signals keep what the event has changed. -/
theorem zoneRequestsChangeTheZone : Obligations.ZoneRequestsChangeTheZone := by
  unfold Obligations.ZoneRequestsChangeTheZone
  refine ⟨fun tag z levels fade s => ?_, fun tag z v s => ?_, fun tag z v s => ?_⟩
  · have htaken : takeSetLevels tag z.val levels fade s = (settle (levelsEvent z levels fade s)).reply 0x21 tag .ok
        (u8 z.val ++ (settle (levelsEvent z levels fade s)).zones[z].channels.toList.flatMap (fun c => u16 c.target)
          ++ u16 (clampFade fade)) := by
      simp only [takeSetLevels, indexOf_val]
    have hfollows := levelsEvent_follows z levels fade s
    refine ⟨_, rfl, ?_⟩
    rw [htaken, State.reply_kick_zones, List.flatMap_map]
    refine ⟨State.onZone_follows_congr (Zone.changeLevels_eq levels fade _) (hfollows.reply ..).kick,
      reply_kick_answers (settle_outgoing _ |>.trans ?_) 0x21 tag _, fun h => ?_⟩
    · unfold levelsEvent
      split <;> rfl
    · rw [levelsEvent_demand fade s h]
      exact lightingDemand_bounds _ _
  · have htaken : takeSetSetpoint tag z.val v s = (settle (setpointEvent z v s)).reply 0x22 tag .ok
        (u8 z.val ++ u16 (settle (setpointEvent z v s)).zones[z].setpoint) := by
      simp only [takeSetSetpoint, indexOf_val]
    have hfollows := changeZone_follows false z (·.changeSetpoint v) s
    obtain ⟨-, hsetpoint, -⟩ := Zone.climate_of_look (hfollows.look z)
    rw [State.onZone_same] at hsetpoint
    refine ⟨_, rfl, ?_⟩
    rw [htaken, ← clampSetpoint_eq]
    exact ⟨(hfollows.reply ..).kick, hsetpoint ▸ reply_kick_answers (settle_outgoing _) 0x22 tag _⟩
  · have htaken : takeSetMode tag z.val v s = (settle (modeEvent z v s)).reply 0x23 tag .ok
        (u8 z.val ++ u8 (settle (modeEvent z v s)).zones[z].mode.code) := by
      simp only [takeSetMode, indexOf_val]
    refine ⟨_, rfl, ?_⟩
    rw [htaken, State.reply_kick_zones]
    refine ⟨reply_kick_answers (settle_outgoing _) 0x23 tag _, fun h => ?_, fun hv hne => ?_⟩
    · have hsame : s.zones[z].changeMode v = s.zones[z] := by
        rcases h with h | h
        · exact Zone.changeMode_unknown h _
        · rw [h]
          exact Zone.changeMode_same _
      have hevent : settle (modeEvent z v s) = s := by
        rw [modeEvent, hsame, bne_self_eq_false]
        exact settle_changeZone_id hsame
      rw [State.kick_core, State.reply_core, hevent]
    · have hfollows := changeZone_follows ((s.zones[z].changeMode v).mode != s.zones[z].mode) z (·.changeMode v) s
      exact State.onZone_follows_congr (Zone.changeMode_eq hv hne) (hfollows.reply ..).kick

end Sys2Proof.Machine
end

section
/-! The cue at an output frame (R58 to R62): it sees the frame when the fades and their demands are done, and what its entries do
is told by the looks of the zones alone. -/

namespace Sys2Proof.Machine

/-! ## Changes that the look of a zone tells -/

/-- A change of a zone whose effect on the look is told by the look. -/
def respectsLooks (f : Zone → Zone) : Prop := ∀ z, (f z).look = (f z.look).look

theorem respectsLooks.eq {f : Zone → Zone} (h : respectsLooks f) {y z : Zone} (e : y.look = z.look) :
    (f y).look = (f z).look := by rw [h y, h z, e]

theorem respectsLooks.comp {f g : Zone → Zone} (hg : respectsLooks g) (hf : respectsLooks f) :
    respectsLooks fun z => g (f z) := fun z => hg.eq (hf z)

theorem respectsLooks_id : respectsLooks fun z => z := fun _ => by simp [Zone.look, Function.comp_def]

/-- A channel without its output. -/
def Channel.muted (c : Channel) : Channel := { c with output := 0 }

/-- A change of each channel that does not tell of its output. -/
theorem respectsLooks_onChannels {f : Fin 4 → Channel → Channel} (h : ∀ i c, (f i c).muted = (f i c.muted).muted) :
    respectsLooks fun z => z.onChannels f := by
  intro z
  have hchannels : (z.onChannels f).channels.map Channel.muted = (z.look.onChannels f).channels.map Channel.muted := by
    apply Vector.ext
    intro i hi
    simp only [Zone.onChannels, Zone.look, Vector.getElem_map, Vector.getElem_ofFn, Fin.getElem_fin]
    exact h ⟨i, hi⟩ z.channels[i]
  exact congrArg (fun l => ({ z.look with channels := l } : Zone)) hchannels

theorem Channel.changeLevel_muted (mode : ZoneMode) (l fade : Nat) (c : Channel) :
    (c.changeLevel mode l fade).muted = (c.muted.changeLevel mode l fade).muted := by
  unfold Channel.changeLevel
  simp only [apply_ite Channel.muted]
  rfl

theorem changeLevels_respectsLooks (l : Vector (Option Nat) 4) (fade : Nat) : respectsLooks (Zone.changeLevels l fade) := by
  intro z
  refine respectsLooks_onChannels (fun i c => ?_) z
  cases l[i] with
  | none => rfl
  | some l => exact Channel.changeLevel_muted ..

theorem changeSetpoint_respectsLooks (v : Nat) : respectsLooks (Zone.changeSetpoint v) := fun z => by
  simp [Zone.changeSetpoint, Zone.look, Function.comp_def]

theorem enterMode_respectsLooks (mode : ZoneMode) : respectsLooks (Zone.enterMode mode) := by
  have hmoded : respectsLooks fun z => { z with mode } := fun z => by simp [Zone.look, Function.comp_def]
  have hstep (p : Nat → Prop) [DecidablePred p] (l : Nat) (i : Fin 4) (c : Channel) :
      (if p c.target then c.changeLevel mode l 3000 else c).muted
        = (if p c.muted.target then c.muted.changeLevel mode l 3000 else c.muted).muted := by
    rw [apply_ite Channel.muted, apply_ite Channel.muted, Channel.changeLevel_muted]
    rfl
  cases mode with
  | occupied => exact hmoded
  | eco => exact (respectsLooks_onChannels (hstep (600 < ·) 600)).comp hmoded
  | vacant => exact (respectsLooks_onChannels (hstep (· ≠ 0) 0)).comp hmoded

theorem changeMode_respectsLooks (v : Nat) : respectsLooks (Zone.changeMode v) := by
  intro z
  unfold Zone.changeMode
  rw [show z.look.mode = z.mode from rfl]
  split
  · split
    · exact respectsLooks_id z
    · exact enterMode_respectsLooks _ z
  · exact respectsLooks_id z

theorem recall_respectsLooks (r : Scene) : respectsLooks (Zone.recall r) := by
  have hmoded : respectsLooks fun z => match r.mode with | some m => z.changeMode m | none => z := by
    cases r.mode with
    | none => exact respectsLooks_id
    | some m => exact changeMode_respectsLooks m
  have hlit := (changeLevels_respectsLooks r.levels r.fade).comp hmoded
  unfold Zone.recall
  cases r.setpoint with
  | none => exact hlit
  | some v => exact (changeSetpoint_respectsLooks v).comp hlit

theorem apply_respectsLooks (scenes : Vector Scene 32) (c : CueChange) : respectsLooks (c.apply scenes) := by
  cases c with
  | scene n => exact recall_respectsLooks _
  | levels l fade => exact changeLevels_respectsLooks l fade
  | setpoint v => exact changeSetpoint_respectsLooks v
  | mode v => exact changeMode_respectsLooks v

/-- What the entries of a cue do to the looks is told by the looks. -/
theorem applyEntries_looks (scenes : Vector Scene 32) (entries : List CueEntry) {y z : Vector Zone 24}
    (h : y.map Zone.look = z.map Zone.look) :
    (applyEntries scenes entries y).map Zone.look = (applyEntries scenes entries z).map Zone.look := by
  unfold applyEntries
  induction entries generalizing y z with
  | nil => exact h
  | cons e rest ih =>
    rw [List.foldl_cons, List.foldl_cons]
    refine ih ?_
    have hzone : y[e.zone].look = z[e.zone].look := by simpa using congrArg (·[e.zone]) h
    simp only [Vector.map_set, h, (apply_respectsLooks scenes e.change).eq hzone]

end Sys2Proof.Machine
end

section
/-! The output frame while a commit is pending (R29, R53, R58, R60, R62). -/

namespace Sys2Proof.Machine

/-! ## The effect of an entry, as R60 says it -/

theorem Zone.recall_eq (r : Scene) (z : Zone) :
    z.recall r =
      let y := (r.mode.elim z fun m => z.changeMode m).changeLevels r.levels r.fade
      r.setpoint.elim y fun v => y.changeSetpoint v := by
  unfold Zone.recall
  cases r.mode <;> cases r.setpoint <;> rfl

/-! ## The CUE_APPLIED report -/

/-- The transmitter takes the first entry of a key. -/
theorem chooseReport_first {q : List ReportEntry} {e : ReportEntry} (h : chooseReport q = some e) :
    q.find? (·.key = e.key) = some e := by
  simp only [chooseReport, Option.or_eq_some_iff] at h
  rcases h with h | ⟨-, h | ⟨-, h⟩⟩
  · have hkey : e.key = .start := by simpa using List.find?_some h
    rwa [hkey]
  · obtain ⟨hurgent, before, after, rfl, hbefore⟩ := List.find?_eq_some_iff_append.1 h
    refine List.find?_eq_some_iff_append.2 ⟨by simp, before, after, rfl, fun x hx => ?_⟩
    have hx' := hbefore x hx
    simp only [Bool.not_eq_true', decide_eq_false_iff_not] at hx' ⊢
    intro hkey
    rw [hkey, hurgent] at hx'
    cases hx'
  · cases q with
    | nil => cases h
    | cons x rest =>
      obtain rfl := Option.some.inj h
      simp

/-- A report that waits first of its key waits on or is sent. -/
theorem State.kick_reported {s : State} {key : ReportKey} {c : List Byte}
    (h : s.link.reports.find? (·.key = key) = some ⟨key, c⟩) : s.kick.reported key c := by
  have waits : s.reported key c := .inl (List.mem_of_find?_eq_some h)
  unfold State.kick
  split
  · exact waits
  · exact .inl (List.mem_of_find?_eq_some h)
  · split
    · exact waits
    · split
      · exact waits
      · next e he =>
        by_cases hk : e.key = key
        · obtain rfl : e = ⟨key, c⟩ := by
            have := chooseReport_first he
            rw [hk, h] at this
            exact (Option.some.inj this).symm
          exact .inr ⟨_, rfl, rfl, rfl⟩
        · exact .inl (List.mem_of_find?_eq_some ((find_takeReport_other hk _).trans h))

/-! ## The two ends of a pending frame -/

/-- The mode of the commit, late due and the fades of the named zones decide (R58). -/
def State.cueDue (m : CommitMode) (s : State) : Prop := m = .atFrame ∨ s.cue.lateDue = true ∨ s.cueFading = false

/-- The cue is applied late when late due decides (R58, R62). -/
def State.cueLate (m : CommitMode) (s : State) : Bool := decide (m = .afterFades) && s.cue.lateDue

/-- One more frame has been waited, up to the counter's end (R53). -/
def State.waitFrame (s : State) : State :=
  { s with cue := { s.cue with framesWaited := min 3100 (s.cue.framesWaited + 1) } }

theorem cueFrame_due {m : CommitMode} {s : State} (hm : s.cue.commit = some m) (h : s.cueDue m) :
    cueFrame s = applyCue m (s.cueLate m) s.waitFrame := by
  unfold cueFrame State.cueLate
  rw [hm]
  cases m with
  | atFrame => rfl
  | afterFades =>
    rcases h with h | h | h
    · cases h
    · simp [h, State.waitFrame]
    · cases hl : s.cue.lateDue <;> simp [h, State.waitFrame]

theorem cueFrame_waits {m : CommitMode} {s : State} (hm : s.cue.commit = some m) (h : ¬ s.cueDue m) :
    cueFrame s = (s.waitFrame, []) := by
  obtain ⟨hmode, hlate, hfading⟩ : m ≠ .atFrame ∧ ¬ s.cue.lateDue = true ∧ s.cueFading = true := by
    simpa [State.cueDue, not_or] using h
  unfold cueFrame
  rw [hm]
  cases m with
  | atFrame => exact absurd rfl hmode
  | afterFades => simp [hlate, hfading, State.waitFrame]

theorem State.cueFading_eq_false (s : State) :
    s.cueFading = false ↔ ∀ e ∈ s.cue.entries, s.zones[e.zone].isFading = false := by
  simp only [State.cueFading, List.any_eq_false, mem_namedZones, Bool.not_eq_true]
  exact ⟨fun h e he => h _ ⟨e, he, rfl⟩, fun h z ⟨e, he, hz⟩ => hz ▸ h e he⟩

end Sys2Proof.Machine
end

section
/-! O28: the run of a pending output frame, from the fades to CUE_APPLIED. -/

namespace Sys2Proof.Machine

/-! ## The run of an applied cue -/

/-- The signals that a cue sends: calm ones, and CUE_APPLIED behind them. -/
theorem applyCue_split (m : CommitMode) (late : Bool) (s : State) :
    ∃ l, allCalm l = true ∧ (applyCue m late s).2 = l ++ [.cueApplied m s.cue.entries.length late] := by
  refine ⟨_, ?_, rfl⟩
  rw [allCalm, List.all_flatMap, List.all_eq_true]
  exact fun z _ => settleZone_calm true z _ _

/-- What a run that ends with CUE_APPLIED leaves. -/
structure CueDone (m : CommitMode) (late : Bool) (s t : State) : Prop where
  looks : t.looks = (applyEntries s.config.scenes s.cue.entries s.zones).map Zone.look
  cue : t.cue = { s.cue with entries := [], commit := none, capDeadline := none, lateDue := false }
  report : t.link.reports.find? (·.key = .cueApplied) = some ⟨.cueApplied,
    u8 m.code ++ u8 s.cue.entries.length ++ flag late ++ u16 s.cue.framesWaited⟩

theorem run_cueApplied (n : Nat) (sent : List Outgoing) (m : CommitMode) (count : Nat) (late : Bool) (s : State)
    (hu : (run n sent [.cueApplied m count late] s).unsettled = false) :
    run n sent [.cueApplied m count late] s = cueApplied m count late s := by
  cases n with
  | zero => cases hu
  | succ n =>
    rw [run_succ, turn_handle _ _ _ _ (by simp)]
    exact run_nil _ _ _

theorem run_applyCue (n : Nat) (sent : List Outgoing) (m : CommitMode) (late : Bool) (s : State)
    (hu : (run n sent (applyCue m late s).2 (applyCue m late s).1).unsettled = false) :
    CueDone m late s (run n sent (applyCue m late s).2 (applyCue m late s).1) := by
  obtain ⟨l, hl, hsignals⟩ := applyCue_split m late s
  rw [hsignals] at hu ⊢
  rcases run_calm_then n sent [.cueApplied m s.cue.entries.length late] (applyCue m late s).1 hl with
    ⟨n', sent', u, hrun, haspect, -⟩ | ⟨hrun, -⟩
  · rw [hrun] at hu ⊢
    rw [run_cueApplied _ _ _ _ _ _ hu]
    have hcue : u.cue = s.cue := congrArg Prod.snd haspect
    refine ⟨congrArg Prod.fst haspect, ?_, ?_⟩
    · simp only [cueApplied, hcue]
    · rw [← hcue]
      exact find_postTo_same ..
  · rw [hu] at hrun
    cases hrun

/-! ## The run of a pending frame -/

/-- The state in which the Cue Unit sees the frame: the fades have advanced, and what their ends led to is done. -/
theorem run_to_cueFrame (s : State) (hu : (settle (frameSignals s)).unsettled = false) :
    ∃ n sent u, settle (frameSignals s) = run n sent (cueFrame u).2 (cueFrame u).1
      ∧ u.aspect = (frameSignals s).1.aspect ∧ u.config = s.config := by
  obtain ⟨l, hl, hsignals⟩ := frameSignals_split s
  rw [settle, hsignals] at hu ⊢
  rcases run_calm_then signalBound [] [.cueFrame] (frameSignals s).1 hl with ⟨n, sent, u, hrun, haspect, hstill⟩ | ⟨hrun, -⟩
  · rw [hrun] at hu ⊢
    cases n with
    | zero => cases hu
    | succ n =>
      refine ⟨n, sent, u, ?_, haspect, (State.config_of_still hstill).trans rfl⟩
      rw [run_succ, turn_handle _ _ _ _ (by simp)]
      simp only [handle, Signal.outgoing, List.append_nil]
  · rw [hu] at hrun
    cases hrun

/-- What the frame shows the Cue Unit: the looks of the advanced zones, and the staged cue. -/
theorem State.seen_of_aspect {s u : State} (h : u.aspect = (frameSignals s).1.aspect) :
    u.zones.map Zone.look = (s.zones.map Zone.frame).map Zone.look ∧ u.cue = s.cue :=
  ⟨congrArg Prod.fst h, congrArg Prod.snd h⟩

theorem cueDue_iff {m : CommitMode} {s u : State} (hlooks : u.zones.map Zone.look = (s.zones.map Zone.frame).map Zone.look)
    (hcue : u.cue = s.cue) :
    u.cueDue m ↔ m = .atFrame ∨ s.cue.lateDue = true ∨
      ∀ e ∈ s.cue.entries, (s.zones.map Zone.frame)[e.zone].isFading = false := by
  have hfading (y : Fin 24) : u.zones[y].isFading = (s.zones.map Zone.frame)[y].isFading := by
    have hlook : u.zones[y].look = (s.zones.map Zone.frame)[y].look := by simpa using congrArg (·[y]) hlooks
    rw [← Zone.isFading_look, hlook, Zone.isFading_look]
  rw [State.cueDue, State.cueFading_eq_false, hcue]
  simp only [hfading]

/-- Settles O28: the frame's calm signals end, the Cue Unit decides, and where the cue is applied its calm signals end before
CUE_APPLIED. -/
theorem pendingCueIsAppliedAtItsFrame : Obligations.PendingCueIsAppliedAtItsFrame := by
  unfold Obligations.PendingCueIsAppliedAtItsFrame
  refine fun m s hm => ⟨_, rfl, ?_, fun hu => ?_⟩
  · rw [State.kick_fixed, settle_fixed]
    rfl
  intro level lit warmed moded act advanced waited late
  have hlit (z : Zone) (l : Vector (Option Nat) 4) (fade : Nat) : lit z l fade = z.changeLevels l fade :=
    (Zone.changeLevels_eq l fade z).symm
  have hwarmed (z : Zone) : warmed z = fun v => z.changeSetpoint v := by
    simp only [warmed, ← clampSetpoint_eq]
    rfl
  have hlevel (mode : ZoneMode) (c : Channel) (l fade : Nat) : level mode c l fade = c.changeLevel mode l fade :=
    (Channel.changeLevel_eq mode l fade c).symm
  have hmoded (z : Zone) : moded z = fun v => z.changeMode v := by
    simp only [moded, hlevel, Zone.changeMode_cases]
  have hact (z : Zone) (c : CueChange) : act z c = c.apply s.config.scenes z := by
    cases c with
    | scene n => simp only [act, hlit, hwarmed, hmoded, CueChange.apply, Zone.recall_eq]
    | levels l fade => exact hlit z l fade
    | setpoint v => exact congrFun (hwarmed z) v
    | mode v => exact congrFun (hmoded z) v
  have hsettled : (settle (frameSignals s)).unsettled = false := (State.kick_same _).2.2.1 ▸ hu
  obtain ⟨n, sent, u, hrun, haspect, hconfig⟩ := run_to_cueFrame s hsettled
  obtain ⟨hlooks, hcue⟩ := State.seen_of_aspect haspect
  have hkick : (settle (frameSignals s)).kick.looks = (settle (frameSignals s)).looks
      ∧ (settle (frameSignals s)).kick.cue = (settle (frameSignals s)).cue :=
    ⟨congrArg Prod.fst (State.kick_aspect _), congrArg Prod.snd (State.kick_aspect _)⟩
  simp only [hact]
  rw [hkick.1, hkick.2]
  rw [hrun] at hsettled ⊢
  have hcommit : u.cue.commit = some m := by rw [hcue, hm]
  by_cases hdue : u.cueDue m
  · rw [if_pos ((cueDue_iff hlooks hcue).1 hdue)]
    rw [cueFrame_due hcommit hdue] at hsettled ⊢
    obtain ⟨hdone, hempty, hreport⟩ := run_applyCue n sent m (u.cueLate m) u.waitFrame hsettled
    refine ⟨hdone.trans ?_, hempty.trans ?_, State.kick_reported (hreport.trans ?_)⟩
    · rw [← applyEntries, ← applyEntries_looks _ _ hlooks]
      simp only [State.waitFrame, hcue, hconfig]
    · simp only [State.waitFrame, hcue]
      rfl
    · simp only [State.waitFrame, State.cueLate, hcue]
      rfl
  · rw [if_neg (mt (cueDue_iff hlooks hcue).2 hdue)]
    rw [cueFrame_waits hcommit hdue, run_nil]
    exact ⟨hlooks, by simp only [State.waitFrame, hcue]; rfl⟩

end Sys2Proof.Machine
end

section
/-! The signals of a start-up (R184): in HOLD mode with no grant anywhere, and with every axis idle or in a fault of its own, each
signal leaves the motion, the pump, the chime and the grants as they start. -/

namespace Sys2Proof.Machine

/-! ## Report keys that wait -/

/-- A report of a key waits in the report queue. -/
def State.keyWaits (s : State) (key : ReportKey) : Prop := ∃ x ∈ s.link.reports, x.key = key

theorem State.keyWaits_iff (s : State) (key : ReportKey) :
    s.keyWaits key ↔ (s.link.reports.find? (·.key = key)).isSome = true := by
  simp [State.keyWaits, List.find?_isSome]

theorem State.keyWaits_post_same (s : State) (key : ReportKey) (c : List Byte) : (s.post key c).keyWaits key := by
  rw [State.keyWaits_iff, State.post, find_postTo_same]
  rfl

theorem State.keyWaits.post {s : State} {k : ReportKey} (h : s.keyWaits k) (key : ReportKey) (c : List Byte) :
    (s.post key c).keyWaits k := by
  by_cases hk : key = k
  · subst hk
    exact s.keyWaits_post_same key c
  · rw [State.keyWaits_iff] at *
    rwa [State.post, find_postTo_other hk]

/-! ## What stands still -/

/-- What every turn of a start-up keeps: programs, chime and pump at their start, HOLD mode with the held peak 0, no grant
anywhere, no demand of pump, windlass or AUX, no current step, and the reports of the keys `K` waiting. -/
structure Starting (K : ReportKey → Prop) (s : State) : Prop where
  contexts : s.contexts = Vector.replicate 16 contextStart
  queues : s.queues = { hatch := [], platform := [], windlass := [] }
  runs : s.runs = runsStart
  chime : s.chime = chimeStart
  pump : s.pump = pumpStart
  mode : s.budget.mode = .hold
  peak : s.budget.heldPeak = 0
  grants : ∀ k : Fin 52, s.budget.slots[k].grant = 0 ∧ s.budget.slots[k].delivered = 0
  demands : ∀ k : Fin 52, 48 ≤ k.val → s.raw k = 0
  current : ∀ a : Axis, (s.axis a).current = none
  waits : ∀ key, K key → s.keyWaits key

variable {K : ReportKey → Prop} {s : State}

theorem Starting.post (h : Starting K s) (key : ReportKey) (c : List Byte) : Starting K (s.post key c) :=
  { h with waits := fun k hk => (h.waits k hk).post key c }

theorem Starting.onZone (h : Starting K s) (z : Fin 24) (f : Zone → Zone) : Starting K (s.onZone z f) := { h with }

theorem Starting.withPermits (h : Starting K s) (p : PerAxis (PerDirection Bool)) : Starting K { s with permits := p } := { h with }

theorem Starting.withDemand (h : Starting K s) {k : Fin 52} (hk : k.val < 48) (d : Nat) : Starting K (s.withDemand k d) :=
  { h with
    pump := by
      have hpump : (s.withDemand k d).pump = { s.pump with run := s.pump.owner.isSome && s.pump.grant == (s.withDemand k d).raw pumpSlot } := rfl
      rw [hpump, h.pump]
      rfl
    grants := fun j => by
      rcases eq_or_ne k j with rfl | hj
      · rw [State.withDemand_slot_same]
        exact h.grants k
      · rw [State.withDemand_slot_other s d hj]
        exact h.grants j
    demands := fun j hj => by
      rw [State.raw, State.withDemand_slot_other s d fun e => by subst e; omega]
      exact h.demands j hj }

/-- In HOLD mode a pass grants nothing where nothing was granted (R17). -/
theorem Starting.passGrants (h : Starting K s) (k : Fin 52) : s.passGrants[k] = 0 :=
  Nat.le_zero.1 ((State.passGrants_hold_le h.mode k).trans_eq (h.grants k).1)

theorem Starting.afterPass (h : Starting K s) : Starting K s.afterPass where
  contexts := s.afterPass_contexts.trans h.contexts
  queues := s.afterPass_queues.trans h.queues
  runs := s.afterPass_runs.trans h.runs
  chime := s.afterPass_chime.trans h.chime
  pump := s.afterPass_pump.trans h.pump
  mode := s.afterPass_mode.trans h.mode
  peak := by rw [State.afterPass_heldPeak, State.passPeak, h.mode]; exact h.peak
  grants k := by rw [State.afterPass_slot, h.passGrants]; exact ⟨rfl, rfl⟩
  demands k hk := (s.raw_afterPass k).trans (h.demands k hk)
  current a := by rw [State.axis, State.afterPass_axes]; exact h.current a
  waits k hk := by rw [State.keyWaits, State.afterPass_link]; exact h.waits k hk

/-- Such a pass sends on its report alone. -/
theorem Starting.passOutgoing (h : Starting K s) :
    s.passOutgoing = [.report s.afterPass.budgetContent s.afterPass.passCopy] := by
  have hnone : s.passChanged = [] := by
    rw [State.passChanged, List.filter_eq_nil_iff]
    intro k _
    simp [-Fin.getElem_fin, h.passGrants, (h.grants k).2]
  simp [State.passOutgoing, hnone]

theorem Starting.reportBudget (h : Starting K s) (content : List Byte) (copy : PostedCopy) :
    Starting K (reportBudget content copy s) := by
  unfold Machine.reportBudget
  split
  · exact h
  · exact { h.post .budget content with }

/-! ## An axis that starts in FAULT -/

/-- The record of an axis that starts beyond its margin (R84, R85). -/
def State.overtravelled (s : State) (a : Axis) : AxisRecord :=
  { axisStart with
    state := .fault, fault := some { kind := .overtravel, position := s.measured a, context := none, count := 1 } }

theorem Starting.head (h : Starting K s) (a : Axis) : s.head a = none := by
  rw [State.head, State.queue, h.queues]
  cases a <;> rfl

theorem enterFault_axis_start (h : Starting K s) {a : Axis} (ha : s.axis a = axisStart) :
    (s.enterFault a .overtravel).axis a = s.overtravelled a := by
  simp only [State.enterFault, State.onAxis_axis_same, h.head, ite_self]
  have hmoved : (s.moveTo a .fault).axis a = { s.axis a with state := .fault, drive := driveOff, stall := none } := by
    simp [State.moveTo, State.onAxis, State.axis]
  rw [hmoved, ha]
  rfl

theorem enterFault_axis_other (s : State) {a b : Axis} (kind : FaultKind) (h : b ≠ a) :
    (s.enterFault a kind).axis b = s.axis b := by
  simp [State.enterFault, State.moveTo, State.onAxis, State.axis, h]

theorem Starting.enterFault (h : Starting K s) {a : Axis} (ha : s.axis a = axisStart) :
    Starting K (s.enterFault a .overtravel) :=
  { h with
    chime := by
      have hchime : (s.enterFault a .overtravel).chime = { s.chime with lanes := s.chime.lanes.set a none } := rfl
      rw [hchime, h.chime]
      cases a <;> rfl
    current := fun b => by
      rcases eq_or_ne b a with rfl | hb
      · rw [enterFault_axis_start h ha]
        rfl
      · rw [enterFault_axis_other s _ hb]
        exact h.current b }

end Sys2Proof.Machine
end

section
/-! The turns of a start-up: what waits, which axes are still to take their fault, and whether the permits are still to be worked
out. -/

namespace Sys2Proof.Machine

/-! ## The signals of a start-up -/

/-- The signals that a start-up sends. -/
def Signal.starts : Signal → Bool
  | .post k d => decide (k.val < 48 ∨ d = 0)
  | .fault _ kind => decide (kind = .overtravel)
  | .pass | .passEnd | .lightDemand _ | .climateWork _ | .reportZone _ _ | .reportFault _ _ _ | .reportAxis _
  | .releasePump _ | .evaluatePermits | .deliverPermit _ _ _ => true
  | _ => false

/-- The signal with which an axis takes its OVERTRAVEL fault. -/
def overtravel (a : Axis) : Signal := .fault a .overtravel

/-- Signals of a start-up without a fault. -/
def sendsNoFault (l : List Signal) : Prop := ∀ x ∈ l, x.starts = true ∧ ∀ a, x ≠ overtravel a

theorem sendsNoFault_nil : sendsNoFault [] := by simp [sendsNoFault]

theorem sendsNoFault.append {l m : List Signal} (hl : sendsNoFault l) (hm : sendsNoFault m) : sendsNoFault (l ++ m) :=
  fun x hx => (List.mem_append.1 hx).elim (hl x) (hm x)

theorem sendsNoFault_post {k : Fin 52} (h : k.val < 48) (d : Nat) : sendsNoFault [.post k d] := by
  simp [sendsNoFault, Signal.starts, overtravel, h]

/-- What a pass has sent on is its report alone. -/
def reportsOnly (sent : List Outgoing) : Prop := ∀ item ∈ sent, ∃ c copy, item = .report c copy

/-! ## Between the turns -/

/-- The record of an axis while these signals wait: in FAULT once it has taken its fault. -/
def State.startAxis (s : State) (l : List Signal) (a : Axis) : AxisRecord :=
  if beyondMargin s.config.gear a (s.measured a) = true ∧ overtravel a ∉ l then s.overtravelled a else axisStart

/-- A start-up between two turns, with the waiting signals: each fault waits once, for an axis that is still idle. Where `c`
holds the records of the axes are told, and the permits, which are worked out last of all or stand worked out. -/
structure StartTurn (c : Prop) (K : ReportKey → Prop) (l : List Signal) (s : State) : Prop where
  starting : Starting K s
  signals : ∀ x ∈ l, x.starts = true
  once : l.Pairwise fun x y => ∀ a, x = overtravel a → y ≠ x
  idle : ∀ a, overtravel a ∈ l → s.axis a = axisStart ∧ beyondMargin s.config.gear a (s.measured a) = true
  axes : c → ∀ a, s.axis a = s.startAxis l a
  permits : c → l.getLast? = some .evaluatePermits ∨ ((∀ a, overtravel a ∉ l) ∧ s.permits = s.workedPermits)

variable {c : Prop} {K : ReportKey → Prop} {s t : State} {x : Signal} {rest more : List Signal}

theorem State.measured_of_still (h : t.still = s.still) (a : Axis) : t.measured a = s.measured a := by
  obtain ⟨-, -, -, hconfig, -, -, -, -, hsensors, hcount, -⟩ := State.fixed_fields (State.fixed_of_still h)
  cases a <;> simp only [State.measured, hconfig, hsensors, hcount]

/-- The permits tell of what a start-up keeps, and of the axes. -/
theorem State.workedPermits_congr (h : t.still = s.still) (ha : t.axes = s.axes) : t.workedPermits = s.workedPermits := by
  obtain ⟨-, -, -, hconfig, -, -, -, -, hsensors, -, hinputs, hvessel, -⟩ := State.fixed_fields (State.fixed_of_still h)
  have e (u : State) : u.workedPermits = ({ State.reset with
      config := u.config, sensors := u.sensors, inputs := u.inputs, vessel := u.vessel, axes := u.axes } : State).workedPermits := rfl
  rw [e t, e s, hconfig, hsensors, hinputs, hvessel, ha]

theorem State.startAxis_congr (h : t.still = s.still) {l m : List Signal} {a : Axis} (hl : overtravel a ∈ m ↔ overtravel a ∈ l) :
    t.startAxis m a = s.startAxis l a := by
  simp only [State.startAxis, State.overtravelled, State.measured_of_still h, State.config_of_still h, hl]

theorem sendsNoFault.mem_append (h : sendsNoFault more) (l : List Signal) (a : Axis) :
    overtravel a ∈ more ++ l ↔ overtravel a ∈ l := by
  rw [List.mem_append, or_iff_right fun hm => (h _ hm).2 a rfl]

theorem sendsNoFault.once_append (h : sendsNoFault more) {l : List Signal}
    (hl : l.Pairwise fun x y => ∀ a, x = overtravel a → y ≠ x) :
    (more ++ l).Pairwise fun x y => ∀ a, x = overtravel a → y ≠ x := by
  refine List.pairwise_append.2 ⟨List.pairwise_of_forall_mem_list fun x hx _ _ a e => ?_, hl, fun x hx _ _ a e => ?_⟩ <;>
    exact absurd e ((h x hx).2 a)

/-- The last signal stays the last. -/
theorem getLast_append_of_cons {α : Type} {x y : α} {l m : List α} (h : (x :: l).getLast? = some y) (hx : l = [] → x ≠ y) :
    (m ++ l).getLast? = some y := by
  cases l with
  | nil => exact absurd (by simpa using h) (hx rfl)
  | cons z l =>
    rw [List.getLast?_cons_cons] at h
    rw [List.getLast?_append, h]
    rfl

/-- A turn that leaves the axes and the permits. -/
theorem StartTurn.quiet (h : StartTurn c K (x :: rest) s) (ht : Starting K t) (hstill : t.still = s.still)
    (haxes : t.axes = s.axes) (hpermits : t.permits = s.permits) (hx : x ≠ .evaluatePermits) (hfault : ∀ a, x ≠ overtravel a)
    (hmore : sendsNoFault more) : StartTurn c K (more ++ rest) t := by
  have haxis (a : Axis) : t.axis a = s.axis a := congrArg (PerAxis.get · a) haxes
  have hmem (a : Axis) : overtravel a ∈ more ++ rest ↔ overtravel a ∈ x :: rest := by
    rw [hmore.mem_append, List.mem_cons, or_iff_right (hfault a).symm]
  refine ⟨ht, fun y hy => ?_, hmore.once_append (List.pairwise_cons.1 h.once).2, fun a ha => ?_, fun hc a => ?_, fun hc => ?_⟩
  · rcases List.mem_append.1 hy with hy | hy
    · exact (hmore y hy).1
    · exact h.signals y (List.mem_cons_of_mem _ hy)
  · rw [haxis, State.config_of_still hstill, State.measured_of_still hstill]
    exact h.idle a ((hmem a).1 ha)
  · rw [haxis, State.startAxis_congr hstill (hmem a)]
    exact h.axes hc a
  · refine (h.permits hc).imp (fun hp => ?_) fun ⟨hnone, hp⟩ => ⟨fun a ha => hnone a ((hmem a).1 ha), ?_⟩
    · exact getLast_append_of_cons hp fun _ => hx
    · rw [hpermits, hp, State.workedPermits_congr hstill haxes]

/-- A turn that does nothing. -/
theorem StartTurn.skip (h : StartTurn c K (x :: rest) s) (hx : x ≠ .evaluatePermits) (hfault : ∀ a, x ≠ overtravel a) :
    StartTurn c K rest s :=
  h.quiet h.starting rfl rfl rfl hx hfault sendsNoFault_nil

/-! ## Faults and permits -/

theorem faultReleases_starts (a : Axis) : sendsNoFault (faultReleases a) := by
  cases a <;> simp [faultReleases, windlassDemand, pumpSignals, hydraulicOf, sendsNoFault, Signal.starts, overtravel]

theorem idleSignals_starts (a : Axis) : sendsNoFault (idleSignals a) := by
  cases a <;> simp [idleSignals, sendsNoFault, Signal.starts, overtravel]

/-- The OVERTRAVEL fault of an axis that is idle. -/
theorem handle_overtravel (h : Starting K s) {a : Axis} (ha : s.axis a = axisStart) :
    handle (overtravel a) s = (s.enterFault a .overtravel,
      faultReleases a ++ [.reportFault a .overtravel (s.measured a), .reportAxis a] ++ idleSignals a) := by
  have hhead : faultHead a (s.axis a).executes (s.enterFault a .overtravel) = (s.enterFault a .overtravel, faultReleases a) := by
    rw [faultHead, (h.enterFault ha).head]
  have hstate : (s.axis a).state = .idle := by rw [ha]; rfl
  simp [handle, overtravel, fault, FaultKind.detectedIn, hhead, hstate]

theorem StartTurn.fault {a : Axis} (h : StartTurn c K (overtravel a :: rest) s) :
    StartTurn c K ((handle (overtravel a) s).2 ++ rest) (handle (overtravel a) s).1 := by
  have hstill : (handle (overtravel a) s).1.still = s.still := handle_still _ s
  obtain ⟨haxis, hbeyond⟩ := h.idle a List.mem_cons_self
  obtain ⟨honce, hrest⟩ := List.pairwise_cons.1 h.once
  have hmine : overtravel a ∉ rest := fun hm => honce _ hm a rfl rfl
  rw [handle_overtravel h.starting haxis] at hstill ⊢
  set more := faultReleases a ++ [.reportFault a .overtravel (s.measured a), .reportAxis a] ++ idleSignals a
  have hmore : sendsNoFault more := by
    refine ((faultReleases_starts a).append ?_).append (idleSignals_starts a)
    simp [sendsNoFault, Signal.starts, overtravel]
  have hother {b : Axis} (hb : b ≠ a) : overtravel b ∈ more ++ rest ↔ overtravel b ∈ overtravel a :: rest := by
    rw [hmore.mem_append, List.mem_cons, or_iff_right (by simpa [overtravel] using hb)]
  refine ⟨h.starting.enterFault haxis, fun y hy => ?_, hmore.once_append hrest, fun b hb => ?_, fun hc b => ?_, fun hc => .inl ?_⟩
  · rcases List.mem_append.1 hy with hy | hy
    · exact (hmore y hy).1
    · exact h.signals y (List.mem_cons_of_mem _ hy)
  · have hne : b ≠ a := fun e => hmine (e ▸ (hmore.mem_append rest b).1 hb)
    rw [enterFault_axis_other s _ hne, State.config_of_still hstill, State.measured_of_still hstill]
    exact h.idle b ((hother hne).1 hb)
  · rcases eq_or_ne b a with rfl | hb
    · have hgone : overtravel b ∉ more ++ rest := fun hm => hmine ((hmore.mem_append rest b).1 hm)
      rw [enterFault_axis_start h.starting haxis, State.startAxis, State.config_of_still hstill,
        State.measured_of_still hstill, if_pos ⟨hbeyond, hgone⟩, State.overtravelled, State.overtravelled,
        State.measured_of_still hstill]
    · rw [enterFault_axis_other s _ hb, State.startAxis_congr hstill (hother hb)]
      exact h.axes hc b
  · rcases h.permits hc with hp | ⟨hnone, -⟩
    · exact getLast_append_of_cons hp fun _ => by simp [overtravel]
    · exact absurd List.mem_cons_self (hnone a)

theorem StartTurn.evaluatePermits (h : StartTurn c K (.evaluatePermits :: rest) s) :
    StartTurn c K ((evaluatePermits s).2 ++ rest) (evaluatePermits s).1 := by
  have hmore : sendsNoFault (Machine.evaluatePermits s).2 := by
    intro y hy
    obtain ⟨p, -, rfl⟩ := List.mem_map.1 hy
    exact ⟨rfl, fun a => by simp [overtravel]⟩
  have hmem (a : Axis) : overtravel a ∈ (Machine.evaluatePermits s).2 ++ rest ↔ overtravel a ∈ .evaluatePermits :: rest := by
    rw [hmore.mem_append, List.mem_cons, or_iff_right (by simp [overtravel])]
  refine ⟨h.starting.withPermits _, fun y hy => ?_, hmore.once_append (List.pairwise_cons.1 h.once).2, fun a ha => ?_,
    fun hc a => ?_, fun hc => ?_⟩
  · rcases List.mem_append.1 hy with hy | hy
    · exact (hmore y hy).1
    · exact h.signals y (List.mem_cons_of_mem _ hy)
  · exact h.idle a ((hmem a).1 ha)
  · exact (h.axes hc a).trans (State.startAxis_congr (handle_still .evaluatePermits s) (hmem a)).symm
  · rcases h.permits hc with hp | ⟨hnone, -⟩
    · cases rest with
      | nil => exact .inr ⟨fun a ha => by simpa [overtravel] using (hmem a).1 ha, rfl⟩
      | cons y rest => exact .inl (getLast_append_of_cons hp (by simp))
    · exact .inr ⟨fun a ha => hnone a ((hmem a).1 ha), rfl⟩

/-! ## Every turn -/

theorem turn_report (item : Outgoing) (later : List Outgoing) (rest : List Signal) (s : State) :
    turn (item :: later) .passEnd rest s = (later, (sendOn item s).2 ++ .passEnd :: rest, (sendOn item s).1) := rfl

/-- A pass alone sends grants and a report on. -/
theorem Signal.outgoing_of_ne {x : Signal} (h : x ≠ .pass) (s : State) : x.outgoing s = [] := by
  unfold Signal.outgoing
  split
  · exact absurd rfl h
  · rfl

/-- A demand of a zone. -/
theorem StartTurn.zoneDemand {k : Fin 52} {d : Nat} (h : StartTurn c K (.post k d :: rest) s) (hk : k.val < 48) :
    StartTurn c K ((postDemand k d s).2 ++ rest) (postDemand k d s).1 := by
  unfold postDemand
  split
  · exact h.skip (by simp) (by simp [overtravel])
  · exact h.quiet (h.starting.withDemand hk d) rfl rfl rfl (by simp) (by simp [overtravel])
      (by simp [sendsNoFault, Signal.starts, overtravel])

/-- A demand that is withdrawn where none stands. -/
theorem StartTurn.noDemand {k : Fin 52} (h : StartTurn c K (.post k 0 :: rest) s) (hk : 48 ≤ k.val) :
    StartTurn c K ((postDemand k 0 s).2 ++ rest) (postDemand k 0 s).1 := by
  rw [postDemand, if_pos (h.starting.demands k hk).symm]
  exact h.skip (by simp) (by simp [overtravel])

theorem handle_releasePump_start (h : Starting K s) (p : Hydraulic) : handle (.releasePump p) s = (s, []) := by
  have hpump : s.pump.owner = none ∧ s.pump.waiting = none := by rw [h.pump]; exact ⟨rfl, rfl⟩
  simp [handle, releasePump, hpump]

theorem handle_deliverPermit_start (h : Starting K s) (a : Axis) (d : Direction) (v : Bool) :
    handle (.deliverPermit a d v) s = (s, []) := by
  have hstep : (s.axis a).stepDirection ≠ some d := by simp [AxisRecord.stepDirection, h.current a]
  simp only [handle, deliverPermit, hstep, false_and, if_false]

/-- A signal that only posts a report. -/
theorem StartTurn.report (h : StartTurn c K (x :: rest) s) (ht : t = s ∨ ∃ key content, t = s.post key content)
    (hx : x ≠ .evaluatePermits) (hfault : ∀ a, x ≠ overtravel a) : StartTurn c K rest t := by
  rcases ht with rfl | ⟨key, content, rfl⟩
  · exact h.skip hx hfault
  · exact h.quiet (more := []) (h.starting.post key content) rfl rfl rfl hx hfault sendsNoFault_nil

theorem StartTurn.handle (h : StartTurn c K (x :: rest) s) (hpass : x ≠ .pass) (hend : x ≠ .passEnd) :
    StartTurn c K ((handle x s).2 ++ rest) (handle x s).1 := by
  have hx := h.signals x List.mem_cons_self
  cases x with
  | post k d =>
    by_cases hk : k.val < 48
    · exact h.zoneDemand hk
    · obtain rfl : d = 0 := (of_decide_eq_true hx).resolve_left hk
      exact h.noDemand (Nat.le_of_not_lt hk)
  | fault a kind =>
    obtain rfl : kind = .overtravel := of_decide_eq_true hx
    exact h.fault
  | pass => exact absurd rfl hpass
  | passEnd => exact absurd rfl hend
  | lightDemand z =>
    have hz : (lightSlot z).val < 48 := by simp only [lightSlot]; omega
    have ht : Starting K (lightDemand z s).1 := h.starting.onZone z fun r =>
      ({ r with demand := lightingDemand s.config.zones[z].rated s.zones[z].channels } : Zone).rescale
    exact h.quiet ht rfl rfl rfl (by simp) (by simp [overtravel]) (sendsNoFault_post hz _)
  | climateWork z =>
    have hz : (climateSlot z).val < 48 := by simp only [climateSlot]; omega
    have ht : Starting K (climateWork z s).1 := h.starting.onZone z fun _ => s.zones[z].workOut s.config.zones[z]
    exact h.quiet ht rfl rfl rfl (by simp) (by simp [overtravel]) (sendsNoFault_post hz _)
  | reportZone z b =>
    refine h.report ?_ (by simp) (by simp [overtravel])
    simp only [Machine.handle, reportZoneChange]
    split
    · exact .inr ⟨_, _, rfl⟩
    · exact .inl rfl
  | reportFault a k p =>
    refine h.report ?_ (by simp) (by simp [overtravel])
    simp only [Machine.handle, reportFault]
    split
    · exact .inl rfl
    · exact .inr ⟨_, _, rfl⟩
  | reportAxis a => exact h.report (.inr ⟨_, _, rfl⟩) (by simp) (by simp [overtravel])
  | releasePump p =>
    rw [handle_releasePump_start h.starting]
    exact h.skip (by simp) (by simp [overtravel])
  | evaluatePermits => exact h.evaluatePermits
  | deliverPermit a d v =>
    rw [handle_deliverPermit_start h.starting]
    exact h.skip (by simp) (by simp [overtravel])
  | _ => cases hx

theorem StartTurn.turn {sent : List Outgoing} (h : StartTurn c K (x :: rest) s) (hsent : reportsOnly sent) :
    StartTurn c K (turn sent x rest s).2.1 (turn sent x rest s).2.2 ∧ reportsOnly (turn sent x rest s).1 := by
  have still := turn_still sent x rest s
  rcases eq_or_ne x .passEnd with rfl | hend
  · cases sent with
    | nil => exact ⟨h.skip (by simp) (by simp [overtravel]), hsent⟩
    | cons item later =>
      obtain ⟨content, copy, rfl⟩ := hsent item List.mem_cons_self
      refine ⟨?_, fun y hy => hsent y (List.mem_cons_of_mem _ hy)⟩
      refine h.quiet (more := [.passEnd]) (h.starting.reportBudget content copy) still ?_ ?_ (by simp) (by simp [overtravel])
        (by simp [sendsNoFault, Signal.starts, overtravel])
      · show (reportBudget content copy s).axes = s.axes
        unfold reportBudget
        split <;> rfl
      · show (reportBudget content copy s).permits = s.permits
        unfold reportBudget
        split <;> rfl
  · rw [turn_handle sent x rest s hend] at still ⊢
    rcases eq_or_ne x .pass with rfl | hpass
    · refine ⟨h.quiet (more := [.passEnd]) h.starting.afterPass still s.afterPass_axes s.afterPass_permits (by simp)
        (by simp [overtravel]) (by simp [sendsNoFault, Signal.starts, overtravel]), fun y hy => ?_⟩
      rcases List.mem_append.1 hy with hy | hy
      · exact hsent y hy
      · rw [show Signal.pass.outgoing s = s.passOutgoing from rfl, h.starting.passOutgoing] at hy
        exact ⟨_, _, List.mem_singleton.1 hy⟩
    · rw [Signal.outgoing_of_ne hpass, List.append_nil]
      exact ⟨h.handle hpass hend, hsent⟩

theorem StartTurn.run {l : List Signal} {sent : List Outgoing} (h : StartTurn c K l s) (hsent : reportsOnly sent) (n : Nat) :
    StartTurn c K [] (run n sent l s) ∨ ((run n sent l s).unsettled = true ∧ Starting K (run n sent l s)) := by
  induction n generalizing sent l s with
  | zero =>
    cases l with
    | nil => exact .inl h
    | cons x rest => exact .inr ⟨rfl, { h.starting with }⟩
  | succ n ih =>
    cases l with
    | nil => exact .inl h
    | cons x rest =>
      obtain ⟨hturn, hlater⟩ := h.turn hsent
      exact ih hturn hlater

/-! ## Events of a start-up -/

/-- A start-up between two events: within the bound of signals the axes and the permits are told as well. -/
structure StartUp (K : ReportKey → Prop) (s : State) : Prop where
  starting : Starting K s
  told : s.unsettled = false → (∀ a, s.axis a = s.startAxis [] a) ∧ s.permits = s.workedPermits

/-- An event of a start-up. -/
theorem StartTurn.settle {k : Handled} (h : StartTurn (k.1.unsettled = false) K k.2 k.1) : StartUp K (settle k) := by
  rcases h.run (sent := []) (by simp [reportsOnly]) signalBound with hend | ⟨hu, hend⟩
  · refine ⟨hend.starting, fun hu => ?_⟩
    have hc := settle_unsettled hu
    exact ⟨hend.axes hc, ((hend.permits hc).resolve_left (by simp)).2⟩
  · refine ⟨hend, fun hn => ?_⟩
    rw [Machine.settle, hu] at hn
    cases hn

end Sys2Proof.Machine
end

section
/-! The events of a start-up: the faults and the permits at its step 4, and the start scene of each zone at its step 5 (R52, R71,
R184). -/

namespace Sys2Proof.Machine

variable {K : ReportKey → Prop} {s t : State}

/-! ## Step 4 -/

/-- The state of step 4 before anything follows from it: the levels read afresh, and the pulse count with them. -/
def State.installing (levels : Inputs) (s : State) : State :=
  { s with inputs := levels, gypsy := { s.gypsy with count := if levels.anchorHome then 0 else s.gypsy.count } }

/-- The signals of step 4. -/
def State.installSignals (s : State) : List Signal :=
  ((allAxes.filter fun a => beyondMargin s.config.gear a (s.measured a)).map overtravel) ++ [.evaluatePermits]

theorem install_eq (levels : Inputs) (s : State) :
    install levels s = settle (s.installing levels, (s.installing levels).installSignals) := rfl

theorem mem_installSignals (s : State) (a : Axis) :
    overtravel a ∈ s.installSignals ↔ beyondMargin s.config.gear a (s.measured a) = true := by
  cases a <;> simp [State.installSignals, overtravel, allAxes]

theorem installSignals_once (s : State) :
    s.installSignals.Pairwise fun x y => ∀ a, x = overtravel a → y ≠ x := by
  have hinj : Function.Injective overtravel := fun a b h => by simpa [overtravel] using h
  have hnodup : ((allAxes.filter fun a => beyondMargin s.config.gear a (s.measured a)).map overtravel).Nodup :=
    List.Nodup.map hinj (List.Nodup.filter _ (by decide))
  refine List.pairwise_append.2 ⟨hnodup.imp fun h _ _ => h.symm, List.pairwise_singleton _ _, fun x _ y hy a e h => ?_⟩
  rw [List.mem_singleton.1 hy, e] at h
  cases h

theorem installSignals_calm (s : State) : allCalm s.installSignals = true := by
  simp [State.installSignals, allCalm, Signal.calm, overtravel]

theorem installSignals_starts (s : State) : ∀ x ∈ s.installSignals, x.starts = true := by
  intro x hx
  rcases List.mem_append.1 hx with hx | hx
  · obtain ⟨a, -, rfl⟩ := List.mem_map.1 hx
    simp [overtravel, Signal.starts]
  · rw [List.mem_singleton.1 hx]
    rfl

/-- Step 4 from the start values. -/
theorem installed (hs : Starting K s) (haxes : ∀ a, s.axis a = axisStart) (levels : Inputs) : StartUp K (install levels s) := by
  rw [install_eq]
  have haxis (a : Axis) : (s.installing levels).axis a = axisStart := haxes a
  refine StartTurn.settle ⟨{ hs with }, installSignals_starts _, installSignals_once _, fun a ha => ?_, fun _ a => ?_, fun _ => .inl ?_⟩
  · exact ⟨haxis a, (mem_installSignals _ a).1 ha⟩
  · rw [haxis, State.startAxis, if_neg fun h => h.2 ((mem_installSignals _ a).2 h.1)]
  · simp [State.installSignals]

theorem install_aspect (levels : Inputs) (s : State) : (install levels s).aspect = s.aspect :=
  settle_aspect (s.installing levels, (s.installing levels).installSignals) (installSignals_calm _)

theorem install_still (levels : Inputs) (s : State) : (install levels s).still = (s.installing levels).still := settle_still _

/-! ## Step 5 -/

/-- What a start-up has told holds of a state that agrees on what it tells of. -/
theorem StartUp.congr {K' : ReportKey → Prop} (h : StartUp K s) (ht : Starting K' t) (hstill : t.still = s.still)
    (haxes : t.axes = s.axes) (hpermits : t.permits = s.permits) (hu : t.unsettled = s.unsettled) : StartUp K' t := by
  refine ⟨ht, fun hn => ?_⟩
  obtain ⟨haxis, hfresh⟩ := h.told (hu ▸ hn)
  refine ⟨fun a => ?_, ?_⟩
  · rw [show t.axis a = s.axis a from congrArg (PerAxis.get · a) haxes, State.startAxis_congr hstill Iff.rfl]
    exact haxis a
  · rw [hpermits, hfresh, State.workedPermits_congr hstill haxes]

/-- A report that a start-up posts. -/
theorem StartUp.post (h : StartUp K s) (key : ReportKey) (c : List Byte) : StartUp (fun k => K k ∨ k = key) (s.post key c) := by
  refine h.congr { h.starting.post key c with waits := fun k hk => ?_ } rfl rfl rfl rfl
  rcases hk with hk | rfl
  · exact (h.starting.waits k hk).post key c
  · exact s.keyWaits_post_same k c

theorem settleZone_starts (lighting : Bool) (z : Fin 24) (before after : Zone) : sendsNoFault (settleZone lighting z before after) := by
  unfold settleZone
  split_ifs <;> simp [sendsNoFault, Signal.starts, overtravel]

/-- An event of a zone in a start-up. -/
theorem StartUp.changeZone (h : StartUp K s) (lighting : Bool) (z : Fin 24) (f : Zone → Zone) :
    StartUp K (settle (changeZone lighting z f s)) := by
  have hsignals := settleZone_starts lighting z s.zones[z] (f s.zones[z])
  have hnone (a : Axis) : overtravel a ∉ settleZone lighting z s.zones[z] (f s.zones[z]) := fun ha => (hsignals _ ha).2 a rfl
  refine StartTurn.settle ⟨h.starting.onZone z _, fun x hx => (hsignals x hx).1, ?_, fun a ha => absurd ha (hnone a),
    fun hu a => ?_, fun hu => .inr ⟨hnone, (h.told hu).2⟩⟩
  · rw [← List.append_nil (Machine.changeZone lighting z f s).2]
    exact hsignals.once_append List.Pairwise.nil
  · refine ((h.told hu).1 a).trans ?_
    exact (State.startAxis_congr (s := s) (t := (Machine.changeZone lighting z f s).1) rfl
      ⟨fun ha => absurd ha (hnone a), fun ha => absurd ha List.not_mem_nil⟩).symm

theorem StartUp.recallScene (h : StartUp K s) (z : Fin 24) (n : Fin 32) : StartUp K (settle (recallScene z n s)) := by
  unfold Machine.recallScene
  simp only
  split
  · rw [settle, run_nil]
    exact h
  · exact h.changeZone true z _

theorem StartUp.startZone (h : StartUp K s) (z : Fin 24) : StartUp (fun k => K k ∨ k = .zone z) (startZone s z) := by
  unfold Machine.startZone
  split
  · exact (h.recallScene z _).post _ _
  · exact h.post _ _

/-- After step 5 every zone has its report waiting. -/
theorem StartUp.startZones (h : StartUp K s) (l : List (Fin 24)) :
    StartUp (fun k => K k ∨ ∃ z ∈ l, k = .zone z) (l.foldl Machine.startZone s) := by
  induction l generalizing K s with
  | nil => simpa using h
  | cons z l ih =>
    refine (ih (h.startZone z)).congr { (ih (h.startZone z)).starting with waits := fun k hk => ?_ } rfl rfl rfl rfl
    refine (ih (h.startZone z)).starting.waits k ?_
    rcases hk with hk | ⟨y, hy, rfl⟩
    · exact .inl (.inl hk)
    · rcases List.mem_cons.1 hy with rfl | hy
      · exact .inl (.inr rfl)
      · exact .inr ⟨y, hy, rfl⟩

end Sys2Proof.Machine
end

section
/-! O50: what a start-up leaves (R184), from its start values through its events to START on the line. -/

namespace Sys2Proof.Machine

variable {s : State}

/-! ## The start scenes (R52) -/

theorem Zone.recall_of_isEmpty (r : Scene) (h : r.isEmpty = true) (z : Zone) : z.recall r = z := by
  simp only [Scene.isEmpty, Bool.and_eq_true, Option.isNone_iff_eq_none] at h
  obtain ⟨⟨hlevels, hsetpoint⟩, hmode⟩ := h
  rw [Zone.recall_eq, hmode, hsetpoint]
  exact Zone.changeLevels_none (levels_all_none.1 hlevels) _ z

/-- A zone with its start scene taken. -/
def Zone.started (c : Configuration) (y : Fin 24) (z : Zone) : Zone :=
  (c.zones[y].startScene.bind (indexOf 32)).elim z fun k => z.recall c.scenes[k]

theorem started_respectsLooks (c : Configuration) (y : Fin 24) : respectsLooks (Zone.started c y) := by
  unfold Zone.started
  cases c.zones[y].startScene.bind (indexOf 32) with
  | none => exact respectsLooks_id
  | some k => exact recall_respectsLooks c.scenes[k]

theorem settle_nil (s : State) : settle (s, []) = s := run_nil ..

theorem recallScene_empty {z : Fin 24} {n : Fin 32} {s : State} (h : s.config.scenes[n].isEmpty = true) :
    recallScene z n s = (s, []) := if_pos h

theorem recallScene_nonempty {z : Fin 24} {n : Fin 32} {s : State} (h : ¬ s.config.scenes[n].isEmpty = true) :
    recallScene z n s = changeZone true z (·.recall s.config.scenes[n]) s := if_neg h

theorem recallScene_looks_get (z y : Fin 24) (n : Fin 32) (s : State) :
    (settle (recallScene z n s)).looks[y] = if z = y then (s.zones[y].recall s.config.scenes[n]).look else s.looks[y] := by
  by_cases h : s.config.scenes[n].isEmpty = true
  · rw [recallScene_empty h, settle_nil, Zone.recall_of_isEmpty _ h, State.looks_get, ite_self]
  · rw [recallScene_nonempty h, (changeZone_follows true z _ s).2.1, State.onZone_looks_get]
    by_cases hy : z = y
    · subst hy
      rfl
    · rw [if_neg hy, if_neg hy]

theorem settle_recallScene_cue (z : Fin 24) (n : Fin 32) (s : State) : (settle (recallScene z n s)).cue = s.cue := by
  by_cases h : s.config.scenes[n].isEmpty = true
  · rw [recallScene_empty h, settle_nil]
  · rw [recallScene_nonempty h]
    exact (changeZone_follows true z _ s).2.2

theorem startZone_still (s : State) (z : Fin 24) : (startZone s z).still = s.still := by
  unfold startZone
  simp only
  split <;> simp

theorem startZone_cue (s : State) (z : Fin 24) : (startZone s z).cue = s.cue := by
  unfold startZone
  cases s.config.zones[z].startScene.bind (indexOf 32) with
  | none => rfl
  | some k => exact settle_recallScene_cue z k s

theorem startZone_looks_get (s : State) (z y : Fin 24) :
    (startZone s z).looks[y] = if z = y then (s.zones[y].started s.config y).look else s.looks[y] := by
  unfold startZone Zone.started
  by_cases hy : z = y
  · subst hy
    rw [if_pos rfl]
    cases s.config.zones[z].startScene.bind (indexOf 32) with
    | none => exact State.looks_get s z
    | some k => exact (recallScene_looks_get z z k s).trans (if_pos rfl)
  · rw [if_neg hy]
    cases s.config.zones[z].startScene.bind (indexOf 32) with
    | none => rfl
    | some k => exact (recallScene_looks_get z y k s).trans (if_neg hy)

theorem foldl_startZone_still (s : State) (l : List (Fin 24)) : (l.foldl startZone s).still = s.still := by
  induction l generalizing s with
  | nil => rfl
  | cons z l ih => exact (ih _).trans (startZone_still s z)

theorem foldl_startZone_cue (s : State) (l : List (Fin 24)) : (l.foldl startZone s).cue = s.cue := by
  induction l generalizing s with
  | nil => rfl
  | cons z l ih => exact (ih _).trans (startZone_cue s z)

theorem foldl_startZone_looks (s : State) (l : List (Fin 24)) (hl : l.Nodup) (y : Fin 24) :
    (l.foldl startZone s).looks[y] = if y ∈ l then (s.zones[y].started s.config y).look else s.looks[y] := by
  induction l generalizing s with
  | nil => simp
  | cons z l ih =>
    obtain ⟨hz, hl⟩ := List.nodup_cons.1 hl
    rw [List.foldl_cons, ih _ hl, startZone_looks_get, State.config_of_still (startZone_still s z)]
    by_cases hy : z = y
    · subst hy
      simp [hz]
    · have hlook : (startZone s z).zones[y].look = s.zones[y].look := by
        rw [← State.looks_get, startZone_looks_get, if_neg hy, State.looks_get]
      simp [hy, Ne.symm hy, (started_respectsLooks s.config y).eq hlook, -Fin.getElem_fin]

/-! ## The whole start-up -/

/-- The state that steps 1 to 3 leave. -/
def State.loaded (e : EepromAnswer) (d : Nat) (sensors : Sensors) (n : Nat) (k : ResetKind) (s : State) : State :=
  loadImage e (startLive d sensors n k s)

theorem loaded_starting (e : EepromAnswer) (d : Nat) (sensors : Sensors) (n : Nat) (k : ResetKind) (s : State) :
    Starting (fun _ => False) (s.loaded e d sensors n k) where
  contexts := rfl
  queues := rfl
  runs := rfl
  chime := rfl
  pump := rfl
  mode := rfl
  peak := rfl
  grants j := by simp [State.loaded, loadImage, startLive, budgetStart, slotStart]
  demands j _ := by simp [State.loaded, loadImage, startLive, budgetStart, slotStart, State.raw]
  current a := by cases a <;> rfl
  waits _ h := h.elim

/-- The state before START is posted. -/
def State.startedUp (e : EepromAnswer) (levels : Inputs) (d : Nat) (sensors : Sensors) (n : Nat) (k : ResetKind) (s : State) :
    State := allZones.foldl startZone (install levels (s.loaded e d sensors n k))

theorem startUp_eq (e : EepromAnswer) (levels : Inputs) (d : Nat) (sensors : Sensors) (n : Nat) (k : ResetKind) (s : State) :
    startUp e levels (startLive d sensors n k s) = (s.startedUp e levels d sensors n k).endStartUp := rfl

theorem startedUp_still (e : EepromAnswer) (levels : Inputs) (d : Nat) (sensors : Sensors) (n : Nat) (k : ResetKind) (s : State) :
    (s.startedUp e levels d sensors n k).still = ((s.loaded e d sensors n k).installing levels).still :=
  (foldl_startZone_still _ _).trans (install_still _ _)

theorem startedUp_told (e : EepromAnswer) (levels : Inputs) (d : Nat) (sensors : Sensors) (n : Nat) (k : ResetKind) (s : State) :
    StartUp (fun key => ∃ z : Fin 24, key = .zone z) (s.startedUp e levels d sensors n k) := by
  have h := (installed (loaded_starting e d sensors n k s) (fun a => by cases a <;> rfl) levels).startZones allZones
  refine h.congr { h.starting with waits := fun key hk => h.starting.waits key (.inr ?_) } rfl rfl rfl rfl
  obtain ⟨z, rfl⟩ := hk
  exact ⟨z, List.mem_finRange z, rfl⟩

theorem startedUp_cue (e : EepromAnswer) (levels : Inputs) (d : Nat) (sensors : Sensors) (n : Nat) (k : ResetKind) (s : State) :
    (s.startedUp e levels d sensors n k).cue = cueStart :=
  (foldl_startZone_cue _ _).trans (congrArg Prod.snd (install_aspect levels (s.loaded e d sensors n k)))

theorem startedUp_look (e : EepromAnswer) (levels : Inputs) (d : Nat) (sensors : Sensors) (n : Nat) (k : ResetKind) (s : State)
    (z : Fin 24) : (s.startedUp e levels d sensors n k).zones[z].look
      = (zoneStart.started (s.startedUp e levels d sensors n k).config z).look := by
  have hlooks : (install levels (s.loaded e d sensors n k)).zones[z].look = zoneStart.look := by
    have hkept : (install levels (s.loaded e d sensors n k)).looks = (s.loaded e d sensors n k).looks :=
      congrArg Prod.fst (install_aspect ..)
    rw [← State.looks_get, hkept, State.looks_get]
    simp [State.loaded, loadImage, startLive]
  have hconfig : (s.startedUp e levels d sensors n k).config = (install levels (s.loaded e d sensors n k)).config :=
    State.config_of_still (foldl_startZone_still _ _)
  rw [← State.looks_get, hconfig, ← (started_respectsLooks _ z).eq hlooks]
  exact (foldl_startZone_looks _ allZones (List.nodup_finRange 24) z).trans (if_pos (List.mem_finRange z))

end Sys2Proof.Machine
end

section
/-! O50: START goes on the line with the reports of zones and axes behind it, and the start-up is told whole (R177, R184). -/

namespace Sys2Proof.Machine

variable {s : State}

/-! ## START on the line -/

/-- What START tells: the reset kind, DEFAULTED and the faults. -/
theorem State.startContent_eq (s : State) :
    s.startContent = u8 s.store.lastReset.code ++ u8 (if s.store.defaulted = true then 1 else 0)
      ++ bits (allAxes.map fun a => (s.axis a).fault.isSome) := by
  rw [State.startContent]
  cases s.store.defaulted <;> rfl

theorem State.keyWaits.endStartUp {key : ReportKey} (h : s.keyWaits key) : s.endStartUp.keyWaits key :=
  (((h.post _ _).post _ _).post _ _).post _ _

theorem endStartUp_keyWaits_axis (s : State) (a : Axis) : s.endStartUp.keyWaits (.axis a) := by
  cases a with
  | hatch => exact (((s.keyWaits_post_same _ _).post _ _).post _ _).post _ _
  | platform => exact ((State.keyWaits_post_same _ _ _).post _ _).post _ _
  | windlass => exact (State.keyWaits_post_same _ _ _).post _ _

/-- START alone leaves the report queue when the transmitter takes it. -/
theorem State.keyWaits.kick_start {key : ReportKey} {content : List Byte} (h : s.keyWaits key) (hkey : key ≠ .start)
    (hs : s.link.sending = none) (hr : s.link.replies = []) (hp : s.link.resetPending = none)
    (hf : s.link.reports.find? (·.key = .start) = some ⟨.start, content⟩) : s.kick.keyWaits key := by
  obtain ⟨x, hx, rfl⟩ := h
  have hchoose : chooseReport s.link.reports = some ⟨.start, content⟩ := by rw [chooseReport, hf, Option.some_or]
  have htaken : s.kick.link.reports = takeReport .start s.link.reports := by
    unfold State.kick
    rw [hs, hr, hp, hchoose]
    rfl
  exact ⟨x, by simpa [htaken, takeReport, hkey] using hx, rfl⟩

/-- The end of a start-up: START is on the line, and what waited in the report queue still does. -/
theorem endStartUp_kick {u : State} (hlink : { u.link with reports := [] } = { linkAtReset with reports := [] }) :
    ∃ l : Link, u.endStartUp.kick = { u with link := l } ∧ l.base = linkAtReset.base ∧ l.replies = []
      ∧ l.sending.map (·.frame) = some { kind := 0xE0, tag := 0, payload := u.startContent }
      ∧ (∀ key, u.keyWaits key → key ≠ .start → ∃ x ∈ l.reports, x.key = key)
      ∧ ∀ a : Axis, ∃ x ∈ l.reports, x.key = .axis a := by
  have hend := (State.link_of_still (endStartUp_still u)).trans hlink
  have hsending : u.endStartUp.link.sending = none := congrArg Link.sending hend
  have hreplies : u.endStartUp.link.replies = [] := congrArg Link.replies hend
  have hpending : u.endStartUp.link.resetPending = none := congrArg Link.resetPending hend
  have hbase : u.endStartUp.link.base = linkAtReset.base :=
    (congrArg Link.base hend : ({ u.endStartUp.link with reports := [] } : Link).base = _)
  have hfind := endStartUp_start u
  obtain ⟨l, hkick, hkept, hl, hstart⟩ := kick_start hsending hreplies hpending hfind
  have hwaits {key : ReportKey} (h : u.endStartUp.keyWaits key) (hkey : key ≠ .start) : ∃ x ∈ l.reports, x.key = key := by
    have := h.kick_start hkey hsending hreplies hpending hfind
    rwa [State.keyWaits, hkick] at this
  refine ⟨l, ?_, hkept.trans hbase, hl, hstart, fun key h => hwaits h.endStartUp,
    fun a => hwaits (endStartUp_keyWaits_axis u a) (by simp)⟩
  rw [hkick, State.eq_of_core (endStartUp_core u)]

/-! ## The start-up as one command -/

/-- A POWER_ON, or a COLD reset that is due. -/
def State.startsUp (s : State) (power : Bool) : Prop :=
  ¬ (power = false ∧ ¬ (s.link.resetPending = some .cold ∧ s.link.sending = none ∧ s.link.replies = []))

/-- The state that a POWER_ON or a due COLD_RESET leaves before START is posted. -/
def State.startedBy (power : Bool) (e : EepromAnswer) (levels : Inputs) (s : State) : State :=
  s.failSave.startedUp e levels (if power then s.now + 10 else s.frameDeadline)
    (if power then { hatch := sensorStart, platform := sensorStart } else s.sensors)
    (if power then 0 else s.gypsy.count) (if power then .powerOn else .cold)

theorem exec_startUp {power : Bool} (h : s.startsUp power) (e : EepromAnswer) (levels : Inputs) :
    exec (if power then .powerOn e levels else .coldReset e levels) s = .next (s.startedBy power e levels).endStartUp.kick := by
  cases power with
  | true => rfl
  | false =>
    have hdue : s.resetDue .cold = true := by simpa [State.startsUp, State.resetDue] using h
    refine congrArg Host.Outcome.next (congrArg State.kick ?_)
    rw [hdue, if_pos rfl]
    rfl

theorem exec_coldReset_early (h : ¬ s.startsUp false) (e : EepromAnswer) (levels : Inputs) :
    exec (.coldReset e levels) s = .next s.kick := by
  have hearly : s.resetDue .cold = false := by simpa [State.startsUp, State.resetDue] using h
  refine congrArg Host.Outcome.next (congrArg State.kick ?_)
  rw [hearly]
  rfl

theorem startedBy_still (power : Bool) (e : EepromAnswer) (levels : Inputs) (s : State) :
    (s.startedBy power e levels).still = ((s.failSave.loaded e (if power then s.now + 10 else s.frameDeadline)
      (if power then { hatch := sensorStart, platform := sensorStart } else s.sensors)
      (if power then 0 else s.gypsy.count) (if power then .powerOn else .cold)).installing levels).still :=
  startedUp_still ..

/-- The configuration and the stored image after a start-up (R183, R184). -/
theorem startedBy_store (power : Bool) (e : EepromAnswer) (levels : Inputs) (s : State) :
    let t := s.startedBy power e levels
    let image := if e = .answers then readImage t.store.eeprom else none
    (s.store.saving = none → t.store.eeprom = s.store.eeprom) ∧ t.store.saving = none
      ∧ t.store.lastReset = (if power then .powerOn else .cold) ∧ t.config = image.getD factory
      ∧ t.store.defaulted = image.isNone := by
  obtain ⟨-, -, -, hconfig, -, -, -, -, -, -, -, -, -, -, hstore⟩ :=
    State.fixed_fields (State.fixed_of_still (startedBy_still power e levels s))
  obtain ⟨n, store, hw, hsaving, -, heeprom⟩ := failSave_eq s
  simp only [hconfig, hstore, hw]
  refine ⟨heeprom, hsaving, rfl, ?_, ?_⟩ <;> cases e <;> rfl

/-- What a start-up reads afresh, sets to its start and keeps (R25, R29, R65, R66, R122, R153). -/
theorem startedBy_fixed (power : Bool) (e : EepromAnswer) (levels : Inputs) (s : State) :
    let t := s.startedBy power e levels
    t.inputs = levels ∧ t.frameDeadline = (if power then s.now + 10 else s.frameDeadline)
      ∧ t.sensors = (if power then { hatch := sensorStart, platform := sensorStart } else s.sensors)
      ∧ t.gypsy.count = (if power = true ∨ levels.anchorHome = true then 0 else s.gypsy.count)
      ∧ t.budget.history = [] ∧ t.budget.meterDeadline = none ∧ t.vessel = vesselStart
      ∧ t.panels = Vector.replicate 12 panelStart := by
  obtain ⟨-, -, -, -, hhistory, -, hmeter, hframe, hsensors, hcount, hinputs, hvessel, hpanels, -, -⟩ :=
    State.fixed_fields (State.fixed_of_still (startedBy_still power e levels s))
  refine ⟨hinputs, hframe, hsensors, hcount.trans ?_, hhistory, hmeter, hvessel, hpanels⟩
  show (if levels.anchorHome = true then 0 else if power = true then 0 else s.gypsy.count) = _
  cases power <;> simp

theorem startedBy_link (power : Bool) (e : EepromAnswer) (levels : Inputs) (s : State) :
    { (s.startedBy power e levels).link with reports := [] } = { linkAtReset with reports := [] } :=
  State.link_of_still (startedBy_still power e levels s)

theorem startedBy_told (power : Bool) (e : EepromAnswer) (levels : Inputs) (s : State) :
    StartUp (fun key => ∃ z : Fin 24, key = .zone z) (s.startedBy power e levels) := startedUp_told ..

theorem Zone.changeLevels_elim (levels : Vector (Option Nat) 4) (fade : Nat) (z : Zone) :
    z.changeLevels levels fade = { z with channels := Vector.ofFn fun i : Fin 4 =>
      (levels[i].elim z.channels[i] fun l => z.channels[i].changeLevel z.mode l fade) } := by
  unfold Zone.changeLevels Zone.onChannels
  congr 2
  funext i
  dsimp only
  cases levels[i] <;> rfl

/-- A start scene that is taken, part by part (R49, R52). -/
theorem Zone.started_eq (c : Configuration) (y : Fin 24) (z : Zone) :
    Zone.started c y z = (c.zones[y].startScene.bind fun n => c.scenes[n]?).elim z fun r =>
      let moded := r.mode.elim z fun m => z.changeMode m
      let lit : Zone := { moded with channels := Vector.ofFn fun i : Fin 4 =>
        ((r.levels[i]).elim (moded.channels[i]) fun l => (moded.channels[i]).changeLevel moded.mode l r.fade) }
      r.setpoint.elim lit fun v => { lit with setpoint := clampSetpoint v } := by
  have hscene (n : Nat) : c.scenes[n]? = (indexOf 32 n).map fun k => c.scenes[k] := by
    by_cases hn : n < 32 <;> simp [indexOf, hn]
  unfold Zone.started
  cases c.zones[y].startScene with
  | none => rfl
  | some n =>
    rw [Option.bind_some, Option.bind_some, hscene]
    cases indexOf 32 n with
    | none => rfl
    | some k =>
      rw [Option.map_some, Option.elim_some, Option.elim_some, Zone.recall_eq, Zone.changeLevels_elim]
      rfl

/-- The zones after a start-up, each recalled from its start scene (R46, R52). -/
theorem startedBy_look (power : Bool) (e : EepromAnswer) (levels : Inputs) (s : State) (z : Fin 24) :
    let t := s.startedBy power e levels
    t.zones[z].look = ((t.config.zones[z].startScene.bind fun n => t.config.scenes[n]?).elim zoneStart fun r =>
      let moded := r.mode.elim zoneStart fun m => zoneStart.changeMode m
      let lit : Zone := { moded with channels := Vector.ofFn fun i : Fin 4 =>
        ((r.levels[i]).elim (moded.channels[i]) fun l => (moded.channels[i]).changeLevel moded.mode l r.fade) }
      r.setpoint.elim lit fun v => { lit with setpoint := clampSetpoint v }).look := by
  refine (startedUp_look ..).trans ?_
  show (Zone.started (s.startedBy power e levels).config z zoneStart).look = _
  generalize (s.startedBy power e levels).config = c
  rw [Zone.started_eq]

/-- Settles O50: the start-up's events from its start values, told outright but for its demands, and then START. -/
theorem startUpsInstallTheImage : Obligations.StartUpsInstallTheImage := by
  intro power e levels s
  by_cases hup : s.startsUp power
  swap
  · obtain rfl : power = false := (not_not.1 hup).1
    exact ⟨s.kick, exec_coldReset_early hup e levels, by rw [if_pos (not_not.1 hup)]; exact kick_becomes s⟩
  obtain ⟨l, hkick, hbase, hreplies, hstart, hwaits, haxisWaits⟩ := endStartUp_kick (startedBy_link power e levels s)
  refine ⟨_, (exec_startUp hup e levels).trans (congrArg Host.Outcome.next hkick), ?_⟩
  rw [if_neg hup]
  obtain ⟨heeprom, hsaving, hreset, hconfig, hdefaulted⟩ := startedBy_store power e levels s
  obtain ⟨hinputs, hframe, hsensors, hcount, hhistory, hmeter, hvessel, hpanels⟩ := startedBy_fixed power e levels s
  obtain ⟨hstarting, htold⟩ := startedBy_told power e levels s
  have hcue : (s.startedBy power e levels).cue = cueStart := startedUp_cue ..
  have hlook := startedBy_look power e levels s
  rw [State.startContent_eq] at hstart
  clear hkick
  generalize s.startedBy power e levels = u at *
  refine ⟨heeprom, hsaving, hreset, hconfig, hdefaulted, hinputs, hframe, hsensors, hcount, hstarting.mode, hhistory, hmeter,
    hstarting.peak, hcue, hstarting.contexts, fun a => ?_, hvessel, hstarting.pump, hstarting.chime, hpanels, hstarting.runs,
    fun hu => (htold hu).2, fun hu a => ?_, fun _ => hlook, congrArg Link.receiving hbase, congrArg Link.gathered hbase,
    congrArg Link.buffer hbase, hreplies, congrArg Link.saveTag hbase, congrArg Link.silenceDeadline hbase,
    congrArg Link.resetPending hbase, hstart, fun z => hwaits _ (hstarting.waits _ ⟨z, rfl⟩) (by simp), haxisWaits⟩
  · rw [State.queue]
    simp only [hstarting.queues]
    cases a <;> rfl
  · have haxis := (htold hu).1 a
    simp only [State.startAxis, List.not_mem_nil, not_false_eq_true, and_true] at haxis
    split
    · next h => exact haxis.trans (if_pos h)
    · next h => exact haxis.trans (if_neg h)

end Sys2Proof.Machine
end

section
/-! What a posting, the transmitter and the Cue Unit do to the report queue and to the staging list: each keeps its order (R53, R55,
R176, R177). -/

namespace Sys2Proof.Machine

/-! ## The order of the report queue (R176) -/

/-- Two report entries in their order in the queue: of different keys, the first of a tier that is not behind the other's. -/
def ReportEntry.precedes (a b : ReportEntry) : Prop := a.key ≠ b.key ∧ a.key.tier ≤ b.key.tier

/-- A report queue in order: each entry precedes every entry behind it. -/
def inOrder (q : List ReportEntry) : Prop := q.Pairwise ReportEntry.precedes

theorem State.reportLaw_iff (s : State) : s.reportLaw ↔ inOrder s.link.reports := by
  simp only [State.reportLaw, inOrder, List.Nodup, List.pairwise_map]
  exact (List.pairwise_and_iff).symm

theorem ReportKey.tier_start : ReportKey.start.tier = 0 := rfl

theorem ReportKey.tier_le_two (k : ReportKey) : k.tier ≤ 2 := by
  unfold ReportKey.tier
  split_ifs <;> omega

theorem ReportKey.tier_urgent {k : ReportKey} (h : k.urgent = true) : k.tier = 1 := by
  cases k with
  | fault a => rfl
  | programEnd c => rfl
  | _ => cases h

/-- A key that is neither START nor urgent is of the last tier. -/
theorem ReportKey.tier_plain {k : ReportKey} (hs : k ≠ .start) (hu : ¬ k.urgent = true) : k.tier = 2 := by
  simp [ReportKey.tier, hs, hu]

theorem replaceReport_keys (key : ReportKey) (content : List Byte) (q : List ReportEntry) :
    (replaceReport key content q).map (·.key) = q.map (·.key) := by
  induction q with
  | nil => rfl
  | cons e rest ih =>
    unfold replaceReport
    split
    · rfl
    · simp [ih]

/-- The order of a queue is that of its keys. -/
theorem inOrder.of_keys {q r : List ReportEntry} (h : inOrder q) (e : r.map (·.key) = q.map (·.key)) : inOrder r := by
  unfold inOrder ReportEntry.precedes at *
  rw [← List.pairwise_map (f := ReportEntry.key) (R := fun a b => a ≠ b ∧ a.tier ≤ b.tier)] at *
  rwa [e]

/-- A new key's entry put between two parts of a queue whose tiers allow it. -/
theorem inOrder.insert {before after : List ReportEntry} (h : inOrder (before ++ after)) {x : ReportEntry}
    (hnew : ∀ y ∈ before ++ after, y.key ≠ x.key) (hbefore : ∀ y ∈ before, y.key.tier ≤ x.key.tier)
    (hafter : ∀ y ∈ after, x.key.tier ≤ y.key.tier) : inOrder (before ++ x :: after) := by
  unfold inOrder at *
  obtain ⟨hb, ha, hba⟩ := List.pairwise_append.1 h
  refine List.pairwise_append.2 ⟨hb, List.pairwise_cons.2 ⟨fun y hy => ?_, ha⟩, fun y hy w hw => ?_⟩
  · exact ⟨(hnew y (List.mem_append_right _ hy)).symm, hafter y hy⟩
  · rcases List.mem_cons.1 hw with rfl | hw
    · exact ⟨hnew y (List.mem_append_left _ hy), hbefore y hy⟩
    · exact hba y hy w hw

/-- An urgent entry goes behind START and the urgent entries, and before all others. -/
theorem insertUrgent_split {q : List ReportEntry} (h : inOrder q) (x : ReportEntry) :
    ∃ before after, q = before ++ after ∧ insertUrgent x q = before ++ x :: after
      ∧ (∀ y ∈ before, y.key.tier ≤ 1) ∧ ∀ y ∈ after, 1 ≤ y.key.tier := by
  induction q with
  | nil => exact ⟨[], [], rfl, rfl, by simp, by simp⟩
  | cons e rest ih =>
    obtain ⟨hfirst, hrest⟩ := List.pairwise_cons.1 h
    unfold insertUrgent
    split
    · next he =>
      obtain ⟨before, after, rfl, hinsert, hbefore, hafter⟩ := ih hrest
      have htier : e.key.tier ≤ 1 := by
        rcases Bool.or_eq_true_iff.1 he with he | he
        · exact (ReportKey.tier_urgent he).le
        · rw [of_decide_eq_true he, ReportKey.tier_start]
          exact Nat.zero_le _
      exact ⟨e :: before, after, rfl, by rw [hinsert]; rfl, List.forall_mem_cons.2 ⟨htier, hbefore⟩, hafter⟩
    · next he =>
      have htier : e.key.tier = 2 :=
        ReportKey.tier_plain (fun hs => he (by simp [hs])) fun hu => he (by simp [hu])
      refine ⟨[], e :: rest, rfl, rfl, by simp, List.forall_mem_cons.2 ⟨by omega, fun y hy => ?_⟩⟩
      have := (hfirst y hy).2
      omega

/-- A posting keeps the order of the report queue (R176). -/
theorem inOrder.postTo {q : List ReportEntry} (h : inOrder q) (key : ReportKey) (content : List Byte) :
    inOrder (postTo q key content) := by
  unfold Machine.postTo
  split
  · exact h.of_keys (replaceReport_keys key content q)
  · next hkey =>
    have hnew : ∀ y ∈ q, y.key ≠ key := by simpa using hkey
    split
    · next hs => exact inOrder.insert (before := []) h hnew (by simp) (by simp [hs, ReportKey.tier_start])
    · next hs =>
      split
      · next hu =>
        obtain ⟨before, after, rfl, hinsert, hbefore, hafter⟩ := insertUrgent_split h ⟨key, content⟩
        rw [← ReportKey.tier_urgent hu] at hbefore hafter
        rw [hinsert]
        exact h.insert hnew hbefore hafter
      · next hu =>
        refine inOrder.insert (after := []) (by rwa [List.append_nil]) (by rwa [List.append_nil]) (fun y _ => ?_) (by simp)
        rw [show ReportEntry.key ⟨key, content⟩ = key from rfl, ReportKey.tier_plain hs hu]
        exact y.key.tier_le_two

/-- A report that the transmitter takes leaves the others in order (R177). -/
theorem inOrder.takeReport {q : List ReportEntry} (h : inOrder q) (key : ReportKey) : inOrder (takeReport key q) :=
  List.Pairwise.filter _ h

/-- The keys of the report queue, one by one (R176). -/
def allReportKeys : List ReportKey :=
  [.start, .budget, .cueApplied] ++ allZones.map .zone ++ allAxes.map .axis ++ allAxes.map .fault
    ++ (List.finRange 16).map .programEnd ++ (List.finRange 12).map .panelAction

theorem mem_allReportKeys (k : ReportKey) : k ∈ allReportKeys := by
  have haxis (a : Axis) : a ∈ allAxes := by cases a <;> simp [allAxes]
  cases k <;> simp [allReportKeys, allZones, haxis]

/-- A queue in order holds at most one entry for each of the 61 keys. -/
theorem inOrder.length_le {q : List ReportEntry} (h : inOrder q) : q.length ≤ 61 := by
  have hnodup : (q.map (·.key)).Nodup := List.pairwise_map.2 (h.imp And.left)
  have hle := (hnodup.subperm fun k _ => mem_allReportKeys k).length_le
  rwa [List.length_map, show allReportKeys.length = 61 from rfl] at hle

/-! ## The staging list (R53, R55) -/

/-- The zone and kind of a cue entry. -/
def CueEntry.pair (e : CueEntry) : Fin 24 × Nat := (e.zone, e.change.code)

theorem CueEntry.matches_iff (a b : CueEntry) : a.matches b = true ↔ a.pair = b.pair := by
  simp [CueEntry.matches, CueEntry.pair]

/-- A staging list within its bounds: 48 entries, one for each pair of zone and kind. -/
def staged (l : List CueEntry) : Prop := l.length ≤ cueCapacity ∧ (l.map (·.pair)).Nodup

theorem State.cueLaw_iff (s : State) : s.cueLaw ↔ staged s.cue.entries := by
  simp only [State.cueLaw, staged, List.Nodup, List.pairwise_map, ne_eq, ← CueEntry.matches_iff, Bool.not_eq_true]

/-- An entry that replaces that of its pair leaves the pairs (R55). -/
theorem replaced_pairs (e : CueEntry) (l : List CueEntry) :
    (l.map fun x => if e.matches x then e else x).map (·.pair) = l.map (·.pair) := by
  simp only [List.map_map, List.map_inj_left, Function.comp_apply]
  intro x _
  split
  · next h => exact (CueEntry.matches_iff e x).1 h
  · rfl

/-- A staged entry keeps the list within its bounds when its pair stands there or the list is not full (R55). -/
theorem staged.stage {l : List CueEntry} (h : staged l) (e : CueEntry)
    (hroom : l.any e.matches = true ∨ l.length < cueCapacity) : staged (stage e l) := by
  obtain ⟨hlength, hpairs⟩ := h
  unfold Machine.stage
  split
  · next hany =>
    exact ⟨by rwa [List.length_map], by rwa [replaced_pairs]⟩
  · next hany =>
    have hnew : e.pair ∉ l.map (·.pair) := fun hmem => by
      obtain ⟨x, hx, hpair⟩ := List.mem_map.1 hmem
      exact hany (List.any_eq_true.2 ⟨x, hx, (CueEntry.matches_iff e x).2 hpair.symm⟩)
    refine ⟨?_, ?_⟩
    · rw [List.length_append]
      exact hroom.resolve_left hany
    · rw [List.map_append]
      exact List.nodup_append'.2 ⟨hpairs, List.nodup_singleton _, by simpa using hnew⟩

end Sys2Proof.Machine
end

section
/-! What the signals of a step do to the report queue and to the staging list, said once (`Queued`): they post reports, and the
applied cue empties the list. -/

namespace Sys2Proof.Machine

variable {r s t : State}

/-! ## The moves -/

/-- The report queue and the staging list. -/
def State.lists (s : State) : List ReportEntry × List CueEntry := (s.link.reports, s.cue.entries)

/-- A command takes the report queue and the staging list to others by postings, reports taken for the line, resets of the queue
to its START entry, entries staged where they have room, and the emptying of the list. -/
inductive Queued (s : State) : State → Prop where
  | refl : Queued s s
  | quiet {t u : State} (h : Queued s t) (e : u.lists = t.lists) : Queued s u
  | post {t : State} (h : Queued s t) (key : ReportKey) (content : List Byte) : Queued s (t.post key content)
  | take {t u : State} (h : Queued s t) (key : ReportKey)
      (e : u.lists = (takeReport key t.link.reports, t.cue.entries)) : Queued s u
  | reset {t u : State} (h : Queued s t) (e : u.lists = (linkAtReset.reports, [])) : Queued s u
  | stage {t u : State} (h : Queued s t) (x : CueEntry)
      (hroom : t.cue.entries.any x.matches = true ∨ t.cue.entries.length < cueCapacity)
      (e : u.lists = (t.link.reports, Machine.stage x t.cue.entries)) : Queued s u
  | empty {t u : State} (h : Queued s t) (e : u.lists = (t.link.reports, [])) : Queued s u

theorem State.reports_of_lists {q : List ReportEntry} {l : List CueEntry} (e : s.lists = (q, l)) : s.link.reports = q :=
  congrArg Prod.fst e

theorem State.entries_of_lists {q : List ReportEntry} {l : List CueEntry} (e : s.lists = (q, l)) : s.cue.entries = l :=
  congrArg Prod.snd e

/-- The moves keep the order of the report queue (R176). -/
theorem Queued.inOrder (h : Queued s t) (hs : inOrder s.link.reports) : inOrder t.link.reports := by
  induction h with
  | refl => exact hs
  | quiet _ e ih => rwa [State.reports_of_lists e]
  | post _ key content ih => exact ih.postTo key content
  | take _ key e ih => rw [State.reports_of_lists e]; exact ih.takeReport key
  | reset _ e _ => rw [State.reports_of_lists e]; exact List.pairwise_singleton _ _
  | stage _ _ _ e ih => rwa [State.reports_of_lists e]
  | empty _ e ih => rwa [State.reports_of_lists e]

/-- The moves keep the bounds of the staging list (R53). -/
theorem Queued.staged (h : Queued s t) (hs : staged s.cue.entries) : staged t.cue.entries := by
  have hempty : Machine.staged [] := ⟨Nat.zero_le _, List.nodup_nil⟩
  induction h with
  | refl => exact hs
  | quiet _ e ih => rwa [State.entries_of_lists e]
  | post _ _ _ ih => exact ih
  | take _ _ e ih => rwa [State.entries_of_lists e]
  | reset _ e _ => rwa [State.entries_of_lists e]
  | stage _ x hroom e ih => rw [State.entries_of_lists e]; exact ih.stage x hroom
  | empty _ e _ => rwa [State.entries_of_lists e]

theorem Queued.ite {u : State} {c : Prop} [Decidable c] (ht : Queued r t) (hu : Queued r u) : Queued r (if c then t else u) := by
  split
  · exact ht
  · exact hu

/-- A move over a list of items, each of which is made of moves. -/
theorem Queued.foldl {α : Type} {f : State → α → State} (hf : ∀ {t : State}, Queued r t → ∀ x, Queued r (f t x))
    (l : List α) (h : Queued r s) : Queued r (l.foldl f s) := by
  induction l generalizing s with
  | nil => exact h
  | cons x rest ih => exact ih (hf h x)

/-! ## Updates that leave both lists -/

theorem State.driveOn_lists (s : State) (a : Axis) : (s.driveOn a).lists = s.lists := by
  unfold State.driveOn; split <;> rfl

theorem State.takeStep_lists (s : State) (a : Axis) : (s.takeStep a).lists = s.lists := by
  unfold State.takeStep; (repeat' split) <;> rfl

theorem State.activateHead_lists (s : State) (a : Axis) : (s.activateHead a).lists = s.lists := by
  unfold State.activateHead; (repeat' split) <;> rfl

theorem State.joinNotice_lists (s : State) (n : Notice) : (s.joinNotice n).lists = s.lists := by
  unfold State.joinNotice; split <;> rfl

theorem State.denyTone_lists (s : State) (z : Fin 24) : (s.denyTone z).lists = s.lists := by
  unfold State.denyTone
  split
  · exact s.joinNotice_lists _
  · rfl

theorem admitStep_lists (c : Fin 16) (x : Step) (s : State) : (admitStep c x s).1.lists = s.lists := by
  unfold admitStep
  dsimp only
  (repeat' split) <;> rfl

theorem faultHead_lists (a : Axis) (executed : Bool) (s : State) : (faultHead a executed s).1.lists = s.lists := by
  unfold faultHead; (repeat' split) <;> rfl

theorem recallScene_lists (z : Fin 24) (n : Fin 32) (s : State) : (recallScene z n s).1.lists = s.lists := by
  unfold recallScene
  dsimp only
  split <;> rfl

theorem zoneAction_lists (z : Fin 24) (b : Binding) (s : State) : (zoneAction z b s).1.lists = s.lists := by
  unfold zoneAction
  split
  · split
    · exact recallScene_lists ..
    · rfl
  all_goals rfl

theorem press_lists (p : Fin 12) (tag : Nat) (s : State) : (press p tag s).1.lists = s.lists := by
  have hzone (b : Binding) : (dispatchZone p tag b s).1.lists = s.lists := by
    unfold dispatchZone
    dsimp only
    split
    · exact zoneAction_lists _ b s
    · rfl
  have hgoto (b : Binding) : (dispatchGoto p tag b s).1.lists = s.lists := by
    have hstart (c : Fin 16) (x y : Int) : (startPanel c p b.axis x y s).1.lists = s.lists := admitStep_lists ..
    unfold dispatchGoto
    dsimp only
    split
    · rfl
    · split
      · rfl
      · split
        · rfl
        · rfl
        · split <;> exact hstart ..
  unfold press
  split
  · unfold resumePress
    dsimp only
    split <;> rfl
  · dsimp only
    split
    · rfl
    · unfold dispatchAck
      dsimp only
      split <;> rfl
    · rfl
    · exact hgoto _
    all_goals exact hzone _

/-! ## Changes of an axis that post its report -/

theorem Queued.reportAxis (a : Axis) (h : Queued r s) : Queued r (s.reportAxis a) := h.post _ _

theorem Queued.enterHold (a : Axis) (h : Queued r s) : Queued r (s.enterHold a) := Queued.reportAxis a (h.quiet rfl)

theorem Queued.enterStopping (a : Axis) (h : Queued r s) : Queued r (s.enterStopping a) := Queued.reportAxis a (h.quiet rfl)

theorem Queued.enterIdle (a : Axis) (h : Queued r s) : Queued r (s.enterIdle a) := Queued.reportAxis a (h.quiet rfl)

theorem Queued.startDwell (a : Axis) (h : Queued r s) : Queued r (s.startDwell a) := Queued.reportAxis a (h.quiet rfl)

theorem Queued.enterMoving (a : Axis) (h : Queued r s) : Queued r (enterMoving a s) := by
  have hdriven : Queued r ((s.moveTo a .moving).driveOn a) := h.quiet ((State.driveOn_lists _ a).trans rfl)
  exact Queued.reportAxis a (hdriven.quiet rfl)

theorem Queued.enterDwell (a : Axis) (h : Queued r s) : Queued r (enterDwell a s).1 := by
  unfold Machine.enterDwell
  dsimp only
  split
  · exact h.startDwell a
  · split
    · exact (h.startDwell a).quiet rfl
    · exact h.startDwell a

theorem Queued.enterPreparing (a : Axis) (h : Queued r s) : Queued r (enterPreparing a s).1 := by
  have hstep : (if (s.axis a).current.isNone then s.takeStep a else s).lists = s.lists := by
    split
    · exact s.takeStep_lists a
    · rfl
  unfold Machine.enterPreparing
  dsimp only
  split
  · exact Queued.reportAxis a (h.quiet hstep)
  · exact h.quiet hstep

theorem Queued.nextStep (a : Axis) (c : Fin 16) (h : Queued r s) : Queued r (nextStep a c s).1 := by
  have htaken : Queued r ((s.takeStep a).onAxis a fun r => { r with dwellDeadline := none }) := h.quiet (s.takeStep_lists a)
  unfold Machine.nextStep
  dsimp only
  split
  · exact Queued.enterHold a (h.quiet rfl)
  · split
    · exact htaken
    · split
      · exact htaken.enterDwell a
      · rw [apply_ite Prod.fst]
        exact .ite (htaken.enterMoving a) (Queued.enterHold a (htaken.quiet rfl))

theorem Queued.addHold (a : Axis) (reason : HoldReason) (h : Queued r s) : Queued r (addHold a reason s) := by
  unfold Machine.addHold
  dsimp only
  split
  · split
    · exact Queued.enterStopping a (h.quiet rfl)
    · exact Queued.enterHold a (h.quiet rfl)
    · exact Queued.reportAxis a (h.quiet rfl)
  · exact h

theorem Queued.endStop (a : Axis) (h : Queued r s) : Queued r (endStop a s).1 := by
  unfold Machine.endStop
  dsimp only
  (repeat' split)
  exacts [h, h.enterIdle a, h.enterPreparing a, h.enterHold a]

theorem Queued.endAxis (a : Axis) (h : Queued r s) : Queued r (endAxis a s).1 := by
  unfold Machine.endAxis
  dsimp only
  split
  · exact Queued.enterIdle a (h.quiet rfl)
  · exact Queued.enterIdle a (h.quiet rfl)
  · exact Queued.enterIdle a (h.quiet rfl)
  · exact Queued.enterStopping a (h.quiet rfl)
  · split
    · exact h.quiet rfl
    · exact Queued.reportAxis a (h.quiet rfl)
  · exact h
  · exact h

theorem Queued.removeHold (a : Axis) (reason : HoldReason) (h : Queued r s) : Queued r (removeHold a reason s).1 := by
  have hposted (f : AxisRecord → AxisRecord) : Queued r ((s.onAxis a f).reportAxis a) := Queued.reportAxis a (h.quiet rfl)
  unfold Machine.removeHold
  dsimp only
  split
  · split
    · split
      · exact (hposted _).enterPreparing a
      · exact hposted _
      · exact hposted _
    · exact hposted _
  · exact h

theorem Queued.travelReport (a : Axis) (h : Queued r s) : Queued r (s.travelReport a) := by
  unfold State.travelReport
  split
  · split
    · exact Queued.reportAxis a (h.quiet rfl)
    · exact h
  · exact h

theorem Queued.reportZoneChange (z : Fin 24) (before : Zone) (h : Queued r s) : Queued r (reportZoneChange z before s) := by
  unfold Machine.reportZoneChange
  split
  · exact h.post _ _
  · exact h

/-! ## The handlers -/

/-- Each handler posts reports, applies the cue, or leaves both lists. -/
theorem Queued.handle (x : Signal) (h : Queued r s) : Queued r (handle x s).1 := by
  cases x with
  | post k d => simp only [Machine.handle, postDemand]; split <;> exact h.quiet rfl
  | pass => exact h.quiet (by simp [Machine.handle, State.lists])
  | passEnd => exact h
  | lightDemand z => exact h.quiet rfl
  | climateWork z => exact h.quiet rfl
  | reportZone z before => exact h.reportZoneChange z before
  | cueFrame => simp only [Machine.handle, cueFrame]; (repeat' split) <;> exact h.quiet rfl
  | cueApplied m n late => exact (h.post _ _).empty rfl
  | takeUp a =>
    simp only [Machine.handle, takeUp]
    (repeat' split)
    exacts [h.enterPreparing a, h, h]
  | endEntry a => simp only [Machine.handle, endEntry]; split <;> exact h.quiet rfl
  | testGates a =>
    simp only [Machine.handle, testGates]
    (repeat' split)
    exacts [Queued.enterDwell a (h.quiet rfl), Queued.enterMoving a (h.quiet rfl), h, h]
  | endDwell a =>
    simp only [Machine.handle, endDwell]
    (repeat' split)
    exacts [h.quiet rfl, h.quiet rfl, h.quiet rfl, Queued.nextStep a _ (h.quiet rfl), h]
  | addHold a reason => exact h.addHold a reason
  | removeHold a reason => exact h.removeHold a reason
  | travelled a before =>
    have hdriven : Queued r (s.driveOn a) := h.quiet (s.driveOn_lists a)
    simp only [Machine.handle, travelled]
    split
    · split
      · exact h.enterDwell a
      · rw [apply_ite Prod.fst]
        exact .ite (hdriven.travelReport a) hdriven
    · exact h
  | fault a kind =>
    simp only [Machine.handle, fault]
    split
    · exact h
    · split
      · exact h.quiet rfl
      · exact h.quiet ((faultHead_lists a _ _).trans rfl)
  | reportFault a kind p =>
    simp only [Machine.handle, reportFault]
    split
    exacts [h, h.post _ _]
  | reportAxis a => exact h.reportAxis a
  | endProgram c status =>
    simp only [Machine.handle, endProgram]
    (repeat' split)
    exacts [h, Queued.endAxis _ (h.post _ _), h.post _ _]
  | freeContext c status =>
    simp only [Machine.handle, freeContext]
    (repeat' split)
    exacts [h, h.quiet (State.activateHead_lists _ _), h.quiet rfl]
  | evaluatePermits => exact h.quiet rfl
  | deliverPermit a d v =>
    simp only [Machine.handle, deliverPermit]
    (repeat' split) <;> exact h.quiet rfl
  | requestPump p => simp only [Machine.handle, requestPump]; (repeat' split) <;> exact h.quiet rfl
  | releasePump p => simp only [Machine.handle, releasePump]; (repeat' split) <;> exact h.quiet rfl
  | handOver => simp only [Machine.handle, handOver]; split <;> exact h.quiet rfl
  | press p tag => exact h.quiet (press_lists p tag s)
  | release p tag => simp only [Machine.handle, release]; split <;> exact h.quiet rfl
  | actionResult p result content =>
    simp only [Machine.handle, actionResult]
    split
    · exact h.post _ _
    · exact (h.post _ _).quiet (State.denyTone_lists _ _)

theorem Queued.sendOn (item : Outgoing) (h : Queued r s) : Queued r (sendOn item s).1 := by
  cases item with
  | report content copy =>
    simp only [Machine.sendOn, reportBudget]
    split
    · exact h
    · exact (h.post _ _).quiet rfl
  | grant k g =>
    simp only [Machine.sendOn]
    rcases slot_cases k with ⟨z, rfl⟩ | ⟨z, rfl⟩ | rfl | rfl | hk
    · rw [deliverTo_light]
      exact Queued.reportZoneChange z _ (h.quiet rfl)
    · rw [deliverTo_climate]
      exact Queued.reportZoneChange z _ (h.quiet rfl)
    · rw [deliverTo_pump, deliverPump_state]
      exact h.quiet rfl
    · rw [deliverTo_windlass, deliverWindlass_state]
      exact h.quiet rfl
    · rw [deliverTo_aux k g s hk]
      exact h

/-! ## Runs of signals -/

theorem Queued.run (n : Nat) (sent : List Outgoing) (l : List Signal) (h : Queued r s) : Queued r (run n sent l s) := by
  induction n generalizing sent l s with
  | zero =>
    cases l with
    | nil => exact h
    | cons x rest => exact h.quiet rfl
  | succ n ih =>
    cases l with
    | nil => exact h
    | cons x rest =>
      rw [run_succ]
      refine ih _ _ ?_
      unfold turn
      split
      · exact h
      · exact h.sendOn _
      · exact h.handle x

theorem Queued.settle (l : List Signal) (h : Queued r s) : Queued r (settle (s, l)) := h.run _ _ _

/-- An event whose own changes leave both lists. -/
theorem Queued.settled {k : Handled} (h : Queued r s) (e : k.1.lists = s.lists) : Queued r (Machine.settle k) :=
  (h.quiet e).settle k.2

/-- One signal, after changes that leave both lists. -/
theorem Queued.sent (h : Queued r s) (x : Signal) (e : t.lists = s.lists) : Queued r (t.send x) := (h.quiet e).settle [x]

theorem Queued.reply (kind tag : Byte) (result : Result) (fields : List Byte) (h : Queued r s) :
    Queued r (s.reply kind tag result fields) := h.quiet rfl

/-- An event whose own changes leave both lists, and its reply. -/
theorem Queued.answered {k : Handled} {kind tag : Byte} {result : Result} {fields : List Byte} (h : Queued r s)
    (e : k.1.lists = s.lists) : Queued r ((Machine.settle k).reply kind tag result fields) := (h.settled e).reply _ _ _ _

theorem Queued.kick (h : Queued r s) : Queued r s.kick := by
  unfold State.kick
  split
  · exact h
  · exact h.quiet rfl
  · split
    · exact h
    · split
      · exact h
      · next e _ => exact h.take e.key rfl

end Sys2Proof.Machine
end

section
/-! Every command, and with it every step, moves the report queue and the staging list as `Queued` says, and so keeps their order
(R53, R176). -/

namespace Sys2Proof.Machine

variable {r s t : State}

/-! ## Requests -/

/-- CUE_ADD stages an entry that has room (R55). -/
theorem takeCueAdd_queued (tag : Byte) (f : CueFields) (h : Queued r s) : Queued r (takeCueAdd tag f s) := by
  unfold takeCueAdd
  split
  · exact h.quiet rfl
  · split
    · exact h.quiet rfl
    · next e _ =>
      dsimp only
      split
      · exact h.quiet rfl
      · next hroom =>
        refine h.stage e ?_ rfl
        simpa [or_iff_not_imp_left] using hroom

theorem resumeHolds_queued (a : Axis) (h : Queued r s) : Queued r (resumeHolds a s).1 := by
  have hposted (f : AxisRecord → AxisRecord) : Queued r ((s.onAxis a f).reportAxis a) := Queued.reportAxis a (h.quiet rfl)
  unfold resumeHolds
  dsimp only
  split
  · exact h
  · split
    · split
      · exact (hposted _).enterPreparing a
      · exact hposted _
      · exact hposted _
    · exact hposted _

theorem acknowledge_queued (a : Axis) (h : Queued r s) : Queued r (acknowledge a s).1 := by
  have hidle : Queued r ((s.onAxis a fun r => { r with fault := none }).enterIdle a) := Queued.enterIdle a (h.quiet rfl)
  exact hidle.quiet (State.activateHead_lists _ a)

theorem cancelled_queued (mode : Nat) (cancel : Fin 16 → State → Handled) (tag : Byte) (c : Nat)
    (hc : ∀ c, (cancel c s).1.lists = s.lists) (h : Queued r s) : Queued r (takeCancel mode cancel tag c s) := by
  unfold takeCancel
  (repeat' split)
  exacts [h.quiet rfl, h.quiet rfl, h.answered (hc _)]

/-- A request that runs no signals and stages no cue entry leaves both lists. -/
theorem carryOut_lists (i : Instr) (h : runsNoSignals i = true) (hadd : ∀ tag f, i ≠ .cueAdd tag f)
    (hclear : ∀ tag, i ≠ .cueClear tag) : (carryOut i s).lists = s.lists := by
  have notice (tag : Byte) (p n : Nat) (zones : List Nat) : (takeChimePlay tag p n zones s).lists = s.lists := by
    unfold takeChimePlay
    (repeat' split)
    exacts [rfl, rfl, s.joinNotice_lists _]
  cases i
  case cueAdd tag f => exact absurd rfl (hadd tag f)
  case cueClear tag => exact absurd rfl (hclear tag)
  case chimePlay tag p n zones => exact notice tag p n zones
  all_goals cases h
  all_goals simp only [carryOut, takeGetPanel, takeReset, takeSetLink, takeGetBudget, takeGetZone, takeStoreScene, takeCueCommit,
    takeCueStatus, takeGetAxis, takeOpenProgram, takeGetProgram, takeSetPattern, takeSetPanel, takeSetBinding, takeSaveConfig]
  all_goals
    repeat' split
    all_goals rfl

/-- Every request moves the lists. -/
theorem Queued.carryOut (i : Instr) (h : Queued r s) : Queued r (carryOut i s) := by
  cases i with
  | setSupply tag n m =>
    simp only [Machine.carryOut, takeSetSupply]
    (repeat' split)
    exacts [h.quiet rfl, h.answered rfl]
  | setSlot tag k e p c d o =>
    simp only [Machine.carryOut, takeSetSlot]
    (repeat' split)
    exacts [h.quiet rfl, h.quiet rfl, h.answered rfl]
  | setAuxDemand tag k d =>
    simp only [Machine.carryOut, takeSetAuxDemand]
    (repeat' split)
    exacts [h.quiet rfl, h.quiet rfl, h.answered rfl]
  | setZone tag z f =>
    have hwritten (z : Fin 24) (before : ZoneConfig) (u : State) : (zoneWritten z before u).1.lists = u.lists := by
      unfold zoneWritten
      dsimp only
      split <;> rfl
    simp only [Machine.carryOut, takeSetZone]
    (repeat' split)
    exacts [h.quiet rfl, h.quiet rfl, h.quiet rfl, h.answered ((hwritten ..).trans rfl)]
  | setLevels tag z l fade =>
    have hlevels (z : Fin 24) : (levelsEvent z l fade s).1.lists = s.lists := by
      unfold levelsEvent
      split <;> rfl
    simp only [Machine.carryOut, takeSetLevels]
    split
    exacts [h.quiet rfl, h.answered (hlevels _)]
  | setSetpoint tag z v =>
    simp only [Machine.carryOut, takeSetSetpoint]
    split
    exacts [h.quiet rfl, h.answered rfl]
  | setMode tag z v =>
    simp only [Machine.carryOut, takeSetMode]
    split
    exacts [h.quiet rfl, h.answered rfl]
  | recallScene tag z n =>
    simp only [Machine.carryOut, takeRecallScene]
    split
    exacts [h.answered (recallScene_lists ..), h.quiet rfl]
  | cueAdd tag f => exact takeCueAdd_queued tag f h
  | cueClear tag =>
    simp only [Machine.carryOut, takeCueClear]
    split
    exacts [h.quiet rfl, h.empty rfl]
  | setAxis tag a f =>
    simp only [Machine.carryOut, takeSetAxis]
    (repeat' split)
    exacts [h.quiet rfl, h.quiet rfl, h.quiet rfl, h.answered rfl]
  | ackFault tag a =>
    simp only [Machine.carryOut, takeAckFault]
    (repeat' split)
    exacts [h.quiet rfl, h.quiet rfl, h.quiet rfl, (acknowledge_queued _ h).answered rfl]
  | programStep tag c f =>
    have hbroken (c : Fin 16) : (breakAdmission c s).1.lists = s.lists := by
      unfold breakAdmission
      dsimp only
      split <;> rfl
    simp only [Machine.carryOut, takeProgramStep]
    (repeat' split)
    exacts [h.quiet rfl, h.quiet rfl, h.answered (hbroken _), h.answered (admitStep_lists ..)]
  | cancelAtBoundary tag c =>
    refine cancelled_queued _ _ _ _ (fun c => ?_) h
    unfold cancelBoundary
    split <;> rfl
  | cancelImmediate tag c =>
    refine cancelled_queued _ _ _ _ (fun c => ?_) h
    unfold cancelNow
    split <;> rfl
  | pauseProgram tag c =>
    simp only [Machine.carryOut, takePauseProgram]
    (repeat' split)
    exacts [h.quiet rfl, h.quiet rfl, h.answered rfl, h.quiet rfl]
  | resumeProgram tag c =>
    simp only [Machine.carryOut, takeResumeProgram]
    (repeat' split)
    exacts [h.quiet rfl, h.quiet rfl, (resumeHolds_queued _ h).answered rfl]
  | setInterlock tag a d l =>
    simp only [Machine.carryOut, takeSetInterlock]
    (repeat' split)
    exacts [h.quiet rfl, h.quiet rfl, h.quiet rfl, h.answered rfl, h.quiet rfl]
  | setInterlockCommon tag c =>
    simp only [Machine.carryOut, takeSetInterlockCommon]
    (repeat' split)
    · exact h.quiet rfl
    · exact h.quiet rfl
    · refine Queued.reply _ _ _ _ ?_
      simp only [storeCommon, State.postRating]
      split
      · refine Queued.sent (h.sent .evaluatePermits ?_) _ rfl
        rfl
      · refine h.sent .evaluatePermits ?_
        rfl
  | setVessel tag v a b c => exact h.answered rfl
  | setTagmap tag p e f =>
    simp only [Machine.carryOut, takeSetTagmap]
    (repeat' split)
    exacts [h.quiet rfl, h.quiet rfl, h.answered rfl, h.quiet rfl]
  | _ => exact h.quiet (carryOut_lists _ rfl (by simp) (by simp))

/-! ## The input buffer and the receiver -/

theorem Queued.serve (n : Nat) (h : Queued r s) : Queued r (serve n s) := by
  induction n generalizing s with
  | zero => exact h
  | succ n ih =>
    have carried (f : Frame) {u : State} (hu : Queued r u) : Queued r (carryFrame f u) := by
      unfold carryFrame
      split
      exacts [hu.quiet rfl, hu.quiet rfl, hu.quiet rfl, hu.carryOut _]
    unfold Machine.serve
    (repeat' split)
    exacts [h, ih (Queued.kick (carried _ (h.quiet rfl))), h]

theorem Queued.receive (flush : Bool) (n : Nat) (h : Queued r s) : Queued r (receive flush n s) := by
  have offered (f : Frame) {u : State} (hu : Queued r u) : Queued r (goodFrame f u) := by
    unfold goodFrame
    dsimp only
    exact .ite (Queued.serve _ (hu.quiet rfl)) (hu.quiet rfl)
  induction n generalizing s with
  | zero => exact h
  | succ n ih =>
    unfold Machine.receive
    (repeat' split)
    exacts [ih (h.quiet rfl), h, ih (h.quiet rfl), ih (offered _ (h.quiet rfl))]

theorem Queued.takeByte (b : LineByte) (h : Queued r s) : Queued r (takeByte s b) :=
  .ite (Queued.receive _ _ (h.quiet rfl)) h

/-! ## Resets -/

theorem State.failSave_lists (s : State) : s.failSave.lists = s.lists := by
  unfold State.failSave
  split <;> rfl

theorem Queued.endStartUp (h : Queued r s) : Queued r s.endStartUp :=
  (Queued.foldl (fun h a => h.reportAxis a) allAxes h).post _ _

theorem Queued.startUp (e : EepromAnswer) (levels : Inputs) (d : Nat) (sensors : Sensors) (n : Nat) (k : ResetKind)
    (h : Queued r s) : Queued r (startUp e levels (startLive d sensors n k s)) := by
  have hstarted : Queued r (install levels (loadImage e (startLive d sensors n k s))) :=
    Queued.settled (h.reset (u := loadImage e (startLive d sensors n k s)) rfl) rfl
  refine (Queued.foldl (fun {t} ht z => ?_) allZones hstarted).endStartUp
  unfold startZone
  dsimp only
  split
  · exact (ht.settled (recallScene_lists ..)).post _ _
  · exact ht.post _ _

theorem Queued.warmReset (h : Queued r s) :
    Queued r ((allZones.foldl warmZone ((startWarm s).send .pass)).send .evaluatePermits).endStartUp := by
  have hstarted : Queued r ((startWarm s).send .pass) := Queued.settle _ (h.reset rfl)
  refine Queued.endStartUp (Queued.settle _ (Queued.foldl (fun {t} ht z => ?_) allZones hstarted))
  unfold warmZone
  refine Queued.post ?_ _ _
  split
  · exact Queued.settle _ (ht.quiet rfl)
  · exact ht

/-! ## Commands and steps -/

/-- Every command moves the lists. -/
theorem exec_queued (h : Queued r s) (i : Instr) (e : exec i s = .next t) : Queued r t := by
  have request : Queued r (carryOut i s).kick := (h.carryOut i).kick
  have failed : Queued r s.failSave := h.quiet s.failSave_lists
  have event {k : Handled} (e : k.1.lists = s.lists) : Queued r (settle k) := h.settled e
  cases i with
  | powerOn image levels =>
    obtain rfl := carried_eq e
    exact (failed.startUp image levels _ _ _ _).kick
  | coldReset image levels => cases e; exact .kick (.ite (failed.startUp image levels _ _ _ _) h)
  | warmReset => cases e; exact .kick (.ite failed.warmReset h)
  | frameReceived bytes => cases e; exact .kick (.foldl (fun h b => h.takeByte b) bytes h)
  | byteGapExpiry => cases e; exact .kick (.ite (h.receive _ _) h)
  | frameSent =>
    cases e
    cases s.link.sending with
    | none => exact h.kick
    | some x =>
      refine .kick (.serve _ (Queued.kick (h.quiet ?_)))
      split <;> rfl
  | linkSilenceExpiry => cases e; exact .kick (.ite (event rfl) h)
  | baseLoadSample load => cases e; exact .kick (event rfl)
  | meterSilenceExpiry => cases e; exact .kick (.ite (event rfl) h)
  | holdOffExpiry k => cases e; exact .kick (.ite (event rfl) h)
  | outputFrame => cases e; exact .kick (event rfl)
  | temperatureSample z x => cases e; exact .kick (event rfl)
  | lossTimerExpiry z => cases e; exact .kick (.ite (event rfl) h)
  | capTimerExpiry => cases e; exact .kick (.ite (h.quiet rfl) h)
  | positionSample a x =>
    cases e
    refine .kick (event ?_)
    unfold positionEvent
    split <;> rfl
  | staleTimerExpiry a => cases e; exact .kick (.ite (event rfl) h)
  | windlassPulse x => cases e; exact .kick (event rfl)
  | anchorHomeChange x =>
    cases e
    refine .kick (event ?_)
    unfold positionEvent
    (repeat' split) <;> rfl
  | overloadInput x => cases e; exact .kick (event rfl)
  | warnTimeReached a => cases e; exact .kick (.ite (event rfl) h)
  | prepareTimerExpiry a => cases e; exact .kick (.ite (event rfl) h)
  | stallWindowExpiry a =>
    cases e
    refine .kick ?_
    split
    · exact .ite (h.quiet rfl) (event rfl)
    · exact h
  | dwellEnd a => cases e; exact .kick (.ite (event rfl) h)
  | stopTimerExpiry a => cases e; exact .kick (.ite ((h.endStop a).settled rfl) h)
  | starvationTimerExpiry c => cases e; exact .kick (.ite (event rfl) h)
  | fieldInputChange x b => cases e; exact .kick (event rfl)
  | vesselAgeingExpiry => cases e; exact .kick (.ite (event rfl) h)
  | motionNoteEnd a =>
    cases e
    refine Queued.kick (h.quiet ?_)
    unfold motionNote
    split <;> rfl
  | noticeNoteEnd =>
    cases e
    refine Queued.kick (h.quiet ?_)
    unfold noticeNote
    dsimp only
    (repeat' split) <;> rfl
  | panelFrame p f =>
    cases e
    refine .kick (event ?_)
    unfold panelFrame
    split <;> rfl
  | panelSilenceExpiry p => cases e; exact .kick (.ite (event rfl) h)
  | releaseTimerExpiry a =>
    cases e
    refine .kick ?_
    split
    · exact .ite (event rfl) h
    · exact h
  | saveComplete x =>
    cases e
    refine .kick ?_
    split
    exacts [h, h.quiet rfl, failed.quiet rfl, failed.quiet rfl]
  | saveTimerExpiry => cases e; exact .kick (.ite (failed.quiet rfl) h)
  | _ => cases e; exact request

/-- Every step moves the lists. -/
theorem step_queued (e : step s = .next t) : Queued s t := by
  unfold step at e
  split at e
  · cases e
    exact .quiet .refl rfl
  · next i rest _ =>
    exact exec_queued (s := { s with pending := rest }) (.quiet .refl rfl) i e

/-- Settles O56: every move keeps the order of the queue and the bounds of the list. -/
theorem queuesKeepTheirOrder : Obligations.QueuesKeepTheirOrder := by
  refine ⟨fun s t hs e => ?_, fun s t hs e => ?_⟩
  · have ht := (step_queued e).inOrder (s.reportLaw_iff.1 hs)
    exact ⟨t.reportLaw_iff.2 ht, ht.length_le⟩
  · exact t.cueLaw_iff.2 ((step_queued e).staged (s.cueLaw_iff.1 hs))

end Sys2Proof.Machine
end

section
/-! Scenes and the staging list: STORE_SCENE and RECALL_SCENE (R49 to R51), CUE_ADD, CUE_CLEAR, CUE_COMMIT and the cap timer (R54 to
R57, R59). -/

namespace Sys2Proof.Machine

/-! ## Scenes -/

/-- A scene record as stored, with the clamps of R50 written out. -/
theorem storedScene_eq (f : SceneFields) :
    storedScene f =
      { levels := f.levels.map (·.map (min · 1000)), fade := min f.fade 60000 / 10 * 10,
        setpoint := f.setpoint.map fun v => (if v < 160 then 160 else if 300 < v then 300 else v) / 5 * 5,
        mode := f.mode } := by
  rw [← funext clampSetpoint_eq]
  rfl

/-- A scene recall is one event of its zone, whose signals keep what it has changed (R49). -/
theorem recallScene_follows (z : Fin 24) (n : Fin 32) (s : State) :
    (s.onZone z (·.recall s.config.scenes[n])).follows (settle (recallScene z n s)) := by
  by_cases h : s.config.scenes[n].isEmpty = true
  · rw [recallScene_empty h, settle_nil, State.onZone_id (Zone.recall_of_isEmpty _ h _)]
    exact State.follows_of rfl rfl
  · rw [recallScene_nonempty h]
    exact changeZone_follows true z _ s

/-- The steps of a scene recall, each where the record holds it (R49). -/
theorem Zone.recall_steps (r : Scene) (z : Zone) :
    z.recall r =
      let moded := r.mode.elim z fun m => z.changeMode m
      let lit : Zone := { moded with channels := Vector.ofFn fun i : Fin 4 =>
        ((r.levels[i]).elim (moded.channels[i]) fun l => (moded.channels[i]).changeLevel moded.mode l r.fade) }
      r.setpoint.elim lit fun v => { lit with setpoint := clampSetpoint v } := by
  rw [Zone.recall_eq, Zone.changeLevels_elim]
  rfl

/-- Settles O25: a stored scene is read back into its reply, and a recall is one event of its zone. -/
theorem scenesAreStoredAndRecalled : Obligations.ScenesAreStoredAndRecalled := by
  refine ⟨fun tag n f s => ?_, fun tag z n s => ?_⟩
  · by_cases hs : s.store.saving.isSome = true
    · simp only [hs, if_true]
      exact refused_of (by simp [takeStoreScene, State.isSaving, hs])
    · have htaken : takeStoreScene tag n.val (some f) s
          = ({ s with config := { s.config with scenes := s.config.scenes.set n (storedScene f) } } : State).reply 0x28 tag .ok
            (u8 n.val ++ (storedScene f).bytes) := by
        simp [takeStoreScene, State.isSaving, hs, sceneReply]
      refine ⟨_, rfl, ?_⟩
      rw [if_neg hs, htaken, ← storedScene_eq]
      exact reply_kick_onlyAnswers ..
  · have htaken : takeRecallScene tag z.val n.val s = (settle (recallScene z n s)).reply 0x29 tag .ok
        (u8 z.val ++ u8 n.val ++ (settle (recallScene z n s)).zones[z].channels.toList.flatMap (fun c => u16 c.target)
          ++ u8 (settle (recallScene z n s)).zones[z].mode.code ++ u16 (settle (recallScene z n s)).zones[z].setpoint) := by
      simp only [takeRecallScene, indexOf_val]
    refine ⟨_, rfl, ?_⟩
    rw [htaken, State.reply_kick_zones, List.flatMap_map]
    refine ⟨State.onZone_follows_congr (Zone.recall_steps _ _) ((recallScene_follows z n s).reply ..).kick,
      reply_kick_answers ?_ 0x29 tag _⟩
    rw [settle_outgoing]
    exact State.outgoing_of_still (recallScene_still z n s)

/-! ## CUE_ADD (R54, R55) -/

/-- What CUE_ADD holds out of range. -/
def cueOutOfRange (f : CueFields) : Prop :=
  23 < f.zone ∨ 3 < f.kind ∨ (f.kind = 0 ∧ 31 < f.value) ∨ (f.kind = 3 ∧ 255 < f.value)

theorem storedEntry_none {f : CueFields} (h : cueOutOfRange f) : storedEntry f = none := by
  rcases h with hzone | hkind | ⟨hkind, hvalue⟩ | ⟨hkind, hvalue⟩
  · simp [storedEntry, indexOf_none hzone]
  · obtain ⟨k, hk⟩ : ∃ k, f.kind = k + 4 := ⟨f.kind - 4, by omega⟩
    simp [storedEntry, hk]
  · cases hz : indexOf 24 f.zone <;> simp [storedEntry, hkind, hz, indexOf_none hvalue]
  · cases hz : indexOf 24 f.zone <;> simp [storedEntry, hkind, hz, hvalue]

/-- An entry in range as stored: its zone, and the change of its kind with the clamps of R54. -/
theorem storedEntry_some {f : CueFields} (h : ¬ cueOutOfRange f) :
    ∃ e, storedEntry f = some e ∧ e.zone.val = f.zone ∧ e.change.code = f.kind
      ∧ (f.kind = 0 → e.change = .scene (Fin.ofNat 32 f.value))
      ∧ (f.kind = 1 → e.change = .levels (f.levels.map (·.map (min · 1000))) (min f.fade 60000 / 10 * 10))
      ∧ (f.kind = 2 →
          e.change = .setpoint ((if f.value < 160 then 160 else if 300 < f.value then 300 else f.value) / 5 * 5))
      ∧ (f.kind = 3 → e.change = .mode f.value) := by
  unfold cueOutOfRange at h
  have hzone : f.zone < 24 := by omega
  obtain ⟨z, hz, hval⟩ : ∃ z : Fin 24, indexOf 24 f.zone = some z ∧ z.val = f.zone := ⟨⟨f.zone, hzone⟩, dif_pos hzone, rfl⟩
  obtain hkind | hkind | hkind | hkind : f.kind = 0 ∨ f.kind = 1 ∨ f.kind = 2 ∨ f.kind = 3 := by omega
  · have hvalue : f.value < 32 := by omega
    have hn : indexOf 32 f.value = some ⟨f.value, hvalue⟩ := dif_pos hvalue
    refine ⟨⟨z, .scene ⟨f.value, hvalue⟩⟩, by simp [storedEntry, hz, hkind, hn], hval, hkind.symm, ?_⟩
    simp [hkind, Fin.ofNat, Nat.mod_eq_of_lt hvalue]
  · refine ⟨⟨z, .levels (f.levels.map (·.map clampLevel)) (clampFade f.fade)⟩, by simp [storedEntry, hz, hkind], hval,
      hkind.symm, ?_⟩
    exact ⟨by simp [hkind], fun _ => rfl, by simp [hkind], by simp [hkind]⟩
  · refine ⟨⟨z, .setpoint (clampSetpoint f.value)⟩, by simp [storedEntry, hz, hkind], hval, hkind.symm, ?_⟩
    simp [hkind, clampSetpoint_eq]
  · have hvalue : f.value ≤ 255 := by omega
    exact ⟨⟨z, .mode f.value⟩, by simp [storedEntry, hz, hkind, hvalue], hval, hkind.symm, by simp [hkind]⟩

/-- A new pair's entry is appended as the newest. -/
theorem stage_new {e : CueEntry} {l : List CueEntry} (h : ∀ x ∈ l, e.matches x = false) :
    stage e l = l ++ [e] ∧ (stage e l).findIdx e.matches = l.length := by
  have hany : l.any e.matches = false := by simpa using h
  have hstage : stage e l = l ++ [e] := by simp [stage, hany]
  have hself : e.matches e = true := (e.matches_iff e).2 rfl
  have hplace : l.findIdx e.matches = l.length := List.findIdx_eq_length.2 h
  refine ⟨hstage, ?_⟩
  rw [hstage, List.findIdx_append, hplace, if_neg (lt_irrefl _), List.findIdx_cons, hself, cond_true, Nat.zero_add]

/-- An entry of a pair that stands in the list replaces it in place. -/
theorem stage_old {e : CueEntry} {l : List CueEntry} (h : ∃ x ∈ l, e.matches x = true) :
    stage e l = (l.map fun x => if e.matches x then e else x) ∧ (stage e l).findIdx e.matches = l.findIdx e.matches := by
  have hany : l.any e.matches = true := List.any_eq_true.2 h
  have hstage : stage e l = l.map fun x => if e.matches x then e else x := by simp [stage, hany]
  have hself : e.matches e = true := (e.matches_iff e).2 rfl
  have hpair : (fun x => e.matches (if e.matches x then e else x)) = e.matches := by
    funext x
    split
    · next hx => rw [hx, hself]
    · rfl
  refine ⟨hstage, ?_⟩
  rw [hstage, List.findIdx_map]
  exact congrArg (l.findIdx ·) hpair

/-- CUE_ADD with an entry in range while no commit is pending: a new pair finds a full list full. -/
theorem takeCueAdd_full {f : CueFields} {e : CueEntry} {s : State} (tag : Byte) (hcommit : s.cue.commit = none)
    (he : storedEntry f = some e) (hnew : s.cue.entries.any e.matches = false) (hfull : cueCapacity ≤ s.cue.entries.length) :
    takeCueAdd tag f s = s.refuse 0x2B tag .full := by
  simp [takeCueAdd, hcommit, he, hnew, hfull]

/-- CUE_ADD with an entry in range while no commit is pending: the entry is staged where it has room. -/
theorem takeCueAdd_stages {f : CueFields} {e : CueEntry} {s : State} (tag : Byte) (hcommit : s.cue.commit = none)
    (he : storedEntry f = some e) (hroom : s.cue.entries.any e.matches = true ∨ ¬ cueCapacity ≤ s.cue.entries.length) :
    takeCueAdd tag f s =
      ({ s with cue := { s.cue with entries := stage e s.cue.entries } } : State).reply 0x2B tag .ok
        (u8 ((stage e s.cue.entries).findIdx e.matches) ++ flag (s.cue.entries.any e.matches)
          ++ u8 (stage e s.cue.entries).length ++ e.bytes) := by
  have hstages : ¬ (!s.cue.entries.any e.matches && decide (cueCapacity ≤ s.cue.entries.length)) = true := by
    rcases hroom with h | h <;> simp [h]
  simp only [takeCueAdd, hcommit, he, Option.isSome_none, Bool.false_eq_true, if_false, if_neg hstages]

/-- Settles O26: the refusals in their order, and then the staging of the stored entry. -/
theorem cueAddStagesTheEntry : Obligations.CueAddStagesTheEntry := by
  intro tag f s
  refine ⟨_, rfl, fun hcommit => ?_, fun hcommit hrange => ?_, fun hcommit hrange => ?_⟩
  · have htaken : takeCueAdd tag f s = s.refuse 0x2B tag .busy := by
      simp [takeCueAdd, Option.isSome_iff_ne_none, hcommit]
    rw [htaken]
    exact reply_kick_onlyAnswers ..
  · have htaken : takeCueAdd tag f s = s.refuse 0x2B tag .range := by
      simp [takeCueAdd, hcommit, storedEntry_none hrange]
    rw [htaken]
    exact reply_kick_onlyAnswers ..
  · obtain ⟨e, he, hzone, hkind, hscene, hlevels, hsetpoint, hmode⟩ := storedEntry_some hrange
    refine ⟨e, he, hzone, hkind, hscene, hlevels, hsetpoint, hmode, fun hnew => ?_, fun hold => ?_⟩
    · have hany : s.cue.entries.any e.matches = false := by simpa using hnew
      obtain ⟨hstage, hplace⟩ := stage_new hnew
      split
      · next hfull =>
        rw [takeCueAdd_full tag hcommit he hany hfull]
        exact reply_kick_onlyAnswers ..
      · next hroom =>
        rw [takeCueAdd_stages tag hcommit he (.inr hroom), hplace, hstage, hany, List.length_append]
        exact reply_kick_onlyAnswers ..
    · have hany : s.cue.entries.any e.matches = true := List.any_eq_true.2 hold
      obtain ⟨hstage, hplace⟩ := stage_old hold
      rw [takeCueAdd_stages tag hcommit he (.inl hany), hplace, hstage, hany, List.length_map]
      exact reply_kick_onlyAnswers ..

/-! ## CUE_CLEAR, CUE_COMMIT and the cap timer (R56, R57, R59) -/

theorem commitModeOf_none {n : Nat} (h : 1 < n) : commitModeOf n = none := by
  match n, h with
  | _ + 2, _ => rfl

/-- CUE_COMMIT with a mode in range while no commit is pending. -/
theorem takeCueCommit_commits {n : Nat} {s : State} (tag : Byte) (hcommit : s.cue.commit = none) (h : ¬ 1 < n) :
    takeCueCommit tag n s = ({ s with cue := { s.cue with
        commit := some (if n = 0 then .atFrame else .afterFades), framesWaited := 0, lateDue := false,
        capDeadline := if n = 0 then none else some (s.now + 30000) } } : State).reply 0x2C tag .ok
      (u8 n ++ u8 s.cue.entries.length) := by
  obtain rfl | rfl : n = 0 ∨ n = 1 := by omega
  · simp only [takeCueCommit, hcommit]
    rfl
  · simp only [takeCueCommit, hcommit]
    rfl

/-- Settles O27: each command by its own branches. -/
theorem cueListIsClearedAndCommitted : Obligations.CueListIsClearedAndCommitted := by
  refine ⟨fun tag s => ⟨_, rfl, fun hcommit => ?_, fun hcommit => ?_⟩, fun tag n s => ⟨_, rfl, ?_⟩,
    fun s => ⟨_, rfl, ?_⟩⟩
  · rw [takeCueClear, if_pos (Option.isSome_iff_ne_none.2 hcommit)]
    exact reply_kick_onlyAnswers ..
  · rw [takeCueClear, if_neg (by simp [hcommit])]
    exact reply_kick_onlyAnswers ..
  · split
    · next hcommit =>
      rw [takeCueCommit, if_pos (Option.isSome_iff_ne_none.2 hcommit)]
      exact reply_kick_onlyAnswers ..
    · next hcommit =>
      split
      · next hn =>
        rw [takeCueCommit, if_neg (by simpa using hcommit), commitModeOf_none hn]
        exact reply_kick_onlyAnswers ..
      · next hn =>
        rw [takeCueCommit_commits tag (not_not.1 hcommit) hn]
        exact reply_kick_onlyAnswers ..
  · split
    · next hstopped =>
      rw [if_neg (by simp [hstopped])]
      exact kick_becomes s
    · next hruns =>
      rw [if_pos (Option.isSome_iff_ne_none.2 hruns)]
      exact kick_becomes _

end Sys2Proof.Machine
end

section
/-! O48: what an allowed zone action does to its zone, and what the result of a dispatch leaves (R49, R135, R157, R159, R166). -/

namespace Sys2Proof.Machine

/-! ## Zone actions (R159): the event that each kind runs, and what it changes -/

/-- LEVEL_UP and LEVEL_DOWN as R159 says them: a level change of each channel whose stepped target differs. -/
theorem Zone.stepLevels_eq (f : Nat → Nat) (z : Zone) :
    z.stepLevels f = { z with
      channels := z.channels.map fun c => if f c.target = c.target then c else c.changeLevel z.mode (f c.target) 500 } := by
  unfold Zone.stepLevels Zone.onChannels
  congr 1
  apply Vector.ext
  intro i hi
  simp

theorem setpointEvent_follows (z : Fin 24) (v : Nat) (s : State) :
    (s.onZone z (·.changeSetpoint v)).follows (settle (setpointEvent z v s)) := changeZone_follows false z _ s

theorem modeEvent_follows (z : Fin 24) (v : Nat) (s : State) :
    (s.onZone z (·.changeMode v)).follows (settle (modeEvent z v s)) := changeZone_follows _ z _ s

theorem stepEvent_follows (z : Fin 24) (f : Nat → Nat) (s : State) :
    (s.onZone z (·.stepLevels f)).follows (settle (stepEvent z f s)) := changeZone_follows _ z _ s

theorem zoneAction_scene {b : Binding} {n : Fin 32} (hkind : b.kind = .scene) (hn : b.argument = n.val) (z : Fin 24) (s : State) :
    zoneAction z b s = recallScene z n s := by
  simp only [zoneAction, hkind, hn, indexOf_val]

theorem zoneAction_levelUp {b : Binding} (hkind : b.kind = .levelUp) (z : Fin 24) (s : State) :
    zoneAction z b s = stepEvent z (fun t => min 1000 (t + b.argument)) s := by
  simp only [zoneAction, hkind]

theorem zoneAction_levelDown {b : Binding} (hkind : b.kind = .levelDown) (z : Fin 24) (s : State) :
    zoneAction z b s = stepEvent z (fun t => t - b.argument) s := by
  simp only [zoneAction, hkind]

theorem zoneAction_setpointUp {b : Binding} (hkind : b.kind = .setpointUp) (z : Fin 24) (s : State) :
    zoneAction z b s = setpointEvent z (s.zones[z].setpoint + 5) s := by
  simp only [zoneAction, hkind]

theorem zoneAction_setpointDown {b : Binding} (hkind : b.kind = .setpointDown) (z : Fin 24) (s : State) :
    zoneAction z b s = setpointEvent z (s.zones[z].setpoint - 5) s := by
  simp only [zoneAction, hkind]

theorem zoneAction_mode {b : Binding} (hkind : b.kind = .mode) (z : Fin 24) (s : State) :
    zoneAction z b s = modeEvent z b.argument s := by
  simp only [zoneAction, hkind]

/-! ## The result of a dispatch (R157, R166) -/

theorem State.post_reported (s : State) (key : ReportKey) (content : List Byte) : (s.post key content).reported key content :=
  .inl (List.mem_of_find?_eq_some (find_postTo_same key content s.link.reports))

theorem State.joinNotice_notices (s : State) (n : Notice) : (s.joinNotice n).chime.notices = s.chime.notices ++ [n] := by
  unfold State.joinNotice
  split
  · next h =>
    rw [List.isEmpty_iff.1 h]
    rfl
  · rfl

theorem State.joinNotice_link (s : State) (n : Notice) : (s.joinNotice n).link = s.link := by
  unfold State.joinNotice
  split <;> rfl

theorem State.joinNotice_motion (s : State) (n : Notice) : (s.joinNotice n).motion = s.motion := by
  unfold State.joinNotice
  split <;> rfl

/-- The result of a dispatch: its report, and where it is denied a notice of the deny tone that finds room. -/
theorem actionResult_eq (p : Fin 12) (result : ActionResult) (content : List Byte) (s : State) :
    actionResult p result content s =
      if result = .done ∨ 4 ≤ s.chime.notices.length then s.post (.panelAction p) content
      else (s.post (.panelAction p) content).joinNotice
        { pattern := 7, zones := [(s.config.panels[p].home).val], repeats := 1, played := 0 } := by
  have hroom : (s.post (.panelAction p) content).chime.notices.length < noticeCapacity ↔ ¬ 4 ≤ s.chime.notices.length :=
    Nat.not_le.symm
  unfold actionResult State.denyTone
  by_cases hdone : result = .done
  · simp only [hdone, true_or, if_true]
  · simp only [hdone, false_or, if_false, hroom, ite_not]

/-- The content of a PANEL_ACTION report, field by field (R166). -/
theorem actionContent_eq (p : Fin 12) (tag : Nat) (kind : BindingKind) (target : Option Nat) (result : ActionResult)
    (x : Option (Fin 16)) (resume : Bool) :
    actionContent p tag kind target result x resume =
      u8 p.val ++ u8 tag ++ u8 kind.code ++ target.elim [0xFF] u8 ++ u8 result.code ++ x.elim [0xFF] (fun c => u8 c.val)
        ++ flag resume := by
  cases target <;> cases x <;> rfl

/-- Settles O48: each action is one event of its zone, and a result posts its report and asks for its tone. -/
theorem allowedActionsActOnTheZone : Obligations.AllowedActionsActOnTheZone := by
  refine ⟨fun z b s => ?_, fun p tag kind target result x resume s => ?_⟩
  · intro t level moded warmed stepped
    have hlevel (mode : ZoneMode) (fade : Nat) (c : Channel) (l : Nat) : level mode fade c l = c.changeLevel mode l fade :=
      (Channel.changeLevel_eq mode l fade c).symm
    have hmoded (y : Zone) : moded y = fun v => y.changeMode v := by
      simp only [moded, hlevel, Zone.changeMode_cases]
    have hwarmed (y : Zone) : warmed y = fun v => y.changeSetpoint v := by
      simp only [warmed, ← clampSetpoint_eq]
      rfl
    have hstepped (f : Nat → Nat) : stepped f = s.onZone z (·.stepLevels f) := by
      simp only [stepped, hlevel, Zone.stepLevels_eq]
    refine ⟨fun hkind n hn => ?_, fun hkind => ?_, fun hkind => ?_, fun hkind => ?_, fun hkind => ?_, fun hkind => ?_⟩
    · simp only [t, hlevel, hmoded, hwarmed]
      rw [zoneAction_scene hkind hn]
      refine State.onZone_follows_congr ?_ (recallScene_follows z n s)
      rw [Zone.recall_eq, Zone.changeLevels_elim]
    · simp only [t, hstepped]
      rw [zoneAction_levelUp hkind]
      exact stepEvent_follows z _ s
    · simp only [t, hstepped]
      rw [zoneAction_levelDown hkind]
      exact stepEvent_follows z _ s
    · simp only [t, hwarmed]
      rw [zoneAction_setpointUp hkind]
      exact State.onZone_follows_congr rfl (setpointEvent_follows z _ s)
    · simp only [t, hwarmed]
      rw [zoneAction_setpointDown hkind]
      exact State.onZone_follows_congr rfl (setpointEvent_follows z _ s)
    · simp only [t, hmoded]
      rw [zoneAction_mode hkind]
      exact modeEvent_follows z _ s
  · intro t
    have ht : t = actionResult p result (actionContent p tag kind target result x resume) s := rfl
    rw [← actionContent_eq, ht, actionResult_eq]
    have hreported := s.post_reported (.panelAction p) (actionContent p tag kind target result x resume)
    split
    · exact ⟨hreported, rfl, rfl, rfl⟩
    · set u := s.post (.panelAction p) (actionContent p tag kind target result x resume)
      refine ⟨?_, congrArg Prod.fst (State.aspect_of_indoor (State.joinNotice_indoor u _)), State.joinNotice_motion u _,
        State.joinNotice_notices u _⟩
      unfold State.reported
      rwa [State.joinNotice_link]

end Sys2Proof.Machine
end

section
/-! What each operation of the Axis Controller does to the record of its axis, said once, and what it leaves of the other axes, of
the contexts and of the queues. -/

namespace Sys2Proof.Machine

variable {s t : State}

/-! ## The records of the axes -/

theorem State.axis_congr (h : t.axes = s.axes) (a : Axis) : t.axis a = s.axis a := congrArg (PerAxis.get · a) h

theorem State.queue_congr (h : t.queues = s.queues) (a : Axis) : t.queue a = s.queue a := congrArg (PerAxis.get · a) h

theorem State.head_congr (h : t.queues = s.queues) (a : Axis) : t.head a = s.head a :=
  congrArg List.head? (State.queue_congr h a)

@[simp] theorem State.reportAxis_axis (s : State) (a b : Axis) : (s.reportAxis a).axis b = s.axis b := rfl

@[simp] theorem State.onContext_axis (s : State) (c : Fin 16) (f : Context → Context) (a : Axis) :
    (s.onContext c f).axis a = s.axis a := rfl

@[simp] theorem State.post_axis (s : State) (k : ReportKey) (c : List Byte) (a : Axis) : (s.post k c).axis a = s.axis a := rfl

/-- Entry to HOLD, in the record (R82). -/
@[simp] theorem State.enterHold_axis (s : State) (a : Axis) :
    (s.enterHold a).axis a = { s.axis a with
      state := .hold, drive := driveOff, stall := none, dwellDeadline := none, stopDeadline := none } := by
  simp [State.enterHold]

/-- Entry to STOPPING, in the record (R81). -/
@[simp] theorem State.enterStopping_axis (s : State) (a : Axis) :
    (s.enterStopping a).axis a = { s.axis a with
      state := .stopping, drive := driveOff, stall := none, stopDeadline := some (s.now + stopTime a) } := by
  simp [State.enterStopping, State.ends]

/-- Entry to IDLE, in the record (R73, R83). -/
@[simp] theorem State.enterIdle_axis (s : State) (a : Axis) :
    (s.enterIdle a).axis a = { s.axis a with
      state := .idle, drive := driveOff, stall := none, dwellDeadline := none, stopDeadline := none } := by
  simp [State.enterIdle]

/-- Entry to DWELL, in the record (R78). -/
@[simp] theorem State.startDwell_axis (s : State) (a : Axis) :
    (s.startDwell a).axis a = { s.axis a with
      state := .dwell, drive := driveOff, stall := none, dwellDeadline := some (s.now + (s.axis a).dwell) } := by
  simp [State.startDwell, State.ends]

@[simp] theorem enterDwell_axis (a : Axis) (s : State) (b : Axis) : (enterDwell a s).1.axis b = (s.startDwell a).axis b := by
  unfold enterDwell
  dsimp only
  (repeat' split) <;> rfl

/-- The record of an axis that drives on with its current step (R70, R76). -/
def AxisRecord.driven (r : AxisRecord) (speed : Step → SpeedClass) : AxisRecord :=
  match r.current with
  | none => r
  | some c => { r with speed := speed c.step, drive := moveDrive c.step.direction (speed c.step) }

@[simp] theorem State.driveOn_axis (s : State) (a : Axis) :
    (s.driveOn a).axis a = (s.axis a).driven fun x => x.speedInForce a (s.measured a) := by
  unfold State.driveOn AxisRecord.driven
  cases h : (s.axis a).current with
  | none => rfl
  | some c => simp [h]

/-- Entry to MOVING, in the record (R76, R77). -/
theorem enterMoving_axis (a : Axis) {x : CurrentStep} (h : (s.axis a).current = some x) :
    (enterMoving a s).axis a = { s.axis a with
      state := .moving, speed := x.step.speedInForce a (s.measured a),
      drive := moveDrive x.step.direction (x.step.speedInForce a (s.measured a)),
      stall := some { deadline := s.now + stallTime a, startedAt := s.progressAt a },
      travelRef := (s.measured a).getD 0, warnStart := none, warnReached := false, prepareDeadline := none } := by
  have hmoved : ((s.moveTo a .moving).driveOn a).still = s.still := by simp
  obtain ⟨hnow, -, -, hconfig, -, -, -, -, hsensors, hcount, -⟩ := State.fixed_fields (State.fixed_of_still hmoved)
  have hmeasured : ((s.moveTo a .moving).driveOn a).measured a = s.measured a := by
    cases a <;> simp [State.measured, hconfig, hsensors, hcount]
  have hprogress : ((s.moveTo a .moving).driveOn a).progressAt a = s.progressAt a := by
    cases a <;> simp [State.progressAt, hsensors, hcount]
  have hmeasured' : (s.moveTo a .moving).measured a = s.measured a := by cases a <;> rfl
  simp [enterMoving, AxisRecord.driven, h, hmeasured, hmeasured', hprogress, hnow]

/-- The oldest step of the head context, with which an axis begins when it holds none (R74). -/
def State.oldestStep (s : State) (a : Axis) : Option CurrentStep :=
  (s.head a).bind fun c => s.contexts[c].steps.head?.map fun y => { context := c, step := y }

theorem State.takeStep_axis (s : State) (a : Axis) :
    (s.takeStep a).axis a = { s.axis a with current := (s.oldestStep a).or (s.axis a).current } := by
  unfold State.takeStep State.oldestStep
  cases hh : s.head a with
  | none => rfl
  | some c =>
    dsimp only [Option.bind_some]
    cases hs : s.contexts[c].steps with
    | nil => rfl
    | cons y rest =>
      have htaken := State.onAxis_axis_same (s.onContext c fun x => { x with steps := rest }) a
        fun r => { r with current := some { context := c, step := y } }
      dsimp only
      split <;> exact htaken

/-- Entry to FAULT, in the record (R85, R86). -/
theorem State.enterFault_axis (s : State) (a : Axis) (kind : FaultKind) :
    (s.enterFault a kind).axis a = { s.axis a with
      state := .fault, drive := driveOff, stall := none, holds := noHolds, current := none, warnStart := none,
      warnReached := false, prepareDeadline := none, dwellDeadline := none, stopDeadline := none,
      fault := some { kind := kind, position := s.measured a,
                      context := if (s.axis a).takesReason then s.head a else none, count := 1 } } := by
  unfold State.enterFault
  rw [State.onAxis_axis_same, State.moveTo_state]
  cases a <;> rfl

/-! ## The other axes -/

section
variable {a b : Axis}

@[simp] theorem State.enterHold_axis_other (s : State) (h : b ≠ a) : (s.enterHold a).axis b = s.axis b := by
  simp [State.enterHold, h]

@[simp] theorem State.enterStopping_axis_other (s : State) (h : b ≠ a) : (s.enterStopping a).axis b = s.axis b := by
  simp [State.enterStopping, h]

@[simp] theorem State.enterIdle_axis_other (s : State) (h : b ≠ a) : (s.enterIdle a).axis b = s.axis b := by
  simp [State.enterIdle, h]

@[simp] theorem State.startDwell_axis_other (s : State) (h : b ≠ a) : (s.startDwell a).axis b = s.axis b := by
  simp [State.startDwell, h]

@[simp] theorem State.driveOn_axis_other (s : State) (h : b ≠ a) : (s.driveOn a).axis b = s.axis b := by
  unfold State.driveOn
  split
  · rfl
  · simp [h]

@[simp] theorem enterMoving_axis_other (s : State) (h : b ≠ a) : (enterMoving a s).axis b = s.axis b := by
  simp [enterMoving, h]

@[simp] theorem State.takeStep_axis_other (s : State) (h : b ≠ a) : (s.takeStep a).axis b = s.axis b := by
  have htaken (c : Fin 16) (g : Context → Context) (f : AxisRecord → AxisRecord) :
      ((s.onContext c g).onAxis a f).axis b = s.axis b := State.onAxis_axis_other _ _ _ _ h
  unfold State.takeStep
  split
  · rfl
  · split
    · rfl
    · next c _ _ y rest _ =>
      have htaken := htaken c (fun x => { x with steps := rest }) fun r => { r with current := some { context := c, step := y } }
      dsimp only
      split <;> exact htaken

@[simp] theorem State.activateHead_axis (s : State) (a b : Axis) : (s.activateHead a).axis b = s.axis b := by
  unfold State.activateHead
  (repeat' split) <;> rfl

@[simp] theorem State.travelReport_axis_other (s : State) (h : b ≠ a) : (s.travelReport a).axis b = s.axis b := by
  unfold State.travelReport
  split
  · split
    · simp [h]
    · rfl
  · rfl

end

/-! ## Entry to PREPARING -/

/-- An axis that enters PREPARING holds a step: the current one, or else the oldest of its head context (R74). -/
def State.withStep (s : State) (a : Axis) : State := if (s.axis a).current.isNone then s.takeStep a else s

theorem State.withStep_axis (s : State) (a : Axis) :
    (s.withStep a).axis a = { s.axis a with current := (s.axis a).current.or (s.oldestStep a) } := by
  unfold State.withStep
  split
  · next h => simp [State.takeStep_axis, Option.isNone_iff_eq_none.1 h]
  · next h =>
    obtain ⟨c, hc⟩ := Option.isSome_iff_exists.1 (by simpa [Option.isSome_iff_ne_none] using h)
    rw [hc, Option.some_or, ← hc]

theorem State.withStep_axis_other (s : State) {a b : Axis} (h : b ≠ a) : (s.withStep a).axis b = s.axis b := by
  unfold State.withStep
  split
  · exact s.takeStep_axis_other h
  · rfl

@[simp] theorem State.withStep_still (s : State) (a : Axis) : (s.withStep a).still = s.still := by
  unfold State.withStep
  split
  · exact s.takeStep_still a
  · rfl

/-- The state in which an axis has entered PREPARING, before anything is sent (R74). -/
def State.entered (s : State) (a : Axis) : State :=
  let u := (s.withStep a).moveTo a .preparing
  let timeout := (u.axisConfig a).prepareTimeout
  u.onAxis a fun r =>
    { r with warnStart := some u.now, warnReached := false, stopDeadline := none,
             prepareDeadline := if timeout = 0 then none else u.ends (1000 * timeout) }

@[simp] theorem State.entered_still (s : State) (a : Axis) : (s.entered a).still = s.still := by
  simp [State.entered]

/-- The record of an axis that enters PREPARING (R74). -/
@[simp] theorem State.entered_axis (s : State) (a : Axis) :
    (s.entered a).axis a = { s.axis a with
      state := .preparing, drive := driveOff, stall := none, current := (s.axis a).current.or (s.oldestStep a),
      stopDeadline := none, warnStart := some s.now, warnReached := false,
      prepareDeadline := if (s.axisConfig a).prepareTimeout = 0 then none
        else some (s.now + 1000 * (s.axisConfig a).prepareTimeout) } := by
  obtain ⟨hnow, -, -, hconfig, -⟩ := State.fixed_fields (State.fixed_of_still (s.withStep_still a))
  simp [State.entered, State.withStep_axis, State.axisConfig, State.ends, hnow, hconfig]
  congr

@[simp] theorem State.entered_axis_other (s : State) {a b : Axis} (h : b ≠ a) : (s.entered a).axis b = s.axis b := by
  simp [State.entered, h, s.withStep_axis_other h]

/-- What follows the entry of an axis to PREPARING, when it leaves IDLE (R123). -/
def State.leavesIdle (s : State) (a : Axis) : List Signal := if (s.axis a).state = .idle then idleSignals a else []

theorem State.entered_entryFault (s : State) (a : Axis) : (s.entered a).entryFault a = s.entryFault a := by
  obtain ⟨-, -, -, -, -, -, -, -, hsensors, -, hinputs, -⟩ := State.fixed_fields (State.fixed_of_still (s.entered_still a))
  unfold State.entryFault
  rw [hsensors, hinputs]

/-- A cause found at the entry is a fault at once (R74, R84). -/
theorem enterPreparing_faults {a : Axis} {kind : FaultKind} (h : s.entryFault a = some kind) :
    enterPreparing a s = ((s.entered a).reportAxis a, .fault a kind :: s.leavesIdle a) := by
  have he : (s.entered a).entryFault a = some kind := (s.entered_entryFault a).trans h
  unfold State.entered State.withStep at he ⊢
  simp only [enterPreparing, State.leavesIdle]
  rw [he]

/-- Without a cause the demand is posted, the pump requested and the report posted, and the entry ends (R74). -/
theorem enterPreparing_enters {a : Axis} (h : s.entryFault a = none) :
    enterPreparing a s = (s.entered a, windlassDemand a s.config.gear.rating
      ++ ((hydraulicOf a).map Signal.requestPump).toList ++ [.reportAxis a] ++ s.leavesIdle a ++ [.endEntry a]) := by
  have he : (s.entered a).entryFault a = none := (s.entered_entryFault a).trans h
  have hconfig : (s.entered a).config = s.config := State.config_of_still (s.entered_still a)
  unfold State.entered State.withStep at he hconfig ⊢
  simp only [enterPreparing, State.leavesIdle]
  rw [he]
  dsimp only at hconfig ⊢
  rw [hconfig]
  cases a <;> rfl

/-- Entry to PREPARING, in the state, but for the report of one that faults at once (R74). -/
theorem enterPreparing_state (a : Axis) (s : State) :
    (enterPreparing a s).1 = s.entered a ∨ (enterPreparing a s).1 = (s.entered a).reportAxis a := by
  cases h : s.entryFault a with
  | none => rw [enterPreparing_enters h]; exact .inl rfl
  | some kind => rw [enterPreparing_faults h]; exact .inr rfl

@[simp] theorem enterPreparing_axis (a : Axis) (s : State) (b : Axis) :
    (enterPreparing a s).1.axis b = (s.entered a).axis b := by
  rcases enterPreparing_state a s with h | h <;> rw [h]
  rfl

/-! ## The handlers and the other axes -/

section
variable {a b : Axis}

@[simp] theorem nextStep_axis_other (c : Fin 16) (s : State) (h : b ≠ a) : (nextStep a c s).1.axis b = s.axis b := by
  unfold nextStep
  dsimp only
  (repeat' split) <;> simp [h]

@[simp] theorem addHold_axis_other (reason : HoldReason) (s : State) (h : b ≠ a) :
    (addHold a reason s).axis b = s.axis b := by
  unfold addHold
  dsimp only
  (repeat' split) <;> simp [h]

@[simp] theorem removeHold_axis_other (reason : HoldReason) (s : State) (h : b ≠ a) :
    (removeHold a reason s).1.axis b = s.axis b := by
  unfold removeHold
  dsimp only
  (repeat' split) <;> simp [h]

@[simp] theorem endAxis_axis_other (s : State) (h : b ≠ a) : (endAxis a s).1.axis b = s.axis b := by
  unfold endAxis
  dsimp only
  (repeat' split) <;> simp [h]

@[simp] theorem endStop_axis_other (s : State) (h : b ≠ a) : (endStop a s).1.axis b = s.axis b := by
  unfold endStop
  dsimp only
  (repeat' split) <;> simp [h]

@[simp] theorem faultHead_axis (a : Axis) (executed : Bool) (s : State) (b : Axis) :
    (faultHead a executed s).1.axis b = s.axis b := by
  unfold faultHead
  (repeat' split) <;> rfl

end

/-! ## What each handler can do -/

section
variable {a : Axis} {P : Handled → Prop}

/-- An axis takes its head up from IDLE, or nothing happens (R73). -/
theorem takeUp_cases
    (hup : ∀ c, s.head a = some c → (s.axis a).state = .idle → s.contexts[c].state = .active → s.contexts[c].steps ≠ [] →
      P (enterPreparing a s))
    (hnot : P (s, [])) : P (takeUp a s) := by
  unfold takeUp
  split
  · next c hc =>
    split
    · next h => exact hup c hc h.1 h.2.1 h.2.2
    · exact hnot
  · exact hnot

/-- The timers of PREPARING stop (R75, R131). -/
def AxisRecord.gatesPassed (r : AxisRecord) : AxisRecord :=
  { r with warnStart := none, warnReached := false, prepareDeadline := none }

/-- An axis whose gates are met dwells or moves, and else nothing happens (R131). -/
theorem testGates_cases
    (hdwell : ∀ x, (s.axis a).current = some x → (s.axis a).state = .preparing → (s.axis a).holds = noHolds →
      s.gatesMet a x.step = true → x.step.arrived a (s.measured a) = true → P (enterDwell a (s.onAxis a AxisRecord.gatesPassed)))
    (hmove : ∀ x, (s.axis a).current = some x → (s.axis a).state = .preparing → (s.axis a).holds = noHolds →
      s.gatesMet a x.step = true → x.step.arrived a (s.measured a) = false →
      P (enterMoving a (s.onAxis a AxisRecord.gatesPassed), []))
    (hnot : (∀ x, (s.axis a).current = some x → (s.axis a).state = .preparing → (s.axis a).holds = noHolds →
      s.gatesMet a x.step = false) → P (s, [])) : P (testGates a s) := by
  unfold testGates
  dsimp only
  split
  · next x hx =>
    split
    · next h =>
      obtain ⟨hs, hh, hg⟩ := h
      split
      · next harr => exact hdwell x hx hs hh hg harr
      · next harr => exact hmove x hx hs hh hg (by simpa using harr)
    · next h =>
      refine hnot fun y hy hs hh => ?_
      obtain rfl := Option.some.inj (hx.symm.trans hy)
      simpa [hs, hh] using h
  · next hx => exact hnot fun y hy => by rw [hx] at hy; cases hy

/-- The state in which an axis starves: no current step, STARVED held, and the starvation timer of its context started (R111). -/
def State.starving (s : State) (a : Axis) (c : Fin 16) : State :=
  (s.onAxis a fun r => { r with current := none, holds := r.holds.put .starved true }).onContext c fun x =>
    { x with starveDeadline := s.ends starvationTime }

/-- The state in which an axis has taken its next step (R78). -/
def State.nextTaken (s : State) (a : Axis) : State := (s.takeStep a).onAxis a fun r => { r with dwellDeadline := none }

/-- The state with another hold set. -/
def State.withHolds (s : State) (a : Axis) (v : HoldSet) : State := s.onAxis a fun r => { r with holds := v }

@[simp] theorem State.withHolds_axis (s : State) (a : Axis) (v : HoldSet) :
    (s.withHolds a v).axis a = { s.axis a with holds := v } := State.onAxis_axis_same ..

@[simp] theorem State.starving_axis (s : State) (a : Axis) (c : Fin 16) :
    (s.starving a c).axis a = { s.axis a with current := none, holds := (s.axis a).holds.put .starved true } := by
  simp [State.starving]

@[simp] theorem State.nextTaken_axis (s : State) (a : Axis) :
    (s.nextTaken a).axis a = { s.axis a with current := (s.oldestStep a).or (s.axis a).current, dwellDeadline := none } := by
  simp [State.nextTaken, State.takeStep_axis]

/-- After a dwell an axis starves, dwells again, moves, or holds with INTERLOCK (R78, R111). -/
theorem nextStep_cases {c : Fin 16}
    (hstarve : s.contexts[c].steps = [] → P ((s.starving a c).enterHold a, []))
    (hnone : ((s.nextTaken a).axis a).current = none → P (s.nextTaken a, []))
    (hdwell : ∀ x, ((s.nextTaken a).axis a).current = some x → P (enterDwell a (s.nextTaken a)))
    (hmove : ∀ x, ((s.nextTaken a).axis a).current = some x →
      (∀ d, x.step.direction.interlock = some d → (s.nextTaken a).permit a d = true) → P (enterMoving a (s.nextTaken a), []))
    (hhold : ((s.nextTaken a).axis a).current ≠ none →
      P (((s.nextTaken a).withHolds a (((s.nextTaken a).axis a).holds.put .interlock true)).enterHold a, [])) :
    P (nextStep a c s) := by
  unfold nextStep
  split
  · next h => exact hstarve h
  · dsimp only
    split
    · next h => exact hnone h
    · next x hx =>
      have hmove := hmove x hx
      have hhold := hhold (by rw [State.nextTaken, hx]; simp)
      split
      · exact hdwell x hx
      · cases hd : x.step.direction.interlock with
        | none => exact hmove fun d h => by rw [hd] at h; cases h
        | some d =>
          by_cases hp : (s.nextTaken a).permit a d = true
          · refine (congrArg P (if_pos hp)).mpr (hmove fun e h => ?_)
            obtain rfl := Option.some.inj (hd.symm.trans h)
            exact hp
          · exact (congrArg P (if_neg hp)).mpr hhold

/-- The context of a step that an axis has executed (R78). -/
def Context.stepDone (x : Context) : Context := { x with executed := min 65535 (x.executed + 1) }

/-- At a dwell end the program ends or its axis goes on, and outside DWELL nothing happens (R78, R103). -/
theorem endDwell_cases
    (hend : ∀ x, (s.axis a).state = .dwell → (s.axis a).current = some x → ∀ e,
      P (s.onContext x.context Context.stepDone, [.endProgram x.context e]))
    (hnext : ∀ x, (s.axis a).state = .dwell → (s.axis a).current = some x →
      P (nextStep a x.context (s.onContext x.context Context.stepDone)))
    (hnot : P (s, [])) : P (endDwell a s) := by
  unfold endDwell
  split
  · next x hs hx =>
    dsimp only
    split
    · exact hend x hs hx _
    · exact hend x hs hx _
    · split
      · exact hend x hs hx _
      · exact hnext x hs hx
  · exact hnot

/-- A reason that joins the hold set stops a movement, ends a dwell, or is only reported; an axis that takes none, or holds it,
stays whole (R79, R80). -/
theorem addHold_cases {P : State → Prop} {reason : HoldReason}
    (hmoving : (s.axis a).state = .moving → (s.axis a).holds.has reason = false →
      P ((s.withHolds a ((s.axis a).holds.put reason true)).enterStopping a))
    (hdwell : (s.axis a).state = .dwell → (s.axis a).holds.has reason = false →
      P ((s.withHolds a ((s.axis a).holds.put reason true)).enterHold a))
    (hother : (s.axis a).state ≠ .moving → (s.axis a).state ≠ .dwell → (s.axis a).takesReason = true →
      (s.axis a).holds.has reason = false → P ((s.withHolds a ((s.axis a).holds.put reason true)).reportAxis a))
    (hnot : ((s.axis a).takesReason = true → (s.axis a).holds.has reason = true) → P s) : P (addHold a reason s) := by
  have hput : s.withHolds a ((s.axis a).holds.put reason true) = s.onAxis a fun r => { r with holds := r.holds.put reason true } := rfl
  rw [hput] at hmoving hdwell hother
  unfold addHold
  dsimp only
  split
  · next h =>
    simp only [Bool.and_eq_true, Bool.not_eq_true'] at h
    split
    · next hs => exact hmoving hs h.2
    · next hs => exact hdwell hs h.2
    · next hm hd => exact hother hm hd h.1 h.2
  · next h => exact hnot fun ht => by simpa [ht] using h

/-- A reason that leaves the hold set lets a HOLD with no other prepare again and has the gates tested in PREPARING; else only
the set changes, and a reason that is not held changes nothing (R80, R82). -/
theorem removeHold_cases {reason : HoldReason}
    (hprepare : (s.axis a).holds.has reason = true → (s.axis a).holds.put reason false = noHolds → (s.axis a).state = .hold →
      P (enterPreparing a ((s.withHolds a noHolds).reportAxis a)))
    (htest : (s.axis a).holds.has reason = true → (s.axis a).holds.put reason false = noHolds → (s.axis a).state = .preparing →
      P ((s.withHolds a noHolds).reportAxis a, [.testGates a]))
    (hother : (s.axis a).holds.has reason = true →
      ((s.axis a).state = .hold → (s.axis a).holds.put reason false ≠ noHolds) →
      P ((s.withHolds a ((s.axis a).holds.put reason false)).reportAxis a, []))
    (hnot : (s.axis a).holds.has reason = false → P (s, [])) : P (removeHold a reason s) := by
  unfold removeHold
  dsimp only
  split
  · next h =>
    split
    · next hempty =>
      rw [hempty]
      split
      · next hs => exact hprepare h hempty hs
      · next hs => exact htest h hempty hs
      · next hs _ =>
        have := hother h fun e => absurd e hs
        rwa [hempty] at this
    · next hne => exact hother h fun _ => hne
  · next h => exact hnot (by simpa using h)

/-- The onset of OVERTRAVEL, as a signal (R84). -/
def State.onset (s : State) (a : Axis) (before : Option Int) : List Signal :=
  if overtravelOnset s.config.gear a before (s.measured a) then [.fault a .overtravel] else []

/-- The checks of a position change: in MOVING the arrival, or the speed class with the onset or the travel report; else the
onset alone (R76, R84). -/
theorem travelled_cases {before : Option Int}
    (harrive : ∀ x, (s.axis a).state = .moving → (s.axis a).current = some x → x.step.arrived a (s.measured a) = true →
      P ((enterDwell a s).1, (enterDwell a s).2 ++ s.onset a before))
    (hreport : ∀ x, (s.axis a).state = .moving → (s.axis a).current = some x → x.step.arrived a (s.measured a) = false →
      s.onset a before = [] → P ((s.driveOn a).travelReport a, []))
    (honset : ∀ x, (s.axis a).state = .moving → (s.axis a).current = some x → x.step.arrived a (s.measured a) = false →
      s.onset a before = [.fault a .overtravel] → P (s.driveOn a, [.fault a .overtravel]))
    (hother : ((s.axis a).state = .moving → (s.axis a).current = none) → P (s, s.onset a before)) :
    P (travelled a before s) := by
  by_cases hs : (s.axis a).state = .moving
  · cases hx : (s.axis a).current with
    | none =>
      simp only [travelled, hs, hx]
      exact hother fun _ => hx
    | some x =>
      simp only [travelled, hs, hx]
      cases harr : x.step.arrived a (s.measured a) with
      | true => exact harrive x hs hx harr
      | false =>
        by_cases ho : overtravelOnset s.config.gear a before (s.measured a) = true
        · have honset := honset x hs hx harr (if_pos ho)
          rw [if_pos ho]
          exact honset
        · have hreport := hreport x hs hx harr (if_neg ho)
          rw [if_neg ho]
          exact hreport
  · have hrest : travelled a before s = (s, s.onset a before) := by
      unfold travelled
      dsimp only
      split
      · next h _ => exact absurd h hs
      · rfl
    rw [hrest]
    exact hother fun h => absurd h hs

/-- What follows an entry to FAULT (R85, R86). -/
def State.afterFault (s : State) (a : Axis) (kind : FaultKind) : List Signal :=
  [.reportFault a kind (s.measured a), .reportAxis a] ++ s.leavesIdle a

/-- A fault is counted in FAULT, and elsewhere, where its kind is detected, the axis enters FAULT (R84 to R86). -/
theorem fault_cases {kind : FaultKind}
    (hcount : (s.axis a).state = .fault →
      P (s.onAxis a fun r => { r with fault := r.fault.map fun f => { f with count := min 255 (f.count + 1) } },
        [.reportFault a kind (s.measured a)]))
    (henter : (s.axis a).state ≠ .fault → kind.detectedIn (s.axis a).state = true →
      P ((faultHead a (s.axis a).takesReason (s.enterFault a kind)).1,
        (faultHead a (s.axis a).takesReason (s.enterFault a kind)).2 ++ s.afterFault a kind))
    (hnot : kind.detectedIn (s.axis a).state = false → P (s, [])) : P (fault a kind s) := by
  unfold fault
  dsimp only
  split
  · next h => exact hnot (by simpa using h)
  · next h =>
    split
    · next hs => exact hcount hs
    · next hs =>
      have := henter hs (by simpa using h)
      rwa [State.afterFault, ← List.append_assoc] at this

/-- The program that a faulting axis executes ends FAULTED; else the axis gives up its power, and an ACTIVE head waits (R85). -/
theorem faultHead_cases {executed : Bool}
    (hend : ∀ c, s.head a = some c → executed = true → P (s, [.endProgram c .faulted]))
    (hwait : ∀ c, s.head a = some c → executed = false → s.contexts[c].state = .active →
      P (s.onContext c fun x => { x with state := .queued }, faultReleases a))
    (hrest : (∀ c, s.head a = some c → executed = false ∧ s.contexts[c].state ≠ .active) → P (s, faultReleases a)) :
    P (faultHead a executed s) := by
  unfold faultHead
  split
  · next h => exact hrest fun c hc => by rw [h] at hc; cases hc
  · next c hc =>
    split
    · next he => exact hend c hc he
    · next he =>
      rw [Bool.not_eq_true] at he
      split
      · next ha => exact hwait c hc he ha
      · next ha =>
        refine hrest fun d hd => ?_
        obtain rfl := Option.some.inj (hc.symm.trans hd)
        exact ⟨he, ha⟩

end

/-! ## Program ends -/

/-- The record of an axis whose program has ended, before its state follows (R83). -/
def AxisRecord.released (r : AxisRecord) : AxisRecord :=
  { r with current := none, holds := noHolds, warnStart := none, warnReached := false, prepareDeadline := none,
           dwellDeadline := none }

/-- An axis in PREPARING, DWELL or HOLD goes to IDLE at the end of its program (R83). -/
theorem endAxis_waits {a : Axis} (h : (s.axis a).state = .preparing ∨ (s.axis a).state = .dwell ∨ (s.axis a).state = .hold) :
    endAxis a s = ((s.onAxis a AxisRecord.released).enterIdle a,
      windlassDemand a 0 ++ pumpSignals a ++ idleSignals a) := by
  rcases h with h | h | h <;> (simp only [endAxis, h]; rfl)

/-- A MOVING axis stops at the end of its program (R81, R83). -/
theorem endAxis_moves {a : Axis} (h : (s.axis a).state = .moving) :
    endAxis a s = ((s.onAxis a AxisRecord.released).enterStopping a, windlassDemand a 0) := by
  simp only [endAxis, h]
  rfl

/-- A STOPPING axis goes on to IDLE from the end of its program, and reports a hold set that the end empties (R83). -/
theorem endAxis_stops {a : Axis} (h : (s.axis a).state = .stopping) :
    endAxis a s = (if (s.axis a).holds = noHolds then s.onAxis a AxisRecord.released
      else (s.onAxis a AxisRecord.released).reportAxis a, windlassDemand a 0) := by
  simp only [endAxis, h]
  rfl

/-- In IDLE the end of a program changes nothing of the axis (R83). -/
theorem endAxis_idle {a : Axis} (h : (s.axis a).state = .idle) : endAxis a s = (s, []) := by simp only [endAxis, h]

/-- In FAULT the axis gives up demand and pump (R112). -/
theorem endAxis_fault {a : Axis} (h : (s.axis a).state = .fault) : endAxis a s = (s, faultReleases a) := by
  simp only [endAxis, h]

section
variable {c : Fin 16} {a : Axis}

/-- The end of a FREE context does nothing. -/
theorem endProgram_free (e : EndStatus) (h : s.contexts[c].axis = none) : endProgram c e s = (s, []) := by
  simp only [endProgram, h]

/-- The state with the PROGRAM_END report of a context posted (R112, R114). -/
def State.reportEnd (s : State) (c : Fin 16) (a : Axis) (e : EndStatus) : State := s.post (.programEnd c) (s.endContent c a e)

/-- The end of the program that an axis executes: the report, the axis, and then the context (R112). -/
theorem endProgram_executed (e : EndStatus) (h : s.contexts[c].axis = some a)
    (hc : s.head a = some c ∧ s.contexts[c].state ≠ .queued) :
    endProgram c e s = ((endAxis a (s.reportEnd c a e)).1, (endAxis a (s.reportEnd c a e)).2 ++ [.freeContext c e]) := by
  simp only [endProgram, h]
  rw [if_pos hc]
  rfl

/-- The end of any other program: the report, and then the context (R112). -/
theorem endProgram_waiting (e : EndStatus) (h : s.contexts[c].axis = some a)
    (hc : ¬ (s.head a = some c ∧ s.contexts[c].state ≠ .queued)) :
    endProgram c e s = (s.reportEnd c a e, [.freeContext c e]) := by
  simp only [endProgram, h]
  rw [if_neg hc]
  rfl

/-- The freeing of a FREE context does nothing. -/
theorem freeContext_free (e : EndStatus) (h : s.contexts[c].axis = none) : freeContext c e s = (s, []) := by
  simp only [freeContext, h]

/-- After a COMPLETE end the next context becomes the head, and its axis takes its steps up (R112). -/
theorem freeContext_complete (h : s.contexts[c].axis = some a) :
    freeContext c .complete s = ((s.release c a).activateHead a, [.takeUp a]) := by
  simp only [freeContext, h, if_true]

/-- After any other end the contexts behind it end ABANDONED (R113). -/
theorem freeContext_stops {e : EndStatus} (he : e ≠ .complete) (h : s.contexts[c].axis = some a) :
    freeContext c e s = (s.release c a, (behindIn c (s.queue a)).map fun b => .endProgram b .abandoned) := by
  simp only [freeContext, h, if_neg he]

end

/-! ## Which axis a signal concerns -/

/-- The axis whose record a signal may change: its own, or that of its context. -/
def Signal.concerns (s : State) : Signal → Option Axis
  | .takeUp a | .endEntry a | .testGates a | .endDwell a | .addHold a _ | .removeHold a _ | .travelled a _ | .fault a _ => some a
  | .endProgram c _ | .freeContext c _ => s.contexts[c].axis
  | _ => none

/-- The axes, the contexts and the queues. -/
def State.traffic (s : State) : PerAxis AxisRecord × Vector Context 16 × PerAxis (List (Fin 16)) :=
  (s.axes, s.contexts, s.queues)

theorem State.axes_of_traffic (h : t.traffic = s.traffic) : t.axes = s.axes := congrArg Prod.fst h
theorem State.contexts_of_traffic (h : t.traffic = s.traffic) : t.contexts = s.contexts := congrArg (·.2.1) h
theorem State.queues_of_traffic (h : t.traffic = s.traffic) : t.queues = s.queues := congrArg (·.2.2) h

/-- The signals that leave the axes, the contexts and the queues alone, whatever they send. -/
def Signal.aside : Signal → Bool
  | .takeUp _ | .endEntry _ | .testGates _ | .endDwell _ | .addHold _ _ | .removeHold _ _ | .travelled _ _ | .fault _ _
  | .endProgram _ _ | .freeContext _ _ | .press _ _ => false
  | _ => true

theorem reportZoneChange_traffic (z : Fin 24) (before : Zone) (s : State) :
    (reportZoneChange z before s).traffic = s.traffic := by
  unfold reportZoneChange
  split <;> rfl

theorem denyTone_traffic (s : State) (z : Fin 24) : (s.denyTone z).traffic = s.traffic := by
  unfold State.denyTone State.joinNotice
  (repeat' split) <;> rfl

theorem handle_traffic {x : Signal} (h : x.aside = true) (s : State) : (handle x s).1.traffic = s.traffic := by
  cases x with
  | post k d => simp only [handle, postDemand]; split <;> rfl
  | pass => simp [handle, State.traffic]
  | reportZone z before => exact reportZoneChange_traffic ..
  | cueFrame => simp only [handle, cueFrame]; (repeat' split) <;> rfl
  | reportFault a k p => simp only [handle, reportFault]; split <;> rfl
  | deliverPermit a d v => simp only [handle, deliverPermit]; (repeat' split) <;> rfl
  | requestPump h => simp only [handle, requestPump]; (repeat' split) <;> rfl
  | releasePump h => simp only [handle, releasePump]; (repeat' split) <;> rfl
  | handOver => simp only [handle, handOver]; (repeat' split) <;> rfl
  | release p n => simp only [handle, release]; split <;> rfl
  | actionResult p r c =>
    simp only [handle, actionResult]
    split
    · rfl
    · exact denyTone_traffic ..
  | passEnd | lightDemand _ | climateWork _ | cueApplied _ _ _ | reportAxis _ | evaluatePermits => rfl
  | takeUp _ | endEntry _ | testGates _ | endDwell _ | addHold _ _ | removeHold _ _ | travelled _ _ | fault _ _
  | endProgram _ _ | freeContext _ _ | press _ _ => cases h

theorem sendOn_traffic (item : Outgoing) (s : State) : (sendOn item s).1.traffic = s.traffic :=
  congrArg (fun x => (x.1.axes, x.1.contexts, x.1.queues)) (sendOn_standing item s)

theorem press_axes (p : Fin 12) (n : Nat) (s : State) : (press p n s).1.axes = s.axes := by
  have hadmit (c : Fin 16) (x : Step) (u : State) : (admitStep c x u).1.axes = u.axes := by
    unfold admitStep
    dsimp only
    (repeat' split) <;> rfl
  have hgoto (b : Binding) : (dispatchGoto p n b s).1.axes = s.axes := by
    unfold dispatchGoto startPanel
    dsimp only
    (repeat' split) <;> first | rfl | exact (hadmit ..)
  have hzone (b : Binding) : (dispatchZone p n b s).1.axes = s.axes := by
    unfold dispatchZone zoneAction recallScene
    dsimp only
    (repeat' split) <;> rfl
  unfold press
  split
  · unfold resumePress
    dsimp only
    split <;> rfl
  · dsimp only
    split
    · rfl
    · unfold dispatchAck
      dsimp only
      split <;> rfl
    · rfl
    · exact hgoto _
    all_goals exact hzone _

/-- A signal leaves the record of every axis that it does not concern. -/
theorem handle_axis_other (x : Signal) (s : State) {b : Axis} (h : x.concerns s ≠ some b) :
    (handle x s).1.axis b = s.axis b := by
  have hother {a : Axis} (ha : some a ≠ some b) : b ≠ a := fun e => ha (congrArg some e.symm)
  cases x with
  | takeUp a =>
    have hb := hother h
    simp only [handle, takeUp]
    (repeat' split) <;> simp [hb]
  | endEntry a =>
    have hb := hother h
    simp only [handle, endEntry]
    split <;> simp [hb]
  | testGates a =>
    have hb := hother h
    simp only [handle, testGates]
    (repeat' split) <;> simp [hb]
  | endDwell a =>
    have hb := hother h
    simp only [handle, endDwell]
    (repeat' split) <;> simp [hb]
  | addHold a r => exact addHold_axis_other r s (hother h)
  | removeHold a r => exact removeHold_axis_other r s (hother h)
  | travelled a p =>
    have hb := hother h
    simp only [handle, travelled]
    (repeat' split) <;> simp [hb]
  | fault a k =>
    have hb := hother h
    simp only [handle, fault]
    (repeat' split) <;> simp [hb, enterFault_axis_other]
  | endProgram c e =>
    cases ha : s.contexts[c].axis with
    | none => rw [handle, endProgram_free e ha]
    | some a =>
      have hb : b ≠ a := hother (by simpa only [Signal.concerns, ha] using h)
      by_cases hc : s.head a = some c ∧ s.contexts[c].state ≠ .queued
      · rw [handle, endProgram_executed e ha hc, endAxis_axis_other _ hb]
        rfl
      · rw [handle, endProgram_waiting e ha hc]
        rfl
  | freeContext c e =>
    cases ha : s.contexts[c].axis with
    | none => rw [handle, freeContext_free e ha]
    | some a =>
      by_cases he : e = .complete
      · subst he
        rw [handle, freeContext_complete ha, State.activateHead_axis]
        rfl
      · rw [handle, freeContext_stops he ha]
        rfl
  | press p n => exact State.axis_congr (press_axes p n s) b
  | _ => exact State.axis_congr (State.axes_of_traffic (handle_traffic rfl s)) b

end Sys2Proof.Machine
end

section
/-! Every signal keeps the axis records lawful (R69, R71, R73, R77, R79, R82, R85): each changes at most one record, and that one
by an entry to a state or within it. -/

namespace Sys2Proof.Machine

variable {s t : State} {a : Axis}

/-! ## What a lawful record has in each state -/

section
variable {r : AxisRecord}

theorem AxisRecord.lawful.fault_none (h : r.lawful) (hs : r.state ≠ .fault) : r.fault = none := by
  obtain ⟨hfault, -⟩ := h
  simpa [Option.isSome_iff_ne_none] using (not_congr hfault).1 hs

theorem AxisRecord.lawful.dwellDeadline_none (h : r.lawful) (hs : r.state ≠ .dwell) : r.dwellDeadline = none := by
  obtain ⟨-, -, -, -, hdwell, -⟩ := h
  exact hdwell hs

theorem AxisRecord.lawful.stopDeadline_none (h : r.lawful) (hs : r.state ≠ .stopping) : r.stopDeadline = none := by
  obtain ⟨-, -, -, -, -, hstop, -⟩ := h
  exact hstop hs

theorem AxisRecord.lawful.timers_none (h : r.lawful) (hs : r.state ≠ .preparing) :
    r.warnStart = none ∧ r.prepareDeadline = none := by
  obtain ⟨-, -, -, hprepare, -⟩ := h
  exact hprepare hs

theorem AxisRecord.lawful.off (h : r.lawful) (hs : r.state ≠ .moving) : r.drive = driveOff ∧ r.stall = none := by
  obtain ⟨-, -, hoff, -⟩ := h
  exact hoff hs

/-- In MOVING and DWELL nothing is held and a step is current. -/
theorem AxisRecord.lawful.working (h : r.lawful) (hs : r.state = .moving ∨ r.state = .dwell) :
    r.holds = noHolds ∧ ∃ c, r.current = some c := by
  obtain ⟨-, hmoving, -, -, -, -, hdwell, -⟩ := h
  rcases hs with hs | hs
  · obtain ⟨hholds, c, hc, -⟩ := hmoving hs
    exact ⟨hholds, c, hc⟩
  · exact (hdwell hs).imp_right Option.isSome_iff_exists.1

/-- A hold set that is not empty stands in PREPARING, HOLD, or STOPPING with a current step. -/
theorem AxisRecord.lawful.holding (h : r.lawful) (hh : r.holds ≠ noHolds) :
    r.state = .preparing ∨ r.state = .hold ∨ (r.state = .stopping ∧ r.current ≠ none) := by
  obtain ⟨-, hmoving, -, -, -, -, hdwell, -, hstopping, hrest⟩ := h
  cases hs : r.state with
  | idle => exact absurd (hrest (.inl hs)).1 hh
  | fault => exact absurd (hrest (.inr hs)).1 hh
  | moving => exact absurd (hmoving hs).1 hh
  | dwell => exact absurd (hdwell hs).1 hh
  | stopping => exact .inr (.inr ⟨rfl, fun hc => hh (hstopping hs hc)⟩)
  | preparing => exact .inl rfl
  | hold => exact .inr (.inl rfl)

/-- Another hold set there keeps the record lawful, but that HOLD needs a reason. -/
theorem AxisRecord.lawful.withHolds (h : r.lawful) {v : HoldSet}
    (hs : r.state = .preparing ∨ (r.state = .hold ∧ v ≠ noHolds) ∨ (r.state = .stopping ∧ r.current ≠ none)) :
    AxisRecord.lawful { r with holds := v } := by
  rcases hs with hs | ⟨hs, hv⟩ | ⟨hs, hc⟩
  · simpa [AxisRecord.lawful, hs] using h
  · simp only [AxisRecord.lawful, hs] at h ⊢
    simp_all
  · simp only [AxisRecord.lawful, hs] at h ⊢
    simp_all

end

/-! ## Entries keep the law -/

theorem entered_lawful (hf : (s.axis a).fault = none) (hd : (s.axis a).dwellDeadline = none) : ((s.entered a).axis a).lawful := by
  simp [AxisRecord.lawful, hf, hd]

theorem enterMoving_lawful {x : CurrentStep} (hx : (s.axis a).current = some x) (hf : (s.axis a).fault = none)
    (hd : (s.axis a).dwellDeadline = none) (hs : (s.axis a).stopDeadline = none) (hh : (s.axis a).holds = noHolds) :
    ((enterMoving a s).axis a).lawful := by
  simp [AxisRecord.lawful, enterMoving_axis a hx, hx, hf, hd, hs, hh]

theorem startDwell_lawful {x : CurrentStep} (hx : (s.axis a).current = some x) (hf : (s.axis a).fault = none)
    (hw : (s.axis a).warnStart = none ∧ (s.axis a).prepareDeadline = none) (hs : (s.axis a).stopDeadline = none)
    (hh : (s.axis a).holds = noHolds) : ((s.startDwell a).axis a).lawful := by
  simp [AxisRecord.lawful, hx, hf, hw, hs, hh]

theorem enterHold_lawful (hf : (s.axis a).fault = none)
    (hw : (s.axis a).warnStart = none ∧ (s.axis a).prepareDeadline = none) (hh : (s.axis a).holds ≠ noHolds) :
    ((s.enterHold a).axis a).lawful := by
  simp [AxisRecord.lawful, hf, hw, hh]

theorem enterStopping_lawful (hf : (s.axis a).fault = none)
    (hw : (s.axis a).warnStart = none ∧ (s.axis a).prepareDeadline = none) (hd : (s.axis a).dwellDeadline = none)
    (hh : (s.axis a).current = none → (s.axis a).holds = noHolds) : ((s.enterStopping a).axis a).lawful := by
  simpa [AxisRecord.lawful, hf, hw, hd] using hh

theorem enterIdle_lawful (hf : (s.axis a).fault = none)
    (hw : (s.axis a).warnStart = none ∧ (s.axis a).prepareDeadline = none) (hh : (s.axis a).holds = noHolds)
    (hc : (s.axis a).current = none) : ((s.enterIdle a).axis a).lawful := by
  simp [AxisRecord.lawful, hf, hw, hh, hc]

theorem enterFault_lawful (s : State) (a : Axis) (kind : FaultKind) : ((s.enterFault a kind).axis a).lawful := by
  simp [AxisRecord.lawful, State.enterFault_axis]

/-! ## Holds -/

theorem HoldSet.put_true_ne (h : HoldSet) (r : HoldReason) : h.put r true ≠ noHolds := by
  intro e
  have hr : (h.put r true).has r = noHolds.has r := by rw [e]
  cases r <;> cases hr

/-! ## Handlers -/

section
variable (h : (s.axis a).lawful)
include h

theorem takeUp_lawful : ((takeUp a s).1.axis a).lawful := by
  refine takeUp_cases (P := fun k => (k.1.axis a).lawful) (fun c _ hidle _ _ => ?_) h
  rw [enterPreparing_axis]
  exact entered_lawful (h.fault_none (by simp [hidle])) (h.dwellDeadline_none (by simp [hidle]))

theorem endEntry_lawful : ((endEntry a s).1.axis a).lawful := by
  unfold endEntry
  split
  · simpa [AxisRecord.lawful] using h
  · exact h

theorem enterDwell_lawful (hs : (s.axis a).state = .moving ∨ (s.axis a).state = .dwell) :
    ((enterDwell a s).1.axis a).lawful := by
  obtain ⟨hholds, c, hc⟩ := h.working hs
  have hne : (s.axis a).state ≠ .fault ∧ (s.axis a).state ≠ .preparing ∧ (s.axis a).state ≠ .stopping := by
    rcases hs with hs | hs <;> simp [hs]
  obtain ⟨hfault, hprep, hstop⟩ := hne
  rw [enterDwell_axis]
  exact startDwell_lawful hc (h.fault_none hfault) (h.timers_none hprep) (h.stopDeadline_none hstop) hholds

theorem testGates_lawful : ((testGates a s).1.axis a).lawful := by
  have hpassed : (s.onAxis a AxisRecord.gatesPassed).axis a = (s.axis a).gatesPassed := State.onAxis_axis_same ..
  refine testGates_cases (P := fun k => (k.1.axis a).lawful) (fun x hx hs hh _ _ => ?_) (fun x hx hs hh _ _ => ?_) fun _ => h
  · have hfault := h.fault_none (by simp [hs])
    have hstop := h.stopDeadline_none (by simp [hs])
    rw [enterDwell_axis]
    exact startDwell_lawful (x := x) (by rwa [hpassed]) (by rwa [hpassed]) (by rw [hpassed]; exact ⟨rfl, rfl⟩) (by rwa [hpassed])
      (by rwa [hpassed])
  · have hfault := h.fault_none (by simp [hs])
    have hstop := h.stopDeadline_none (by simp [hs])
    have hdwell := h.dwellDeadline_none (by simp [hs])
    exact enterMoving_lawful (x := x) (by rwa [hpassed]) (by rwa [hpassed]) (by rwa [hpassed]) (by rwa [hpassed]) (by rwa [hpassed])

theorem addHold_lawful (reason : HoldReason) : ((addHold a reason s).axis a).lawful := by
  have hput := (s.axis a).holds.put_true_ne reason
  refine addHold_cases (P := fun t => (t.axis a).lawful) (fun hs _ => ?_) (fun hs _ => ?_) (fun hm hd ht _ => ?_) fun _ => h
  · obtain ⟨-, c, hc⟩ := h.working (.inl hs)
    refine enterStopping_lawful ?_ ?_ ?_ ?_
    · simpa using h.fault_none (by simp [hs])
    · simpa using h.timers_none (by simp [hs])
    · simpa using h.dwellDeadline_none (by simp [hs])
    · simp [hc]
  · refine enterHold_lawful ?_ ?_ ?_
    · simpa using h.fault_none (by simp [hs])
    · simpa using h.timers_none (by simp [hs])
    · simpa using hput
  · rw [State.reportAxis_axis, State.withHolds_axis]
    refine h.withHolds ?_
    cases hs : (s.axis a).state with
    | moving => exact absurd hs hm
    | dwell => exact absurd hs hd
    | idle | fault => simp [AxisRecord.takesReason, hs] at ht
    | preparing => exact .inl rfl
    | hold => exact .inr (.inl ⟨rfl, hput⟩)
    | stopping => exact .inr (.inr ⟨rfl, by simpa [AxisRecord.takesReason, hs, Option.isSome_iff_ne_none] using ht⟩)

/-- A reason that is held leaves a set with which the record is lawful, but for the empty set in HOLD. -/
theorem withHolds_lawful {reason : HoldReason} (hr : (s.axis a).holds.has reason = true) {v : HoldSet}
    (hv : (s.axis a).state = .hold → v ≠ noHolds) : (((s.withHolds a v).reportAxis a).axis a).lawful := by
  have hheld : (s.axis a).holds ≠ noHolds := by
    intro e
    rw [e, noHolds_has] at hr
    cases hr
  rw [State.reportAxis_axis, State.withHolds_axis]
  exact h.withHolds ((h.holding hheld).imp_right (.imp_left fun hs => ⟨hs, hv hs⟩))

theorem removeHold_lawful (reason : HoldReason) : ((removeHold a reason s).1.axis a).lawful := by
  refine removeHold_cases (P := fun k => (k.1.axis a).lawful) (fun _ _ hs => ?_) (fun hr _ hs => ?_) (fun hr hv => ?_) fun _ => h
  · rw [enterPreparing_axis]
    refine entered_lawful ?_ ?_
    · simpa using h.fault_none (by simp [hs])
    · simpa using h.dwellDeadline_none (by simp [hs])
  · exact withHolds_lawful h hr fun e => absurd (e.symm.trans hs) (by simp)
  · exact withHolds_lawful h hr hv

theorem nextStep_lawful (c : Fin 16) (hs : (s.axis a).state = .dwell) : ((nextStep a c s).1.axis a).lawful := by
  obtain ⟨hholds, x, hx⟩ := h.working (.inr hs)
  have hfault := h.fault_none (by simp [hs])
  have htimers := h.timers_none (by simp [hs])
  have hstop := h.stopDeadline_none (by simp [hs])
  have hput := (s.axis a).holds.put_true_ne
  refine nextStep_cases (P := fun k => (k.1.axis a).lawful) (fun _ => ?_) (fun hnone => ?_) (fun y hy => ?_)
    (fun y hy _ => ?_) fun _ => ?_
  · exact enterHold_lawful (by simpa) (by simpa) (by simpa using hput _)
  · simp [hx] at hnone
  · rw [enterDwell_axis]
    exact startDwell_lawful hy (by simpa) (by simpa) (by simpa) (by simpa)
  · exact enterMoving_lawful hy (by simpa) (by simp) (by simpa) (by simpa)
  · exact enterHold_lawful (by simpa) (by simpa) (by simpa using hput _)

theorem endDwell_lawful : ((endDwell a s).1.axis a).lawful := by
  refine endDwell_cases (P := fun k => (k.1.axis a).lawful) (fun _ _ _ _ => h) (fun x hs _ => ?_) h
  exact nextStep_lawful (s := s.onContext x.context Context.stepDone) h _ hs

theorem driveOn_lawful (hs : (s.axis a).state = .moving) : ((s.driveOn a).axis a).lawful := by
  obtain ⟨hholds, c, hc⟩ := h.working (.inl hs)
  revert h
  simp only [AxisRecord.lawful, State.driveOn_axis, AxisRecord.driven, hc, hs]
  simp +contextual

theorem travelReport_lawful : ((s.travelReport a).axis a).lawful := by
  unfold State.travelReport
  split
  · split
    · simpa [AxisRecord.lawful] using h
    · exact h
  · exact h

theorem travelled_lawful (before : Option Int) : ((travelled a before s).1.axis a).lawful :=
  travelled_cases (P := fun k => (k.1.axis a).lawful) (fun _ hs _ _ => enterDwell_lawful h (.inl hs))
    (fun _ hs _ _ _ => travelReport_lawful (driveOn_lawful h hs)) (fun _ hs _ _ _ => driveOn_lawful h hs) fun _ => h

theorem fault_lawful (kind : FaultKind) : ((fault a kind s).1.axis a).lawful := by
  refine fault_cases (P := fun k => (k.1.axis a).lawful) (fun _ => ?_) (fun _ _ => ?_) fun _ => h
  · simpa [AxisRecord.lawful] using h
  · simpa using enterFault_lawful s a kind

theorem endAxis_lawful : ((endAxis a s).1.axis a).lawful := by
  have hidle (hs : (s.axis a).state = .preparing ∨ (s.axis a).state = .dwell ∨ (s.axis a).state = .hold) :
      ((endAxis a s).1.axis a).lawful := by
    rw [endAxis_waits hs]
    refine enterIdle_lawful ?_ ?_ ?_ ?_
    · simpa [AxisRecord.released] using h.fault_none (by rcases hs with hs | hs | hs <;> simp [hs])
    all_goals simp [AxisRecord.released]
  cases hs : (s.axis a).state with
  | preparing => exact hidle (.inl hs)
  | dwell => exact hidle (.inr (.inl hs))
  | hold => exact hidle (.inr (.inr hs))
  | moving =>
    rw [endAxis_moves hs]
    refine enterStopping_lawful ?_ ?_ ?_ ?_
    · simpa [AxisRecord.released] using h.fault_none (by simp [hs])
    all_goals simp [AxisRecord.released]
  | stopping =>
    obtain ⟨hdrive, hstall⟩ := h.off (by simp [hs])
    have hstopping : ((s.onAxis a AxisRecord.released).axis a).lawful := by
      simp [AxisRecord.lawful, AxisRecord.released, hs, h.fault_none (by simp [hs]), hdrive, hstall]
    rw [endAxis_stops hs]
    dsimp only
    split
    · exact hstopping
    · exact hstopping
  | idle => rwa [endAxis_idle hs]
  | fault => rwa [endAxis_fault hs]

theorem endStop_lawful : ((endStop a s).1.axis a).lawful := by
  unfold endStop
  dsimp only
  split
  · exact h
  · next hs =>
    rw [not_not] at hs
    have hfault := h.fault_none (by simp [hs])
    have htimers := h.timers_none (by simp [hs])
    have hdwell := h.dwellDeadline_none (by simp [hs])
    split
    · next hc =>
      have hnone := Option.isNone_iff_eq_none.1 hc
      obtain ⟨-, -, -, -, -, -, -, -, hholds, -⟩ := h
      exact enterIdle_lawful hfault htimers (hholds hs hnone) hnone
    · split
      · rw [enterPreparing_axis]
        exact entered_lawful hfault hdwell
      · next hholds => exact enterHold_lawful hfault htimers hholds

end

/-- Every signal keeps the axis records lawful. -/
theorem handle_axesLawful (x : Signal) (h : s.axesLawful) : (handle x s).1.axesLawful := by
  intro b
  by_cases hx : x.concerns s = some b
  · have hb := h b
    cases x with
    | takeUp a => obtain rfl := Option.some.inj hx; exact takeUp_lawful hb
    | endEntry a => obtain rfl := Option.some.inj hx; exact endEntry_lawful hb
    | testGates a => obtain rfl := Option.some.inj hx; exact testGates_lawful hb
    | endDwell a => obtain rfl := Option.some.inj hx; exact endDwell_lawful hb
    | addHold a r => obtain rfl := Option.some.inj hx; exact addHold_lawful hb r
    | removeHold a r => obtain rfl := Option.some.inj hx; exact removeHold_lawful hb r
    | travelled a p => obtain rfl := Option.some.inj hx; exact travelled_lawful hb p
    | fault a k => obtain rfl := Option.some.inj hx; exact fault_lawful hb k
    | endProgram c e =>
      by_cases hc : s.head b = some c ∧ s.contexts[c].state ≠ .queued
      · rw [handle, endProgram_executed e hx hc]
        exact endAxis_lawful (s := s.reportEnd c b e) hb
      · rw [handle, endProgram_waiting e hx hc]
        exact hb
    | freeContext c e =>
      by_cases he : e = .complete
      · subst he
        rw [handle, freeContext_complete hx, State.activateHead_axis]
        exact hb
      · rw [handle, freeContext_stops he hx]
        exact hb
    | _ => cases hx
  · rw [handle_axis_other x s hx]
    exact h b

end Sys2Proof.Machine
end

section
/-! Laws of the signals that wait together with the state (`SignalLaw`), and the law of the permits: they are those that the tests
give or are still to be worked out, and a movement whose permit has gone is still to be told so (R76, R80, R121, R123). -/

namespace Sys2Proof.Machine

variable {s t : State}

/-! ## Laws of the waiting signals and the state -/

/-- A law of the waiting signals and the state that every turn keeps. -/
structure SignalLaw (J : List Signal → State → Prop) : Prop where
  handled : ∀ x rest s, J (x :: rest) s → J ((handle x s).2 ++ rest) (handle x s).1
  sent : ∀ item rest s, J (.passEnd :: rest) s → J ((sendOn item s).2 ++ .passEnd :: rest) (sendOn item s).1

variable {J : List Signal → State → Prop}

/-- The law with signals that wait behind. -/
theorem SignalLaw.behind (L : SignalLaw J) (k : List Signal) : SignalLaw fun l s => J (l ++ k) s where
  handled x rest s h := by
    rw [List.append_assoc]
    exact L.handled x _ s h
  sent item rest s h := by
    rw [List.append_assoc]
    exact L.sent item _ s h

/-- A turn keeps the law. -/
theorem SignalLaw.turn (L : SignalLaw J) {x : Signal} {rest : List Signal} (h : J (x :: rest) s) (sent : List Outgoing) :
    J (turn sent x rest s).2.1 (turn sent x rest s).2.2 := by
  by_cases hx : x = .passEnd
  · subst hx
    cases sent with
    | nil => exact L.handled _ _ _ h
    | cons item later => exact L.sent item rest s h
  · rw [turn_handle sent x rest s hx]
    exact L.handled _ _ _ h

/-- At the end of a run the law holds with no signal waiting, or the run has outrun its bound. -/
theorem SignalLaw.run (L : SignalLaw J) (n : Nat) (sent : List Outgoing) {l : List Signal} (h : J l s) :
    J [] (run n sent l s) ∨ ∃ k u, J k u ∧ run n sent l s = { u with unsettled := true } := by
  induction n generalizing sent l s with
  | zero =>
    cases l with
    | nil => exact .inl h
    | cons x rest => exact .inr ⟨_, s, h, rfl⟩
  | succ n ih =>
    cases l with
    | nil => exact .inl h
    | cons x rest =>
      rw [run_succ]
      exact ih _ (L.turn h sent)

/-- A law of the state alone. -/
theorem SignalLaw.always {P : State → Prop} (hx : ∀ x s, P s → P (handle x s).1) (ho : ∀ item s, P s → P (sendOn item s).1) :
    SignalLaw fun _ s => P s where
  handled x _ s h := hx x s h
  sent item _ s h := ho item s h

/-- A settled event leaves the law with no signal waiting. -/
theorem SignalLaw.settled (L : SignalLaw J) {h : Handled} (hj : J h.2 h.1) (hu : (settle h).unsettled = false) :
    J [] (settle h) := by
  rcases L.run signalBound [] hj with hs | ⟨k, u, -, he⟩
  · exact hs
  · rw [settle, he] at hu
    cases hu

/-! ## The tests (R120) -/

/-- The tests read what no signal changes, and whether the windlass is in IDLE (R120). -/
theorem State.workedPermits_of_idle (h : t.still = s.still)
    (hw : (t.axis .windlass).state = .idle ↔ (s.axis .windlass).state = .idle) : t.workedPermits = s.workedPermits := by
  obtain ⟨-, -, -, hconfig, -, -, -, -, hsensors, -, hinputs, hvessel, -⟩ := State.fixed_fields (State.fixed_of_still h)
  have htest (n : Fin 16) : t.test n = s.test n := by
    have hidle : decide (t.axes.windlass.state = .idle) = decide (s.axes.windlass.state = .idle) := decide_eq_decide.2 hw
    unfold State.test
    rw [hconfig, hsensors, hinputs, hvessel, hidle]
  have hworked (a : Axis) (d : Direction) : t.workedPermit a d = s.workedPermit a d := by
    simp only [State.workedPermit, State.permitOf, hconfig, htest]
  simp only [State.workedPermits, hworked]

/-! ## Leaving and reaching IDLE -/

/-- What a handler sends tells of an axis that it takes out of IDLE or into it (R123). -/
def tellsIdle (a : Axis) (s : State) (h : Handled) : Prop :=
  idleSignals a ⊆ h.2 ∨ ((h.1.axis a).state = .idle ↔ (s.axis a).state = .idle)

section
variable {a : Axis}

theorem tellsIdle.other {h : Handled} {x : AxisState} (hs : (s.axis a).state = x) (ht : (h.1.axis a).state ≠ .idle) (hx : x ≠ .idle) :
    tellsIdle a s h := .inr ⟨fun e => absurd e ht, fun e => absurd (hs.symm.trans e) hx⟩

theorem enterPreparing_tellsIdle (s u : State) (hu : (u.axis a).state = (s.axis a).state) : tellsIdle a s (enterPreparing a u) := by
  by_cases hs : (s.axis a).state = .idle
  · have hleaves : u.leavesIdle a = idleSignals a := if_pos (hu.trans hs)
    cases h : u.entryFault a with
    | none =>
      rw [enterPreparing_enters h, hleaves]
      exact .inl fun y hy => by simp [hy]
    | some kind =>
      rw [enterPreparing_faults h, hleaves]
      exact .inl fun y hy => by simp [hy]
  · exact .other rfl (by simp) hs

theorem enterDwell_tellsIdle {x : AxisState} (hs : (s.axis a).state = x) (u : State) (hx : x ≠ .idle) :
    tellsIdle a s (enterDwell a u) := .other hs (by simp) hx

theorem enterMoving_state (u : State) : ((enterMoving a u).axis a).state = .moving := by
  cases h : (u.axis a).current with
  | none => simp [enterMoving, AxisRecord.driven, h]
  | some x => rw [enterMoving_axis a h]

theorem nextStep_tellsIdle (c : Fin 16) {u : State} (hs : (s.axis a).state = .dwell) (hu : (u.axis a).state = .dwell) :
    tellsIdle a s (nextStep a c u) :=
  nextStep_cases (P := tellsIdle a s) (fun _ => .other hs (by simp) (by simp)) (fun _ => .inr (by simp [hu, hs]))
    (fun _ _ => enterDwell_tellsIdle hs _ (by simp)) (fun _ _ _ => .other hs (by simp [enterMoving_state]) (by simp))
    fun _ => .other hs (by simp) (by simp)

theorem endAxis_tellsIdle (u : State) (more : List Signal) (hu : u.axis a = s.axis a) :
    tellsIdle a s ((endAxis a u).1, (endAxis a u).2 ++ more) := by
  have hwaits (hs : (u.axis a).state = .preparing ∨ (u.axis a).state = .dwell ∨ (u.axis a).state = .hold) :
      tellsIdle a s ((endAxis a u).1, (endAxis a u).2 ++ more) := by
    rw [endAxis_waits hs]
    exact .inl fun y hy => by simp [hy]
  cases hs : (u.axis a).state with
  | preparing => exact hwaits (.inl hs)
  | dwell => exact hwaits (.inr (.inl hs))
  | hold => exact hwaits (.inr (.inr hs))
  | moving =>
    rw [endAxis_moves hs]
    exact .other (hu ▸ hs) (by simp) (by simp)
  | stopping =>
    rw [endAxis_stops hs]
    refine .other (hu ▸ hs) ?_ (by simp)
    dsimp only
    split <;> simp [AxisRecord.released, hs]
  | idle => rw [endAxis_idle hs]; exact .inr (by rw [hu])
  | fault => rw [endAxis_fault hs]; exact .inr (by rw [hu])

theorem travelReport_state (u : State) : ((u.travelReport a).axis a).state = (u.axis a).state := by
  unfold State.travelReport
  (repeat' split) <;> simp

theorem driveOn_state (u : State) : ((u.driveOn a).axis a).state = (u.axis a).state := by
  rw [State.driveOn_axis]
  unfold AxisRecord.driven
  split <;> rfl

/-- Each signal tells of the axis that it takes out of IDLE or into it. -/
theorem handle_tellsIdle (x : Signal) (s : State) (a : Axis) : tellsIdle a s (handle x s) := by
  have same {h : Handled} (e : (h.1.axis a).state = (s.axis a).state) : tellsIdle a s h := .inr (by rw [e])
  by_cases hx : x.concerns s = some a
  · cases x with
    | takeUp b =>
      obtain rfl := Option.some.inj hx
      exact takeUp_cases (fun _ _ _ _ _ => enterPreparing_tellsIdle s s rfl) (same rfl)
    | endEntry b =>
      obtain rfl := Option.some.inj hx
      refine same ?_
      simp only [handle, endEntry]
      split <;> simp
    | testGates b =>
      obtain rfl := Option.some.inj hx
      exact testGates_cases (fun _ _ hs _ _ _ => enterDwell_tellsIdle hs _ (by simp))
        (fun _ _ hs _ _ _ => .other hs (by simp [enterMoving_state]) (by simp)) fun _ => same rfl
    | endDwell b =>
      obtain rfl := Option.some.inj hx
      exact endDwell_cases (fun _ _ _ _ => same rfl) (fun _ hs _ => nextStep_tellsIdle _ hs hs) (same rfl)
    | addHold b r =>
      obtain rfl := Option.some.inj hx
      exact addHold_cases (P := fun t => tellsIdle b s (t, [])) (fun hs _ => .other hs (by simp) (by simp))
        (fun hs _ => .other hs (by simp) (by simp)) (fun _ _ _ _ => same (by simp)) fun _ => same rfl
    | removeHold b r =>
      obtain rfl := Option.some.inj hx
      exact removeHold_cases (fun _ _ _ => enterPreparing_tellsIdle _ _ (by simp)) (fun _ _ _ => same (by simp))
        (fun _ _ => same (by simp)) fun _ => same rfl
    | travelled b p =>
      obtain rfl := Option.some.inj hx
      exact travelled_cases (fun _ hs _ _ => .other hs (by simp) (by simp))
        (fun _ _ _ _ _ => same ((travelReport_state _).trans (driveOn_state _))) (fun _ _ _ _ _ => same (driveOn_state _))
        fun _ => same rfl
    | fault b k =>
      obtain rfl := Option.some.inj hx
      refine fault_cases (P := tellsIdle b s) (fun _ => same (by simp)) (fun _ _ => ?_) fun _ => same rfl
      by_cases hs : (s.axis b).state = .idle
      · exact .inl fun y hy => by simp [State.afterFault, State.leavesIdle, hs, hy]
      · exact .other rfl (by simp [State.enterFault_axis]) hs
    | endProgram c e =>
      by_cases hc : s.head a = some c ∧ s.contexts[c].state ≠ .queued
      · rw [handle, endProgram_executed e hx hc]
        exact endAxis_tellsIdle (s.reportEnd c a e) _ rfl
      · rw [handle, endProgram_waiting e hx hc]
        exact same rfl
    | freeContext c e =>
      by_cases he : e = .complete
      · subst he
        rw [handle, freeContext_complete hx]
        exact same (congrArg AxisRecord.state (State.activateHead_axis _ _ _))
      · rw [handle, freeContext_stops he hx]
        exact same rfl
    | _ => cases hx
  · exact same (by rw [handle_axis_other x s hx])

end

/-! ## Only the evaluation changes the permits, and only the pump's own signals the pump -/

/-- What the Interlock Evaluator and the Pump Arbiter hold, but for the run output, which follows the demand (R129). -/
def State.organs (s : State) : PerAxis (PerDirection Bool) × Option Hydraulic × Option Hydraulic × Nat :=
  (s.permits, s.pump.owner, s.pump.waiting, s.pump.grant)

theorem State.permits_of_organs (h : t.organs = s.organs) : t.permits = s.permits := congrArg Prod.fst h
theorem State.owner_of_organs (h : t.organs = s.organs) : t.pump.owner = s.pump.owner := congrArg (·.2.1) h
theorem State.waiting_of_organs (h : t.organs = s.organs) : t.pump.waiting = s.pump.waiting := congrArg (·.2.2.1) h

section
variable (s : State) (a : Axis)

theorem State.enterHold_organs : (s.enterHold a).organs = s.organs := rfl

theorem State.enterStopping_organs : (s.enterStopping a).organs = s.organs := rfl

theorem State.takeStep_organs : (s.takeStep a).organs = s.organs := by
  unfold State.takeStep
  split
  · rfl
  · split
    · rfl
    · dsimp only
      split <;> rfl

theorem State.entered_organs : (s.entered a).organs = s.organs := by
  have hstep : (s.withStep a).organs = s.organs := by
    unfold State.withStep
    split
    · exact s.takeStep_organs a
    · rfl
  exact hstep

theorem State.driveOn_organs : (s.driveOn a).organs = s.organs := by
  unfold State.driveOn
  split <;> rfl

theorem State.travelReport_organs : (s.travelReport a).organs = s.organs := by
  unfold State.travelReport
  (repeat' split) <;> rfl

theorem State.activateHead_organs : (s.activateHead a).organs = s.organs := by
  unfold State.activateHead
  (repeat' split) <;> rfl

theorem enterPreparing_organs : (enterPreparing a s).1.organs = s.organs := by
  rcases enterPreparing_state a s with h | h <;> (rw [h]; exact s.entered_organs a)

theorem enterDwell_organs : (enterDwell a s).1.organs = s.organs := by
  unfold enterDwell
  dsimp only
  (repeat' split) <;> rfl

theorem enterMoving_organs : (enterMoving a s).organs = s.organs :=
  (State.driveOn_organs (s.moveTo a .moving) a).trans rfl

theorem nextStep_organs (c : Fin 16) : (nextStep a c s).1.organs = s.organs := by
  have htaken : (s.nextTaken a).organs = s.organs := s.takeStep_organs a
  have hstarving : (s.starving a c).organs = s.organs := rfl
  exact nextStep_cases (P := fun k => k.1.organs = s.organs) (fun _ => (State.enterHold_organs ..).trans hstarving) (fun _ => htaken)
    (fun _ _ => (enterDwell_organs ..).trans htaken) (fun _ _ _ => (enterMoving_organs ..).trans htaken)
    fun _ => (State.enterHold_organs ..).trans htaken

theorem faultHead_organs (executed : Bool) : (faultHead a executed s).1.organs = s.organs :=
  faultHead_cases (P := fun k => k.1.organs = s.organs) (fun _ _ _ => rfl) (fun _ _ _ _ => rfl) fun _ => rfl

theorem State.enterIdle_organs : (s.enterIdle a).organs = s.organs := rfl

theorem endAxis_organs : (endAxis a s).1.organs = s.organs := by
  unfold endAxis
  dsimp only
  split
  iterate 3 exact (State.enterIdle_organs ..).trans rfl
  · exact (State.enterStopping_organs ..).trans rfl
  · split <;> rfl
  · rfl
  · rfl

@[simp] theorem State.takeStep_permits : (s.takeStep a).permits = s.permits := State.permits_of_organs (s.takeStep_organs a)

@[simp] theorem enterPreparing_permits : (enterPreparing a s).1.permits = s.permits := State.permits_of_organs (enterPreparing_organs ..)

@[simp] theorem State.activateHead_permits : (s.activateHead a).permits = s.permits := State.permits_of_organs (s.activateHead_organs a)

end

theorem press_organs (p : Fin 12) (n : Nat) (s : State) : (press p n s).1.organs = s.organs := by
  have hadmit (c : Fin 16) (x : Step) (u : State) : (admitStep c x u).1.organs = u.organs := by
    unfold admitStep
    dsimp only
    (repeat' split) <;> rfl
  have hgoto (b : Binding) : (dispatchGoto p n b s).1.organs = s.organs := by
    unfold dispatchGoto startPanel
    dsimp only
    (repeat' split) <;> first | rfl | exact hadmit ..
  have hzone (b : Binding) : (dispatchZone p n b s).1.organs = s.organs := by
    unfold dispatchZone zoneAction recallScene
    dsimp only
    (repeat' split) <;> rfl
  unfold press
  split
  · unfold resumePress
    dsimp only
    split <;> rfl
  · dsimp only
    split
    · rfl
    · unfold dispatchAck
      dsimp only
      split <;> rfl
    · rfl
    · exact hgoto _
    all_goals exact hzone _

/-- The signals of the Interlock Evaluator and of the Pump Arbiter. -/
def Signal.arbitrates : Signal → Bool
  | .evaluatePermits | .requestPump _ | .releasePump _ | .handOver => true
  | _ => false

theorem handle_organs {x : Signal} (hx : x.arbitrates = false) (s : State) : (handle x s).1.organs = s.organs := by
  cases x with
  | evaluatePermits | requestPump _ | releasePump _ | handOver => cases hx
  | takeUp a => exact takeUp_cases (P := fun k => k.1.organs = s.organs) (fun _ _ _ _ _ => enterPreparing_organs s a) rfl
  | endEntry a => simp only [handle, endEntry]; split <;> rfl
  | testGates a =>
    exact testGates_cases (P := fun k => k.1.organs = s.organs) (fun _ _ _ _ _ _ => enterDwell_organs ..)
      (fun _ _ _ _ _ _ => enterMoving_organs ..) fun _ => rfl
  | endDwell a =>
    exact endDwell_cases (P := fun k => k.1.organs = s.organs) (fun _ _ _ _ => rfl) (fun _ _ _ => nextStep_organs ..) rfl
  | addHold a r =>
    exact addHold_cases (P := fun t => t.organs = s.organs) (fun _ _ => State.enterStopping_organs ..)
      (fun _ _ => State.enterHold_organs ..) (fun _ _ _ _ => rfl) fun _ => rfl
  | removeHold a r =>
    exact removeHold_cases (P := fun k => k.1.organs = s.organs) (fun _ _ _ => enterPreparing_organs ..) (fun _ _ _ => rfl)
      (fun _ _ => rfl) fun _ => rfl
  | travelled a p =>
    exact travelled_cases (P := fun k => k.1.organs = s.organs) (fun _ _ _ _ => enterDwell_organs ..)
      (fun _ _ _ _ _ => (State.travelReport_organs ..).trans (State.driveOn_organs ..))
      (fun _ _ _ _ _ => State.driveOn_organs ..) fun _ => rfl
  | fault a k =>
    exact fault_cases (P := fun k => k.1.organs = s.organs) (fun _ => rfl)
      (fun _ _ => faultHead_organs ..) fun _ => rfl
  | endProgram c e =>
    cases ha : s.contexts[c].axis with
    | none => rw [handle, endProgram_free e ha]
    | some a =>
      by_cases hc : s.head a = some c ∧ s.contexts[c].state ≠ .queued
      · rw [handle, endProgram_executed e ha hc]
        exact endAxis_organs ..
      · rw [handle, endProgram_waiting e ha hc]
        rfl
  | freeContext c e =>
    cases ha : s.contexts[c].axis with
    | none => rw [handle, freeContext_free e ha]
    | some a =>
      by_cases he : e = .complete
      · subst he
        rw [handle, freeContext_complete ha]
        exact State.activateHead_organs ..
      · rw [handle, freeContext_stops he ha]
        rfl
  | press p n => exact press_organs p n s
  | post k d => simp only [handle, postDemand]; split <;> rfl
  | pass => simp [handle, State.organs]
  | reportZone z before => simp only [handle, reportZoneChange]; split <;> rfl
  | cueFrame => simp only [handle, cueFrame]; (repeat' split) <;> rfl
  | reportFault a k p => simp only [handle, reportFault]; split <;> rfl
  | deliverPermit a d v => simp only [handle, deliverPermit]; (repeat' split) <;> rfl
  | release p n => simp only [handle, release]; split <;> rfl
  | actionResult p r c =>
    simp only [handle, actionResult, State.denyTone, State.joinNotice]
    (repeat' split) <;> rfl
  | passEnd | lightDemand _ | climateWork _ | cueApplied _ _ _ | reportAxis _ => rfl

/-- Only the evaluation changes the permits. -/
theorem handle_permits {x : Signal} (hx : x ≠ .evaluatePermits) (s : State) : (handle x s).1.permits = s.permits := by
  cases x with
  | evaluatePermits => exact absurd rfl hx
  | requestPump h => simp only [handle, requestPump]; (repeat' split) <;> rfl
  | releasePump h => simp only [handle, releasePump]; (repeat' split) <;> rfl
  | handOver => simp only [handle, handOver]; (repeat' split) <;> rfl
  | _ => exact State.permits_of_organs (handle_organs rfl s)

theorem sendOn_permits (item : Outgoing) (s : State) : (sendOn item s).1.permits = s.permits := by
  cases item with
  | report content copy =>
    simp only [sendOn, reportBudget]
    split <;> rfl
  | grant k g =>
    rw [sendOn]
    rcases slot_cases k with ⟨z, rfl⟩ | ⟨z, rfl⟩ | rfl | rfl | h
    · rw [deliverTo_light, deliverLight, reportZoneChange]
      split <;> rfl
    · rw [deliverTo_climate, deliverClimate, reportZoneChange]
      split <;> rfl
    · rw [deliverTo_pump, deliverPump_state]
      rfl
    · rw [deliverTo_windlass, deliverWindlass_state]
    · rw [deliverTo_aux k g s h]

/-! ## The permits are fresh, or still to be worked out -/

/-- The permits are those that the tests give, or an evaluation waits. -/
def permitsOwed (l : List Signal) (s : State) : Prop := s.permits = s.workedPermits ∨ .evaluatePermits ∈ l

theorem permitsOwed_law : SignalLaw permitsOwed where
  handled x rest s h := by
    by_cases hx : x = .evaluatePermits
    · subst hx
      exact .inl (State.workedPermits_of_idle (s := s) rfl Iff.rfl).symm
    have hpermits := handle_permits hx s
    rcases h with h | h
    · rcases handle_tellsIdle x s .windlass with htold | hidle
      · exact .inr (List.mem_append_left _ (htold (by simp [idleSignals])))
      · exact .inl (hpermits.trans (h.trans (State.workedPermits_of_idle (handle_still x s) hidle).symm))
    · rcases List.mem_cons.1 h with h | h
      · exact absurd h.symm hx
      · exact .inr (List.mem_append_right _ h)
  sent item rest s h := by
    have haxes := State.axes_of_traffic (sendOn_traffic item s)
    have hworked : (sendOn item s).1.workedPermits = s.workedPermits :=
      State.workedPermits_of_idle (sendOn_still item s) (by rw [State.axis_congr haxes])
    rcases h with h | h
    · exact .inl ((sendOn_permits item s).trans (h.trans hworked.symm))
    · exact .inr (List.mem_append_right _ h)

/-! ## A movement without its permit is still to be told -/

/-- A movement has its permit, or the loss of the permit or the reason INTERLOCK waits for its axis. -/
def movesWarned (l : List Signal) (s : State) : Prop :=
  ∀ (a : Axis) (d : Direction), (s.axis a).state = .moving → (s.axis a).stepDirection = some d →
    s.permit a d = true ∨ .deliverPermit a d false ∈ l ∨ .addHold a .interlock ∈ l

theorem State.permit_congr (h : t.permits = s.permits) (a : Axis) (d : Direction) : t.permit a d = s.permit a d := by
  rw [State.permit, State.permit, h]

/-- The direction of a current step, where its permit counts. -/
theorem AxisRecord.stepDirection_some {r : AxisRecord} {x : CurrentStep} {d : Direction} (hx : r.current = some x) :
    r.stepDirection = some d ↔ x.step.direction.interlock = some d := by
  rw [AxisRecord.stepDirection, hx]
  rfl

/-- Gates that are met have the permit of the step (R131). -/
theorem State.permit_of_gatesMet {a : Axis} {x : Step} (h : s.gatesMet a x = true) {d : Direction}
    (hd : x.direction.interlock = some d) : s.permit a d = true := by
  simp only [State.gatesMet, hd, Bool.and_eq_true] at h
  exact h.1.2

/-- An axis that a handler leaves in MOVING was there with the same step, or its step has its permit. -/
def staysOrPermitted (a : Axis) (s t : State) : Prop :=
  (t.axis a).state = .moving →
    ((s.axis a).state = .moving ∧ (t.axis a).current = (s.axis a).current)
      ∨ ∀ d, (t.axis a).stepDirection = some d → s.permit a d = true

section
variable {a : Axis}

theorem staysOrPermitted.rests (h : (t.axis a).state ≠ .moving) : staysOrPermitted a s t := fun e => absurd e h

theorem staysOrPermitted.same (h : (t.axis a).state = (s.axis a).state) (hc : (t.axis a).current = (s.axis a).current) :
    staysOrPermitted a s t := fun e => .inl ⟨h.symm.trans e, hc⟩

theorem staysOrPermitted.enters {u : State} {x : CurrentStep} (hx : (u.axis a).current = some x)
    (hp : ∀ d, x.step.direction.interlock = some d → s.permit a d = true) : staysOrPermitted a s (enterMoving a u) := by
  have hcurrent : ((enterMoving a u).axis a).current = some x := by rw [enterMoving_axis a hx]; exact hx
  exact fun _ => .inr fun d hd => hp d ((AxisRecord.stepDirection_some hcurrent).1 hd)

theorem nextStep_staysOrPermitted (c : Fin 16) {u : State} (hu : (u.axis a).state = .dwell) (hp : u.permits = s.permits) :
    staysOrPermitted a s (nextStep a c u).1 := by
  have htaken : (u.nextTaken a).permits = s.permits := by simpa [State.nextTaken]
  exact nextStep_cases (P := fun k => staysOrPermitted a s k.1) (fun _ => .rests (by simp)) (fun _ => .rests (by simp [hu]))
    (fun _ _ => .rests (by simp))
    (fun x hx hperm => .enters hx fun d hd => (State.permit_congr htaken a d).symm.trans (hperm d hd)) fun _ => .rests (by simp)

theorem driveOn_current (s : State) : ((s.driveOn a).axis a).current = (s.axis a).current := by
  rw [State.driveOn_axis]
  unfold AxisRecord.driven
  split <;> rfl

theorem travelReport_current (s : State) : ((s.travelReport a).axis a).current = (s.axis a).current := by
  unfold State.travelReport
  (repeat' split) <;> simp

theorem endAxis_rests : staysOrPermitted a s (endAxis a s).1 := by
  have hwaits (hs : (s.axis a).state = .preparing ∨ (s.axis a).state = .dwell ∨ (s.axis a).state = .hold) :
      staysOrPermitted a s (endAxis a s).1 := .rests (by simp [endAxis_waits hs])
  cases hs : (s.axis a).state with
  | preparing => exact hwaits (.inl hs)
  | dwell => exact hwaits (.inr (.inl hs))
  | hold => exact hwaits (.inr (.inr hs))
  | moving => exact .rests (by simp [endAxis_moves hs])
  | stopping =>
    rw [endAxis_stops hs]
    refine .rests ?_
    dsimp only
    split <;> simp [AxisRecord.released, hs]
  | idle => rw [endAxis_idle hs]; exact .same rfl rfl
  | fault => rw [endAxis_fault hs]; exact .same rfl rfl

/-- Only the gates and the end of a dwell bring an axis to MOVING or give it a step there, and both ask for the permit. -/
theorem handle_staysOrPermitted (x : Signal) (s : State) (a : Axis) : staysOrPermitted a s (handle x s).1 := by
  by_cases hx : x.concerns s = some a
  · cases x with
    | takeUp b =>
      obtain rfl := Option.some.inj hx
      exact takeUp_cases (P := fun k => staysOrPermitted b s k.1) (fun _ _ _ _ _ => .rests (by simp)) (.same rfl rfl)
    | endEntry b =>
      obtain rfl := Option.some.inj hx
      simp only [handle, endEntry]
      split
      · next h => exact .rests (by simp [h])
      · exact .same rfl rfl
    | testGates b =>
      obtain rfl := Option.some.inj hx
      exact testGates_cases (P := fun k => staysOrPermitted b s k.1) (fun _ _ _ _ _ _ => .rests (by simp))
        (fun x hx _ _ hg _ => .enters (x := x) (by simpa [AxisRecord.gatesPassed] using hx) fun _ hd => State.permit_of_gatesMet hg hd)
        fun _ => .same rfl rfl
    | endDwell b =>
      obtain rfl := Option.some.inj hx
      exact endDwell_cases (P := fun k => staysOrPermitted b s k.1) (fun _ _ _ _ => .same rfl rfl)
        (fun _ hs _ => nextStep_staysOrPermitted _ hs rfl) (.same rfl rfl)
    | addHold b r =>
      obtain rfl := Option.some.inj hx
      exact addHold_cases (P := staysOrPermitted b s) (fun _ _ => .rests (by simp)) (fun _ _ => .rests (by simp))
        (fun hm _ _ _ => .rests (by simpa using hm)) fun _ => .same rfl rfl
    | removeHold b r =>
      obtain rfl := Option.some.inj hx
      exact removeHold_cases (P := fun k => staysOrPermitted b s k.1) (fun _ _ _ => .rests (by simp))
        (fun _ _ hs => .rests (by simp [hs])) (fun _ _ => .same (by simp) (by simp)) fun _ => .same rfl rfl
    | travelled b p =>
      obtain rfl := Option.some.inj hx
      exact travelled_cases (P := fun k => staysOrPermitted b s k.1) (fun _ _ _ _ => .rests (by simp))
        (fun _ _ _ _ _ => .same ((travelReport_state _).trans (driveOn_state _))
          ((travelReport_current _).trans (driveOn_current _)))
        (fun _ _ _ _ _ => .same (driveOn_state _) (driveOn_current _)) fun _ => .same rfl rfl
    | fault b k =>
      obtain rfl := Option.some.inj hx
      exact fault_cases (P := fun k => staysOrPermitted b s k.1) (fun hs => .rests (by simp [hs]))
        (fun _ _ => .rests (by simp [State.enterFault_axis])) fun _ => .same rfl rfl
    | endProgram c e =>
      by_cases hc : s.head a = some c ∧ s.contexts[c].state ≠ .queued
      · rw [handle, endProgram_executed e hx hc]
        exact endAxis_rests (s := s.reportEnd c a e)
      · rw [handle, endProgram_waiting e hx hc]
        exact .same rfl rfl
    | freeContext c e =>
      by_cases he : e = .complete
      · subst he
        rw [handle, freeContext_complete hx]
        exact .same (congrArg AxisRecord.state (State.activateHead_axis _ _ _))
          (congrArg AxisRecord.current (State.activateHead_axis _ _ _))
      · rw [handle, freeContext_stops he hx]
        exact .same rfl rfl
    | _ => cases hx
  · have hother := handle_axis_other x s hx
    exact .same (by rw [hother]) (by rw [hother])

/-- A reason that joins in MOVING ends it. -/
theorem addHold_stops {r : HoldReason} (h : (s.axis a).lawful) : ((addHold a r s).axis a).state ≠ .moving := by
  refine addHold_cases (P := fun t => (t.axis a).state ≠ .moving) (fun _ _ => by simp) (fun _ _ => by simp)
    (fun hm _ _ _ => by simpa using hm) fun hnot hm => ?_
  have hholds := (h.working (.inl hm)).1
  have hhas := hnot (by simp [AxisRecord.takesReason, hm])
  rw [hholds, noHolds_has] at hhas
  cases hhas

end

/-- An evaluation tells of every permit that it takes away. -/
theorem evaluatePermits_tells {a : Axis} {d : Direction} (h : s.permit a d = true) (hw : s.workedPermit a d ≠ true) :
    .deliverPermit a d false ∈ (evaluatePermits s).2 := by
  replace hw : s.workedPermit a d = false := by simpa using hw
  refine List.mem_map.2 ⟨(a, d), List.mem_filter.2 ⟨?_, ?_⟩, by rw [hw]⟩
  · cases a <;> cases d <;> decide
  · rw [hw, h]
    rfl

theorem evaluatePermits_permit (s : State) (a : Axis) (d : Direction) :
    (evaluatePermits s).1.permit a d = s.workedPermit a d := by
  cases a <;> cases d <;> rfl

theorem movesWarned_law : SignalLaw fun l s => s.axesLawful ∧ movesWarned l s where
  handled x rest s h := by
    obtain ⟨hlawful, hwarned⟩ := h
    refine ⟨handle_axesLawful x hlawful, fun a d hm hd => ?_⟩
    by_cases hx : x = .evaluatePermits
    · subst hx
      rw [show handle .evaluatePermits s = evaluatePermits s from rfl, evaluatePermits_permit]
      by_cases hw : s.workedPermit a d = true
      · exact .inl hw
      rcases hwarned a d hm hd with hp | hdel | hadd
      · exact .inr (.inl (List.mem_append_left _ (evaluatePermits_tells hp hw)))
      · exact .inr (.inl (List.mem_append_right _ ((List.mem_cons.1 hdel).resolve_left (by simp))))
      · exact .inr (.inr (List.mem_append_right _ ((List.mem_cons.1 hadd).resolve_left (by simp))))
    rw [State.permit_congr (handle_permits hx s)]
    rcases handle_staysOrPermitted x s a hm with ⟨hs, hcurrent⟩ | hp
    swap
    · exact .inl (hp d hd)
    rw [AxisRecord.stepDirection, hcurrent] at hd
    rcases hwarned a d hs hd with hp | hdel | hadd
    · exact .inl hp
    · rcases List.mem_cons.1 hdel with rfl | hdel
      · by_cases hp : s.permit a d = true
        · exact .inl hp
        · rw [Bool.not_eq_true] at hp
          have hdir : (s.axis a).stepDirection = some d := hd
          refine .inr (.inr (List.mem_append_left _ ?_))
          simp [handle, deliverPermit, hdir, hp, hs]
      · exact .inr (.inl (List.mem_append_right _ hdel))
    · rcases List.mem_cons.1 hadd with rfl | hadd
      · exact absurd hm (addHold_stops (hlawful a))
      · exact .inr (.inr (List.mem_append_right _ hadd))
  sent item rest s h := by
    obtain ⟨hlawful, hwarned⟩ := h
    have haxis := State.axis_congr (State.axes_of_traffic (sendOn_traffic item s))
    refine ⟨fun a => by rw [haxis]; exact hlawful a, fun a d hm hd => ?_⟩
    rw [haxis] at hm hd
    rw [State.permit_congr (sendOn_permits item s)]
    exact (hwarned a d hm hd).imp_right (.imp (List.mem_append_right _) (List.mem_append_right _))

end Sys2Proof.Machine
end

section
/-! What each signal does to the binding of contexts and queues (R95, R96), said once: only the freeing of a context, a fault and a
press change it. -/

namespace Sys2Proof.Machine

variable {s t : State} {a : Axis} {c : Fin 16}

/-! ## The links of contexts and queues -/

/-- What binds a context: its state, its axis and its owner. -/
def Context.link (x : Context) : ContextState × Option Axis × Option Owner := (x.state, x.axis, x.owner)

/-- What binds contexts and queues to each other. -/
def State.links (s : State) : (Fin 16 → ContextState × Option Axis × Option Owner) × PerAxis (List (Fin 16)) :=
  (fun c => s.contexts[c].link, s.queues)

section
variable (h : t.links = s.links)
include h

theorem State.link_of_links (c : Fin 16) : t.contexts[c].link = s.contexts[c].link := congrFun (congrArg Prod.fst h) c

theorem State.state_of_links (c : Fin 16) : t.contexts[c].state = s.contexts[c].state :=
  congrArg Prod.fst (State.link_of_links h c)

theorem State.axis_of_links (c : Fin 16) : t.contexts[c].axis = s.contexts[c].axis :=
  congrArg (·.2.1) (State.link_of_links h c)

theorem State.owner_of_links (c : Fin 16) : t.contexts[c].owner = s.contexts[c].owner :=
  congrArg (·.2.2) (State.link_of_links h c)

theorem State.queues_of_links : t.queues = s.queues := congrArg Prod.snd h

theorem State.queue_of_links (a : Axis) : t.queue a = s.queue a := State.queue_congr (State.queues_of_links h) a

theorem State.head_of_links (a : Axis) : t.head a = s.head a := State.head_congr (State.queues_of_links h) a

end

theorem State.links_of_traffic (h : t.traffic = s.traffic) : t.links = s.links := by
  rw [State.links, State.links, State.contexts_of_traffic h, State.queues_of_traffic h]

/-- An update of a context that leaves what binds it. -/
theorem State.onContext_links {f : Context → Context} (hf : ∀ x, (f x).link = x.link) (s : State) (c : Fin 16) :
    (s.onContext c f).links = s.links := by
  refine Prod.ext (funext fun d => ?_) rfl
  by_cases hd : c = d
  · subst hd
    exact (congrArg Context.link (s.onContext_same c f)).trans (hf _)
  · exact congrArg Context.link (s.onContext_other c d f hd)

@[simp] theorem State.onAxis_links (s : State) (a : Axis) (f : AxisRecord → AxisRecord) : (s.onAxis a f).links = s.links := rfl

@[simp] theorem State.moveTo_links (s : State) (a : Axis) (x : AxisState) : (s.moveTo a x).links = s.links := rfl

@[simp] theorem State.reportAxis_links (s : State) (a : Axis) : (s.reportAxis a).links = s.links := rfl

@[simp] theorem State.withHolds_links (s : State) (a : Axis) (v : HoldSet) : (s.withHolds a v).links = s.links := rfl

@[simp] theorem State.enterHold_links (s : State) (a : Axis) : (s.enterHold a).links = s.links := by simp [State.enterHold]

@[simp] theorem State.enterStopping_links (s : State) (a : Axis) : (s.enterStopping a).links = s.links := by
  simp [State.enterStopping]

@[simp] theorem State.enterIdle_links (s : State) (a : Axis) : (s.enterIdle a).links = s.links := by simp [State.enterIdle]

@[simp] theorem State.takeStep_links (s : State) (a : Axis) : (s.takeStep a).links = s.links := by
  have htaken (c : Fin 16) (rest : List Step) : (s.onContext c fun x => { x with steps := rest }).links = s.links :=
    State.onContext_links (f := fun x => { x with steps := rest }) (fun _ => rfl) s c
  unfold State.takeStep
  split
  · rfl
  · next c _ =>
    split
    · rfl
    · next rest _ =>
      dsimp only
      split <;> exact htaken c rest

@[simp] theorem State.withStep_links (s : State) (a : Axis) : (s.withStep a).links = s.links := by
  unfold State.withStep
  split
  · exact s.takeStep_links a
  · rfl

@[simp] theorem State.entered_links (s : State) (a : Axis) : (s.entered a).links = s.links := s.withStep_links a

@[simp] theorem enterPreparing_links (a : Axis) (s : State) : (enterPreparing a s).1.links = s.links := by
  rcases enterPreparing_state a s with h | h <;> (rw [h]; exact s.entered_links a)

@[simp] theorem enterDwell_links (a : Axis) (s : State) : (enterDwell a s).1.links = s.links := by
  unfold enterDwell
  dsimp only
  (repeat' split) <;> rfl

@[simp] theorem State.driveOn_links (s : State) (a : Axis) : (s.driveOn a).links = s.links := by
  unfold State.driveOn
  split <;> rfl

@[simp] theorem enterMoving_links (a : Axis) (s : State) : (enterMoving a s).links = s.links := by simp [enterMoving]

@[simp] theorem State.travelReport_links (s : State) (a : Axis) : (s.travelReport a).links = s.links := by
  unfold State.travelReport
  (repeat' split) <;> rfl

@[simp] theorem State.nextTaken_links (s : State) (a : Axis) : (s.nextTaken a).links = s.links := s.takeStep_links a

@[simp] theorem State.starving_links (s : State) (a : Axis) (c : Fin 16) : (s.starving a c).links = s.links :=
  State.onContext_links (f := fun x => { x with starveDeadline := s.ends starvationTime }) (fun _ => rfl) _ c

theorem nextStep_links (a : Axis) (c : Fin 16) (s : State) : (nextStep a c s).1.links = s.links :=
  nextStep_cases (P := fun k => k.1.links = s.links) (fun _ => by simp) (fun _ => s.nextTaken_links a)
    (fun _ _ => by simp) (fun _ _ _ => by simp) fun _ => by simp

theorem endAxis_links (a : Axis) (s : State) : (endAxis a s).1.links = s.links := by
  unfold endAxis
  dsimp only
  split
  iterate 3 exact (State.enterIdle_links ..).trans rfl
  · exact (State.enterStopping_links ..).trans rfl
  · split <;> rfl
  · rfl
  · rfl

theorem State.enterFault_links (s : State) (a : Axis) (kind : FaultKind) : (s.enterFault a kind).links = s.links := rfl

/-- The signals that leave contexts and queues bound as they are. -/
def Signal.keepsLinks : Signal → Bool
  | .fault _ _ | .freeContext _ _ | .press _ _ => false
  | _ => true

theorem handle_links {x : Signal} (h : x.keepsLinks = true) (s : State) : (handle x s).1.links = s.links := by
  cases x with
  | takeUp a => exact takeUp_cases (P := fun k => k.1.links = s.links) (fun _ _ _ _ _ => enterPreparing_links a s) rfl
  | endEntry a => simp only [handle, endEntry]; split <;> rfl
  | testGates a =>
    exact testGates_cases (P := fun k => k.1.links = s.links) (fun _ _ _ _ _ _ => enterDwell_links ..)
      (fun _ _ _ _ _ _ => enterMoving_links ..) fun _ => rfl
  | endDwell a =>
    have hdone (c : Fin 16) : (s.onContext c Context.stepDone).links = s.links :=
      State.onContext_links (f := Context.stepDone) (fun _ => rfl) s c
    exact endDwell_cases (P := fun k => k.1.links = s.links) (fun x _ _ _ => hdone x.context)
      (fun x _ _ => (nextStep_links ..).trans (hdone x.context)) rfl
  | addHold a r =>
    exact addHold_cases (P := fun t => t.links = s.links) (fun _ _ => by simp) (fun _ _ => by simp) (fun _ _ _ _ => by simp)
      fun _ => rfl
  | removeHold a r =>
    exact removeHold_cases (P := fun k => k.1.links = s.links) (fun _ _ _ => by simp) (fun _ _ _ => by simp)
      (fun _ _ => by simp) fun _ => rfl
  | travelled a p =>
    exact travelled_cases (P := fun k => k.1.links = s.links) (fun _ _ _ _ => enterDwell_links ..)
      (fun _ _ _ _ _ => (State.travelReport_links ..).trans (State.driveOn_links ..))
      (fun _ _ _ _ _ => State.driveOn_links ..) fun _ => rfl
  | endProgram c e =>
    cases ha : s.contexts[c].axis with
    | none => rw [handle, endProgram_free e ha]
    | some a =>
      by_cases hc : s.head a = some c ∧ s.contexts[c].state ≠ .queued
      · rw [handle, endProgram_executed e ha hc]
        exact endAxis_links ..
      · rw [handle, endProgram_waiting e ha hc]
        rfl
  | fault _ _ | freeContext _ _ | press _ _ => cases h
  | _ => exact State.links_of_traffic (handle_traffic rfl s)

/-! ## Contexts and queues bound to each other -/

/-- Contexts and queues are bound to each other, and only heads are ACTIVE or CLOSING: what `State.queueLaw` says without a bound on
the signals (R95, R96). -/
structure State.bound (s : State) : Prop where
  nodup : ∀ a : Axis, (s.queue a).Nodup
  mem : ∀ (c : Fin 16) (a : Axis), c ∈ s.queue a ↔ s.contexts[c].axis = some a
  free : ∀ c : Fin 16, s.contexts[c].state = .free ↔ s.contexts[c].axis = none
  owned : ∀ c : Fin 16, s.contexts[c].state = .free ↔ s.contexts[c].owner = none
  head : ∀ (c : Fin 16) (a : Axis), s.contexts[c].state = .active ∨ s.contexts[c].state = .closing →
    s.contexts[c].axis = some a → s.head a = some c

theorem State.queueLaw_iff (s : State) : s.queueLaw ↔ s.bound ∧ (s.unsettled = false → s.headLaw) :=
  ⟨fun ⟨h1, h2, h3, h4, h5, h6⟩ => ⟨⟨h1, h2, h3, h4, h5⟩, h6⟩, fun ⟨⟨h1, h2, h3, h4, h5⟩, h6⟩ => ⟨h1, h2, h3, h4, h5, h6⟩⟩

theorem State.bound.of_links (hs : s.bound) (h : t.links = s.links) : t.bound where
  nodup a := by rw [State.queue_of_links h]; exact hs.nodup a
  mem c a := by rw [State.queue_of_links h, State.axis_of_links h]; exact hs.mem c a
  free c := by rw [State.state_of_links h, State.axis_of_links h]; exact hs.free c
  owned c := by rw [State.state_of_links h, State.owner_of_links h]; exact hs.owned c
  head c a := by rw [State.state_of_links h, State.axis_of_links h, State.head_of_links h]; exact hs.head c a

theorem State.bound.axis_of_head (hs : s.bound) (h : s.head a = some c) : s.contexts[c].axis = some a :=
  (hs.mem c a).1 (List.mem_of_head? h)

/-- A head context is not FREE. -/
theorem State.bound.head_ne_free (hs : s.bound) (h : s.head a = some c) : s.contexts[c].state ≠ .free := fun hf => by
  have := (hs.free c).1 hf
  rw [hs.axis_of_head h] at this
  cases this

/-- A context changes between ACTIVE, QUEUED and CLOSING, and only as a head to ACTIVE or CLOSING. -/
theorem State.bound.restate (hs : s.bound) {c : Fin 16} {f : Context → Context} (haxis : ∀ x, (f x).axis = x.axis)
    (howner : ∀ x, (f x).owner = x.owner) (hstate : (f s.contexts[c]).state = .free ↔ s.contexts[c].state = .free)
    (hhead : (f s.contexts[c]).state = .active ∨ (f s.contexts[c]).state = .closing → ∀ a, s.contexts[c].axis = some a →
      s.head a = some c) : (s.onContext c f).bound := by
  have hcases (d : Fin 16) : (s.onContext c f).contexts[d] = s.contexts[d] ∨ (d = c ∧ (s.onContext c f).contexts[d] = f s.contexts[c]) := by
    by_cases hd : c = d
    · subst hd
      exact .inr ⟨rfl, s.onContext_same c f⟩
    · exact .inl (s.onContext_other c d f hd)
  refine ⟨hs.nodup, fun d a => ?_, fun d => ?_, fun d => ?_, fun d a => ?_⟩ <;>
    rcases hcases d with h | ⟨rfl, h⟩
  · rw [h]; exact hs.mem d a
  · rw [h, haxis]; exact hs.mem d a
  · rw [h]; exact hs.free d
  · rw [h, haxis, hstate]; exact hs.free d
  · rw [h]; exact hs.owned d
  · rw [h, howner, hstate]; exact hs.owned d
  · rw [h]; exact hs.head d a
  · rw [h, haxis]; exact fun hd => hhead hd a

/-! ## A head that becomes ACTIVE -/

/-- The head of a queue becomes ACTIVE, or stays where it is not QUEUED or its axis is in FAULT. -/
theorem State.activateHead_cases {P : State → Prop}
    (hup : ∀ c, s.head a = some c → s.contexts[c].state = .queued → (s.axis a).state ≠ .fault →
      P (s.onContext c fun x => { x with state := .active }))
    (hnot : (∀ c, s.head a = some c → s.contexts[c].state = .queued → (s.axis a).state = .fault) → P s) :
    P (s.activateHead a) := by
  unfold State.activateHead
  split
  · next c hc =>
    split
    · next h => exact hup c hc h.1 h.2
    · next h =>
      refine hnot fun d hd hq => ?_
      obtain rfl := Option.some.inj (hc.symm.trans hd)
      by_contra hne
      exact h ⟨hq, hne⟩
  · next h => exact hnot fun c hc => by rw [h] at hc; cases hc

theorem State.bound.activateHead (hs : s.bound) (a : Axis) : (s.activateHead a).bound := by
  refine State.activateHead_cases (P := State.bound) (fun c hc hq _ => hs.restate (fun _ => rfl) (fun _ => rfl) ?_ ?_) fun _ => hs
  · exact iff_of_false (by simp) (by rw [hq]; simp)
  · intro _ b hb
    obtain rfl := Option.some.inj ((hs.axis_of_head hc).symm.trans hb)
    exact hc

/-! ## A context that leaves its queue -/

section
variable (s : State) (c : Fin 16) (a : Axis)

theorem State.release_context_same : (s.release c a).contexts[c] =
    { s.contexts[c] with state := .free, owner := none, axis := none, steps := [], starveDeadline := none } :=
  s.onContext_same c fun x => { x with state := .free, owner := none, axis := none, steps := [], starveDeadline := none }

theorem State.release_context_other {d : Fin 16} (h : d ≠ c) : (s.release c a).contexts[d] = s.contexts[d] :=
  s.onContext_other c d (fun x => { x with state := .free, owner := none, axis := none, steps := [], starveDeadline := none })
    h.symm

theorem State.release_queue_same : (s.release c a).queue a = (s.queue a).filter (· ≠ c) := by
  cases a <;> rfl

theorem State.release_queue_other {b : Axis} (h : b ≠ a) : (s.release c a).queue b = s.queue b := by
  cases a <;> cases b <;> first | rfl | exact absurd rfl h

@[simp] theorem State.release_axis (b : Axis) : (s.release c a).axis b = s.axis b := rfl

end

theorem State.bound.release (hs : s.bound) (hc : s.contexts[c].axis = some a) : (s.release c a).bound := by
  have hqueue (b : Axis) : (s.release c a).queue b = (s.queue b).filter (· ≠ c) := by
    by_cases hb : b = a
    · subst hb; exact s.release_queue_same c b
    · rw [s.release_queue_other c a hb, List.filter_eq_self.2 fun d hd => ?_]
      have hd := (hs.mem d b).1 hd
      refine decide_eq_true fun e => hb ?_
      rw [e, hc] at hd
      exact (Option.some.inj hd).symm
  refine ⟨fun b => ?_, fun d b => ?_, fun d => ?_, fun d => ?_, fun d b hd hb => ?_⟩
  · rw [hqueue]; exact (hs.nodup b).filter _
  · rw [hqueue, List.mem_filter]
    by_cases hd : d = c
    · subst hd; simp [s.release_context_same]
    · rw [s.release_context_other c a hd, hs.mem]; simp [hd]
  · by_cases hd : d = c
    · subst hd; simp [s.release_context_same]
    · rw [s.release_context_other c a hd]; exact hs.free d
  · by_cases hd : d = c
    · subst hd; simp [s.release_context_same]
    · rw [s.release_context_other c a hd]; exact hs.owned d
  · by_cases he : d = c
    · subst he; rw [s.release_context_same d a] at hb; cases hb
    · rw [s.release_context_other c a he] at hd hb
      have hhead := hs.head d b hd hb
      rw [State.head, hqueue]
      obtain ⟨rest, hrest⟩ := List.head?_eq_some_iff.1 hhead
      rw [hrest, List.filter_cons_of_pos (by simpa using he)]
      rfl

/-! ## A context that joins a queue -/

section
variable (s : State) (c : Fin 16) (a : Axis) (o : Owner)

theorem State.bind_context_same : (s.bind c o a).contexts[c] =
    openedContext (if (s.queue a).isEmpty && decide ((s.axis a).state ≠ .fault) then .active else .queued) o a :=
  s.onContext_same c fun _ =>
    openedContext (if (s.queue a).isEmpty && decide ((s.axis a).state ≠ .fault) then .active else .queued) o a

theorem State.bind_context_other {d : Fin 16} (h : d ≠ c) : (s.bind c o a).contexts[d] = s.contexts[d] :=
  s.onContext_other c d (fun _ =>
    openedContext (if (s.queue a).isEmpty && decide ((s.axis a).state ≠ .fault) then .active else .queued) o a) h.symm

theorem State.bind_queue_same : (s.bind c o a).queue a = s.queue a ++ [c] := by
  cases a <;> rfl

theorem State.bind_queue_other {b : Axis} (h : b ≠ a) : (s.bind c o a).queue b = s.queue b := by
  cases a <;> cases b <;> first | rfl | exact absurd rfl h

@[simp] theorem State.bind_axis (b : Axis) : (s.bind c o a).axis b = s.axis b := rfl

end

theorem State.bound.bind (hs : s.bound) (hc : s.contexts[c].state = .free) (o : Owner) (a : Axis) : (s.bind c o a).bound := by
  have hout (b : Axis) : c ∉ s.queue b := fun h => by
    have := (hs.mem c b).1 h
    rw [(hs.free c).1 hc] at this
    cases this
  have hmem (d : Fin 16) (b : Axis) : d ∈ (s.bind c o a).queue b ↔ d ∈ s.queue b ∨ (b = a ∧ d = c) := by
    by_cases hb : b = a
    · subst hb; rw [s.bind_queue_same]; simp
    · rw [s.bind_queue_other c a o hb]; simp [hb]
  refine ⟨fun b => ?_, fun d b => ?_, fun d => ?_, fun d => ?_, fun d b hd hb => ?_⟩
  · by_cases hb : b = a
    · subst hb
      rw [s.bind_queue_same]
      exact List.nodup_append'.2 ⟨hs.nodup b, List.nodup_singleton _, by simpa using hout b⟩
    · rw [s.bind_queue_other c a o hb]
      exact hs.nodup b
  · rw [hmem]
    by_cases hd : d = c
    · subst hd
      rw [s.bind_context_same]
      simp only [openedContext, Option.some.injEq, hout b, false_or, and_true]
      exact eq_comm
    · rw [s.bind_context_other c a o hd, hs.mem]
      simp [hd]
  · by_cases hd : d = c
    · subst hd
      rw [s.bind_context_same, openedContext]
      split <;> simp
    · rw [s.bind_context_other c a o hd]; exact hs.free d
  · by_cases hd : d = c
    · subst hd
      rw [s.bind_context_same, openedContext]
      split <;> simp
    · rw [s.bind_context_other c a o hd]; exact hs.owned d
  · by_cases he : d = c
    · subst he
      rw [s.bind_context_same, openedContext] at hd hb
      obtain rfl := Option.some.inj hb
      have hempty : s.queue a = [] := by
        by_contra hne
        simp [hne] at hd
      rw [State.head, s.bind_queue_same, hempty]
      rfl
    · rw [s.bind_context_other c a o he] at hd hb
      have hhead := hs.head d b hd hb
      by_cases hba : b = a
      · subst hba
        rw [State.head, s.bind_queue_same]
        obtain ⟨rest, hrest⟩ := List.head?_eq_some_iff.1 hhead
        rw [hrest]
        rfl
      · rw [State.head, s.bind_queue_other c a o hba]
        exact hhead

/-! ## An admitted step and a press -/

/-- An admitted step reaches an ACTIVE head, or only its context (R101). -/
theorem admitStep_cases {P : Handled → Prop} {x : Step}
    (hup : ∀ a, s.contexts[c].axis = some a → s.head a = some c → s.contexts[c].state = .active →
      P (s.onContext c fun y => { y.accept x with starveDeadline := none }, [.takeUp a, .removeHold a .starved]))
    (hnot : P (s.onContext c fun y => y.accept x, [])) : P (admitStep c x s) := by
  have haccepted := s.onContext_same c fun y => y.accept x
  unfold admitStep
  dsimp only
  split
  · exact hnot
  · next a ha =>
    rw [haccepted] at ha
    split
    · next h =>
      rw [haccepted] at h
      have htwice : ((s.onContext c fun y => y.accept x).onContext c fun y => { y with starveDeadline := none })
          = s.onContext c fun y => { y.accept x with starveDeadline := none } := by
        simp [State.onContext]
      rw [htwice]
      exact hup a ha h.1 h.2
    · exact hnot

theorem admitStep_links (c : Fin 16) (x : Step) (s : State) : (admitStep c x s).1.links = s.links :=
  admitStep_cases (P := fun k => k.1.links = s.links)
    (fun _ _ _ _ => State.onContext_links (f := fun y => { y.accept x with starveDeadline := none }) (fun _ => rfl) s c)
    (State.onContext_links (f := fun y => y.accept x) (fun _ => rfl) s c)

/-- The lowest-numbered FREE context is FREE. -/
theorem State.freeOne_free (h : s.freeOne = some c) : s.contexts[c].state = .free := by
  simpa using List.find?_some h

/-- The signals that a press sends where it starts no program. -/
def Signal.dispatched : Signal → Bool
  | .removeHold _ _ => true
  | x => x.aside

theorem changeZone_dispatched (lighting : Bool) (z : Fin 24) (f : Zone → Zone) (s : State) :
    ∀ y ∈ (changeZone lighting z f s).2, y.dispatched = true := by
  intro y hy
  simp only [changeZone, settleZone, List.mem_append, List.mem_singleton] at hy
  rcases hy with (hy | hy) | rfl
  · split at hy
    · obtain rfl := List.mem_singleton.1 hy; rfl
    · cases hy
  · split at hy
    · obtain rfl := List.mem_singleton.1 hy; rfl
    · cases hy
  · rfl

/-- A zone action changes its zone alone. -/
theorem zoneAction_cases {z : Fin 24} {b : Binding} {P : Handled → Prop}
    (hzone : ∀ lighting f, P (changeZone lighting z f s)) (hnot : P (s, [])) : P (zoneAction z b s) := by
  unfold zoneAction recallScene stepEvent setpointEvent modeEvent
  dsimp only
  (repeat' split) <;> first | exact hnot | exact hzone _ _

/-- A press binds a FREE context to an axis that is not in FAULT and has no program, and admits its step; or it leaves contexts and
queues bound as they are, and takes up nothing (R157, R161, R115). -/
theorem press_cases {p : Fin 12} {n : Nat} {P : Handled → Prop}
    (hstart : ∀ (c : Fin 16) (a : Axis) (x : Step) (q : Fin 12) (r : ActionResult) (d : List Byte) (u : State),
      s.contexts[c].state = .free → s.queue a = [] → (s.axis a).state ≠ .fault →
      u.traffic = (admitStep c x (s.bind c (.panel p) a)).1.traffic →
      P (u, (admitStep c x (s.bind c (.panel p) a)).2 ++ [.actionResult q r d]))
    (hnot : ∀ k : Handled, k.1.traffic = s.traffic → (∀ y ∈ k.2, y.dispatched = true) → P k) :
    P (press p n s) := by
  have hone (k : State) (hk : k.traffic = s.traffic) (q : Fin 12) (r : ActionResult) (d : List Byte) : P (k, [.actionResult q r d]) :=
    hnot _ hk (by simp [Signal.dispatched, Signal.aside])
  have hgoto (b : Binding) : P (dispatchGoto p n b s) := by
    unfold dispatchGoto
    dsimp only
    split
    · exact hone _ rfl _ _ _
    · split
      · exact hone _ rfl _ _ _
      · split
        · exact hone _ rfl _ _ _
        · exact hone _ rfl _ _ _
        · next c start h =>
          unfold State.panelAnswer at h
          split at h
          · cases h
          · next hqueue =>
            split at h
            · cases h
            · next hstate =>
              split at h
              · cases h
              · cases h
              · next hfree =>
                cases h
                refine hstart c b.axis (panelStep start _) _ _ _ _ (State.freeOne_free hfree) (by simpa using hqueue)
                  (fun e => hstate (.inl e)) ?_
                split <;> rfl
  have hzone (b : Binding) : P (dispatchZone p n b s) := by
    have hdispatched {k : Handled} (hk : k.1.traffic = s.traffic) (hl : ∀ y ∈ k.2, y.dispatched = true) (q : Fin 12) (r : ActionResult)
        (d : List Byte) : P (k.1, k.2 ++ [.actionResult q r d]) :=
      hnot _ hk fun y hy => by
        rcases List.mem_append.1 hy with hy | hy
        · exact hl y hy
        · obtain rfl := List.mem_singleton.1 hy; rfl
    unfold dispatchZone
    dsimp only
    split
    · refine hdispatched ?_ ?_ _ _ _
      · exact zoneAction_cases (P := fun k => k.1.traffic = s.traffic) (fun _ _ => rfl) rfl
      · exact zoneAction_cases (P := fun k => ∀ y ∈ k.2, y.dispatched = true)
          (fun lighting f => changeZone_dispatched lighting _ f s) (by simp)
    · exact hone _ rfl _ _ _
  unfold press
  split
  · unfold resumePress
    dsimp only
    split
    · exact hnot _ rfl (by simp [Signal.dispatched, Signal.aside])
    · exact hone _ rfl _ _ _
  · dsimp only
    split
    · exact hnot _ rfl (by simp)
    · exact hone _ (by split <;> rfl) _ _ _
    · exact hone _ rfl _ _ _
    · exact hgoto _
    all_goals exact hzone _

/-! ## Every signal keeps them bound -/

theorem State.bound.fault (hs : s.bound) (a : Axis) (kind : FaultKind) : (Machine.fault a kind s).1.bound := by
  have hfaulted : (s.enterFault a kind).bound := hs.of_links (s.enterFault_links a kind)
  refine fault_cases (P := fun k => k.1.bound) (fun _ => hs.of_links rfl) (fun _ _ => ?_) fun _ => hs
  refine faultHead_cases (P := fun k => k.1.bound) (fun _ _ _ => hfaulted) (fun c hc _ hactive => ?_) fun _ => hfaulted
  refine hfaulted.restate (c := c) (f := fun x => { x with state := .queued }) (fun _ => rfl) (fun _ => rfl) ?_ ?_
  · exact iff_of_false (by simp) (by rw [hactive]; simp)
  · simp

/-- An ACTIVE program bound to an empty queue, or a QUEUED one, and its first step. -/
theorem State.bound.started (hs : s.bound) {p : Fin 12} (hc : s.contexts[c].state = .free) (x : Step) :
    (admitStep c x (s.bind c (.panel p) a)).1.bound := (hs.bind hc _ a).of_links (admitStep_links ..)

theorem handle_bound (x : Signal) (hs : s.bound) : (handle x s).1.bound := by
  cases x with
  | fault a k => exact hs.fault a k
  | freeContext c e =>
    cases ha : s.contexts[c].axis with
    | none => rwa [handle, freeContext_free e ha]
    | some a =>
      by_cases he : e = .complete
      · subst he
        rw [handle, freeContext_complete ha]
        exact (hs.release ha).activateHead a
      · rw [handle, freeContext_stops he ha]
        exact hs.release ha
  | press p n =>
    exact press_cases (P := fun k => k.1.bound)
      (fun c a x _ _ _ u hfree _ _ hu => (hs.started (a := a) (p := p) hfree x).of_links (State.links_of_traffic hu))
      fun k hk _ => hs.of_links (State.links_of_traffic hk)
  | _ => exact hs.of_links (handle_links rfl s)

end Sys2Proof.Machine
end

section
/-! Which signals send which (`Sends`): what a handler sends is mild, so that it neither takes an axis up nor faults it nor ends a
program, but for the few cases of R73, R84, R85, R103, R112 and R113. -/

namespace Sys2Proof.Machine

variable {s t : State} {a : Axis} {c : Fin 16}

/-! ## Mild signals -/

/-- The signals that take no axis up, move none, fault none and end no program by themselves. -/
def Signal.mild : Signal → Bool
  | .takeUp _ | .travelled _ _ | .fault _ _ | .endProgram _ _ | .freeContext _ _ | .press _ _ => false
  | _ => true

/-- Only mild signals. -/
def allMild (l : List Signal) : Bool := l.all (·.mild)

theorem allMild_mem {l : List Signal} (h : allMild l = true) {y : Signal} (hy : y ∈ l) : y.mild = true := List.all_eq_true.1 h y hy

@[simp] theorem allMild_append (l m : List Signal) : allMild (l ++ m) = (allMild l && allMild m) := by simp [allMild]

theorem allMild_map {α : Type} (l : List α) (f : α → Signal) (h : ∀ x, (f x).mild = true) : allMild (l.map f) = true := by
  simp [allMild, h]

@[simp] theorem idleSignals_mild (a : Axis) : allMild (idleSignals a) = true := by cases a <;> rfl
@[simp] theorem windlassDemand_mild (a : Axis) (d : Nat) : allMild (windlassDemand a d) = true := by cases a <;> rfl
@[simp] theorem pumpSignals_mild (a : Axis) : allMild (pumpSignals a) = true := by cases a <;> rfl
@[simp] theorem faultReleases_mild (a : Axis) : allMild (faultReleases a) = true := by cases a <;> rfl

@[simp] theorem State.leavesIdle_mild (s : State) (a : Axis) : allMild (s.leavesIdle a) = true := by
  unfold State.leavesIdle
  split
  · exact idleSignals_mild a
  · rfl

@[simp] theorem enterDwell_mild (a : Axis) (s : State) : allMild (enterDwell a s).2 = true := by
  unfold enterDwell
  dsimp only
  (repeat' split) <;> rfl

@[simp] theorem nextStep_mild (a : Axis) (c : Fin 16) (s : State) : allMild (nextStep a c s).2 = true :=
  nextStep_cases (P := fun k => allMild k.2 = true) (fun _ => rfl) (fun _ => rfl) (fun _ _ => enterDwell_mild ..)
    (fun _ _ _ => rfl) fun _ => rfl

@[simp] theorem endAxis_mild (a : Axis) (s : State) : allMild (endAxis a s).2 = true := by
  unfold endAxis
  cases a <;> dsimp only <;> split <;> rfl

@[simp] theorem sendOn_mild (item : Outgoing) (s : State) : allMild (sendOn item s).2 = true := by
  cases item with
  | report content copy => rfl
  | grant k g =>
    simp only [sendOn]
    unfold deliverTo deliverPump deliverWindlass
    dsimp only
    (repeat' split) <;> rfl

theorem enterPreparing_mild_or (a : Axis) (s : State) :
    ∀ y ∈ (enterPreparing a s).2, y.mild = true ∨ ∃ k, y = .fault a k := by
  intro y hy
  cases h : s.entryFault a with
  | none =>
    rw [enterPreparing_enters h] at hy
    have hmild : allMild (windlassDemand a s.config.gear.rating ++ ((hydraulicOf a).map Signal.requestPump).toList
        ++ [.reportAxis a] ++ s.leavesIdle a ++ [.endEntry a]) = true := by
      cases a <;> simp [allMild, Signal.mild, hydraulicOf, windlassDemand, State.leavesIdle, idleSignals]
    exact .inl (allMild_mem hmild hy)
  | some kind =>
    rw [enterPreparing_faults h] at hy
    rcases List.mem_cons.1 hy with rfl | hy
    · exact .inr ⟨kind, rfl⟩
    · exact .inl (allMild_mem (s.leavesIdle_mild a) hy)

theorem settleZone_mild (lighting : Bool) (z : Fin 24) (before after : Zone) :
    allMild (settleZone lighting z before after) = true := by
  unfold settleZone
  (repeat' split) <;> rfl

/-! ## What each signal sends -/

/-- A signal may send another. -/
inductive Sends (s : State) : Signal → Signal → Prop
  | mild {x y : Signal} (h : y.mild = true) : Sends s x y
  | takenUp {a : Axis} {k : FaultKind} : Sends s (.takeUp a) (.fault a k)
  | resumed {a : Axis} {r : HoldReason} {k : FaultKind} (h : (s.axis a).state = .hold) : Sends s (.removeHold a r) (.fault a k)
  | travelled {a : Axis} {p : Option Int} {k : FaultKind} : Sends s (.travelled a p) (.fault a k)
  | stepEnds {a : Axis} {x : CurrentStep} {e : EndStatus} (h : (s.axis a).state = .dwell) (hx : (s.axis a).current = some x) :
      Sends s (.endDwell a) (.endProgram x.context e)
  | headFaults {a : Axis} {k : FaultKind} {c : Fin 16} (h : s.head a = some c) : Sends s (.fault a k) (.endProgram c .faulted)
  | frees {c : Fin 16} {e : EndStatus} {a : Axis} (h : s.contexts[c].axis = some a) : Sends s (.endProgram c e) (.freeContext c e)
  | next {c : Fin 16} {a : Axis} (h : s.contexts[c].axis = some a) : Sends s (.freeContext c .complete) (.takeUp a)
  | abandons {c b : Fin 16} {e : EndStatus} {a : Axis} (h : s.contexts[c].axis = some a) (hb : b ∈ s.queue a) :
      Sends s (.freeContext c e) (.endProgram b .abandoned)
  | starts {p : Fin 12} {n : Nat} {a : Axis} : Sends s (.press p n) (.takeUp a)

theorem behindIn_subset (c : Fin 16) (l : List (Fin 16)) : behindIn c l ⊆ l := fun _ h =>
  (List.dropWhile_suffix _).mem (List.mem_of_mem_tail h)

theorem Signal.dispatched_mild {y : Signal} (h : y.dispatched = true) : y.mild = true := by
  cases y <;> first | rfl | cases h

/-- What a handler sends. -/
theorem handle_sends (x : Signal) (s : State) : ∀ y ∈ (handle x s).2, Sends s x y := by
  have mild {l : List Signal} (hl : allMild l = true) : ∀ y ∈ l, Sends s x y := fun y hy => .mild (allMild_mem hl hy)
  have entry {a : Axis} {u : State} (hf : ∀ k, Sends s x (.fault a k)) : ∀ y ∈ (enterPreparing a u).2, Sends s x y := fun y hy => by
    rcases enterPreparing_mild_or a u y hy with h | ⟨k, rfl⟩
    · exact .mild h
    · exact hf k
  cases x with
  | takeUp a => exact takeUp_cases (P := fun k => ∀ y ∈ k.2, Sends s _ y) (fun _ _ _ _ _ => entry fun _ => .takenUp) (by simp)
  | endEntry a => simp only [handle, endEntry]; split <;> exact mild rfl
  | testGates a =>
    exact testGates_cases (P := fun k => ∀ y ∈ k.2, Sends s _ y) (fun _ _ _ _ _ _ => mild (enterDwell_mild ..))
      (fun _ _ _ _ _ _ => by simp) fun _ => by simp
  | endDwell a =>
    refine endDwell_cases (P := fun k => ∀ y ∈ k.2, Sends s _ y) (fun x hs hx e y hy => ?_) (fun _ _ _ => mild (nextStep_mild ..))
      (by simp)
    obtain rfl := List.mem_singleton.1 hy
    exact .stepEnds hs hx
  | addHold a r => exact mild rfl
  | removeHold a r =>
    exact removeHold_cases (P := fun k => ∀ y ∈ k.2, Sends s _ y) (fun _ _ hs => entry fun _ => .resumed hs)
      (fun _ _ _ => mild rfl) (fun _ _ => by simp) fun _ => by simp
  | travelled a p =>
    have honset : ∀ y ∈ s.onset a p, Sends s (.travelled a p) y := fun y hy => by
      unfold State.onset at hy
      split at hy
      · obtain rfl := List.mem_singleton.1 hy; exact .travelled
      · cases hy
    refine travelled_cases (P := fun k => ∀ y ∈ k.2, Sends s _ y) (fun _ _ _ _ y hy => ?_) (fun _ _ _ _ _ => by simp)
      (fun _ _ _ _ h => ?_) fun _ => honset
    · exact (List.mem_append.1 hy).elim (mild (enterDwell_mild ..) y) (honset y)
    · exact h ▸ honset
  | fault a k =>
    refine fault_cases (P := fun j => ∀ y ∈ j.2, Sends s _ y) (fun _ => mild rfl) (fun _ _ y hy => ?_) fun _ => by simp
    rcases List.mem_append.1 hy with hy | hy
    · refine faultHead_cases (P := fun j => y ∈ j.2 → Sends s _ y) (fun c hc _ h => ?_) (fun _ _ _ _ h => ?_) (fun _ h => ?_) hy
      · obtain rfl := List.mem_singleton.1 h
        exact .headFaults hc
      all_goals exact mild (faultReleases_mild a) y h
    · have hafter : allMild (s.afterFault a k) = true := by
        rw [State.afterFault, allMild_append, State.leavesIdle_mild]
        rfl
      exact mild hafter y hy
  | endProgram c e =>
    cases ha : s.contexts[c].axis with
    | none => rw [handle, endProgram_free e ha]; simp
    | some a =>
      have hfrees : ∀ y ∈ [Signal.freeContext c e], Sends s (.endProgram c e) y := fun y hy => by
        obtain rfl := List.mem_singleton.1 hy
        exact .frees ha
      by_cases hc : s.head a = some c ∧ s.contexts[c].state ≠ .queued
      · rw [handle, endProgram_executed e ha hc]
        exact fun y hy => (List.mem_append.1 hy).elim (mild (endAxis_mild ..) y) (hfrees y)
      · rw [handle, endProgram_waiting e ha hc]
        exact hfrees
  | freeContext c e =>
    cases ha : s.contexts[c].axis with
    | none => rw [handle, freeContext_free e ha]; simp
    | some a =>
      by_cases he : e = .complete
      · subst he
        rw [handle, freeContext_complete ha]
        intro y hy
        obtain rfl := List.mem_singleton.1 hy
        exact .next ha
      · rw [handle, freeContext_stops he ha]
        intro y hy
        obtain ⟨b, hb, rfl⟩ := List.mem_map.1 hy
        exact .abandons ha (behindIn_subset c _ hb)
  | press p n =>
    refine press_cases (P := fun k => ∀ y ∈ k.2, Sends s _ y) (fun c a x _ _ _ _ _ _ _ _ y hy => ?_)
      fun _ _ hl y hy => .mild (Signal.dispatched_mild (hl y hy))
    rcases List.mem_append.1 hy with hy | hy
    · refine admitStep_cases (P := fun k => y ∈ k.2 → Sends s _ y) (fun _ _ _ _ h => ?_) (by simp) hy
      rcases List.mem_cons.1 h with rfl | h
      · exact .starts
      · exact mild (l := [.removeHold _ .starved]) rfl y h
    · exact mild (l := [.actionResult ..]) rfl y hy
  | post k d => simp only [handle, postDemand]; split <;> exact mild rfl
  | cueFrame =>
    have happly (m : CommitMode) (late : Bool) (u : State) : allMild (applyCue m late u).2 = true := by
      have hsettled : allMild ((namedZones u.cue.entries).flatMap fun z =>
          settleZone true z u.zones[z] (applyEntries u.config.scenes u.cue.entries u.zones)[z]) = true := by
        refine List.all_eq_true.2 fun y hy => ?_
        obtain ⟨z, -, hy⟩ := List.mem_flatMap.1 hy
        exact allMild_mem (settleZone_mild ..) hy
      rw [applyCue, allMild_append, hsettled]
      rfl
    simp only [handle, cueFrame]
    (repeat' split) <;> first | exact mild rfl | exact mild (happly ..)
  | deliverPermit a d v => simp only [handle, deliverPermit]; (repeat' split) <;> exact mild rfl
  | requestPump h => simp only [handle, requestPump]; (repeat' split) <;> exact mild rfl
  | releasePump h => simp only [handle, releasePump]; (repeat' split) <;> exact mild rfl
  | handOver => simp only [handle, handOver]; (repeat' split) <;> exact mild rfl
  | release p n => simp only [handle, release]; split <;> exact mild rfl
  | evaluatePermits => exact mild (allMild_map _ _ fun _ => rfl)
  | pass | passEnd | lightDemand _ | climateWork _ | reportZone _ _ | cueApplied _ _ _ | reportAxis _ | reportFault _ _ _
  | actionResult _ _ _ => exact mild rfl

end Sys2Proof.Machine
end

section
/-! The law that binds the signals on their way to the queues of contexts (`Orderly`): a head that is QUEUED outside FAULT or ACTIVE in
FAULT has its end on the way, and until a context that ends is freed, nothing on the way takes its axis up again (R85, R95, R96, R103,
R112, R113). -/

namespace Sys2Proof.Machine

variable {s t : State} {a b : Axis} {c : Fin 16}

/-! ## The contexts of the other axes -/

/-- The current step of an axis is one of its head context. -/
def State.stepsOfHeads (s : State) : Prop := ∀ (a : Axis) (x : CurrentStep), (s.axis a).current = some x → s.head a = some x.context

/-- A context and the queue of its axis stay whole. -/
def State.keeps (s t : State) (a : Axis) (c : Fin 16) : Prop := t.contexts[c] = s.contexts[c] ∧ t.queue a = s.queue a

theorem State.keeps.refl (s : State) (a : Axis) (c : Fin 16) : s.keeps s a c := ⟨rfl, rfl⟩

theorem State.keeps.trans {u : State} (h : s.keeps t a c) (k : t.keeps u a c) : s.keeps u a c := ⟨k.1.trans h.1, k.2.trans h.2⟩

theorem State.keeps_of_traffic (h : t.traffic = s.traffic) (a : Axis) (c : Fin 16) : s.keeps t a c :=
  ⟨by rw [State.contexts_of_traffic h], State.queue_congr (State.queues_of_traffic h) a⟩

theorem State.keeps_of_parts (hc : t.contexts = s.contexts) (hq : t.queues = s.queues) (a : Axis) (c : Fin 16) : s.keeps t a c :=
  ⟨by rw [hc], State.queue_congr hq a⟩

theorem State.onAxis_keeps (s : State) (b a : Axis) (c : Fin 16) (f : AxisRecord → AxisRecord) : s.keeps (s.onAxis b f) a c := ⟨rfl, rfl⟩

theorem State.reportAxis_keeps (s : State) (b a : Axis) (c : Fin 16) : s.keeps (s.reportAxis b) a c := ⟨rfl, rfl⟩

theorem State.withHolds_keeps (s : State) (b a : Axis) (c : Fin 16) (v : HoldSet) : s.keeps (s.withHolds b v) a c := ⟨rfl, rfl⟩

theorem State.enterHold_keeps (s : State) (b a : Axis) (c : Fin 16) : s.keeps (s.enterHold b) a c :=
  State.keeps_of_parts (by simp) (by simp) a c

theorem State.enterStopping_keeps (s : State) (b a : Axis) (c : Fin 16) : s.keeps (s.enterStopping b) a c :=
  State.keeps_of_parts (by simp) (by simp) a c

theorem State.enterIdle_keeps (s : State) (b a : Axis) (c : Fin 16) : s.keeps (s.enterIdle b) a c :=
  State.keeps_of_parts (by simp) (by simp) a c

theorem State.onContext_keeps {d : Fin 16} (h : d ≠ c) (s : State) (a : Axis) (f : Context → Context) : s.keeps (s.onContext d f) a c :=
  ⟨s.onContext_other d c f h, rfl⟩

theorem State.takeStep_keeps (h : s.head b ≠ some c) (a : Axis) : s.keeps (s.takeStep b) a c := by
  unfold State.takeStep
  split
  · exact .refl ..
  · next d hd =>
    split
    · exact .refl ..
    · next rest _ =>
      have htaken : s.keeps (s.onContext d fun x => { x with steps := rest }) a c :=
        State.onContext_keeps (fun e => h (by rw [← e]; exact hd)) s a _
      dsimp only
      split <;> exact htaken

theorem State.entered_keeps (h : s.head b ≠ some c) (a : Axis) : s.keeps (s.entered b) a c := by
  have hstep : s.keeps (s.withStep b) a c := by
    unfold State.withStep
    split
    · exact State.takeStep_keeps h a
    · exact .refl ..
  exact hstep.trans (State.keeps_of_parts rfl rfl a c)

theorem enterPreparing_keeps (h : s.head b ≠ some c) (a : Axis) : s.keeps (enterPreparing b s).1 a c := by
  rcases enterPreparing_state b s with e | e <;> (rw [e]; exact State.entered_keeps h a)

theorem enterDwell_keeps (s : State) (b a : Axis) (c : Fin 16) : s.keeps (enterDwell b s).1 a c := by
  unfold enterDwell
  dsimp only
  (repeat' split) <;> exact State.keeps_of_parts rfl rfl a c

theorem State.driveOn_keeps (s : State) (b a : Axis) (c : Fin 16) : s.keeps (s.driveOn b) a c := by
  unfold State.driveOn
  split <;> exact State.keeps_of_parts rfl rfl a c

theorem enterMoving_keeps (s : State) (b a : Axis) (c : Fin 16) : s.keeps (enterMoving b s) a c :=
  ((State.keeps_of_parts rfl rfl a c).trans (State.driveOn_keeps (s.moveTo b .moving) b a c)).trans
    (State.keeps_of_parts rfl rfl a c)

theorem State.travelReport_keeps (s : State) (b a : Axis) (c : Fin 16) : s.keeps (s.travelReport b) a c := by
  unfold State.travelReport
  (repeat' split) <;> exact State.keeps_of_parts rfl rfl a c

theorem nextStep_keeps {d : Fin 16} (hd : d ≠ c) (h : s.head b ≠ some c) (a : Axis) : s.keeps (nextStep b d s).1 a c := by
  have htaken : s.keeps (s.nextTaken b) a c := (State.takeStep_keeps h a).trans (State.keeps_of_parts rfl rfl a c)
  refine nextStep_cases (P := fun k => s.keeps k.1 a c) (fun _ => ?_) (fun _ => htaken)
    (fun _ _ => htaken.trans (enterDwell_keeps ..)) (fun _ _ _ => htaken.trans (enterMoving_keeps ..)) fun _ =>
      (htaken.trans (State.withHolds_keeps ..)).trans (State.enterHold_keeps ..)
  have hstarving : s.keeps (s.starving b d) a c := State.onContext_keeps hd (s.onAxis b _) a _
  exact hstarving.trans (State.enterHold_keeps ..)

theorem endAxis_keeps (s : State) (b a : Axis) (c : Fin 16) : s.keeps (endAxis b s).1 a c := by
  have hreleased : s.keeps (s.onAxis b AxisRecord.released) a c := s.onAxis_keeps ..
  unfold endAxis
  dsimp only
  split
  iterate 3 exact hreleased.trans (State.enterIdle_keeps ..)
  · exact hreleased.trans (State.enterStopping_keeps ..)
  · split
    · exact hreleased
    · exact hreleased.trans (State.reportAxis_keeps ..)
  · exact .refl ..
  · exact .refl ..

/-- A signal leaves a context and a queue whole where it concerns neither the queue nor the axis of the context. -/
theorem handle_leaves {x : Signal} (hs : s.bound) (hsteps : s.stepsOfHeads) (hpress : ∀ p n, x ≠ .press p n)
    (hx : x.concerns s ≠ some a) (hc : ∀ b, x.concerns s = some b → s.contexts[c].axis ≠ some b) : s.keeps (handle x s).1 a c := by
  have hother {b : Axis} (hb : s.contexts[c].axis ≠ some b) {d : Fin 16} (hd : s.contexts[d].axis = some b) : d ≠ c := fun e => by
    subst e
    exact hb hd
  have hhead {b : Axis} (hb : s.contexts[c].axis ≠ some b) : s.head b ≠ some c := fun e => hother hb (hs.axis_of_head e) rfl
  cases x with
  | takeUp b => exact takeUp_cases (P := fun k => s.keeps k.1 a c) (fun _ _ _ _ _ => enterPreparing_keeps (hhead (hc b rfl)) a) (.refl ..)
  | endEntry b => simp only [handle, endEntry]; split <;> exact State.keeps_of_parts rfl rfl a c
  | testGates b =>
    exact testGates_cases (P := fun k => s.keeps k.1 a c)
      (fun _ _ _ _ _ _ => (State.keeps_of_parts rfl rfl a c).trans (enterDwell_keeps ..))
      (fun _ _ _ _ _ _ => (State.keeps_of_parts rfl rfl a c).trans (enterMoving_keeps ..)) fun _ => .refl ..
  | endDwell b =>
    have hdwell {x : CurrentStep} (h : (s.axis b).current = some x) :
        (s.onContext x.context Context.stepDone).keeps (nextStep b x.context (s.onContext x.context Context.stepDone)).1 a c :=
      nextStep_keeps (hother (hc b rfl) (hs.axis_of_head (hsteps b x h))) (s := s.onContext x.context Context.stepDone) (hhead (hc b rfl)) a
    have hdone {x : CurrentStep} (h : (s.axis b).current = some x) : s.keeps (s.onContext x.context Context.stepDone) a c :=
      State.onContext_keeps (hother (hc b rfl) (hs.axis_of_head (hsteps b x h))) s a _
    exact endDwell_cases (P := fun k => s.keeps k.1 a c) (fun x _ h _ => hdone h)
      (fun x _ h => (hdone h).trans (hdwell h)) (.refl ..)
  | addHold b r =>
    exact addHold_cases (P := fun t => s.keeps t a c) (fun _ _ => (State.withHolds_keeps ..).trans (State.enterStopping_keeps ..))
      (fun _ _ => (State.withHolds_keeps ..).trans (State.enterHold_keeps ..)) (fun _ _ _ _ => .refl ..) fun _ => .refl ..
  | removeHold b r =>
    exact removeHold_cases (P := fun k => s.keeps k.1 a c)
      (fun _ _ _ => enterPreparing_keeps (s := (s.withHolds b noHolds).reportAxis b) (hhead (hc b rfl)) a)
      (fun _ _ _ => State.keeps_of_parts rfl rfl a c) (fun _ _ => State.keeps_of_parts rfl rfl a c) fun _ => .refl ..
  | travelled b p =>
    exact travelled_cases (P := fun k => s.keeps k.1 a c) (fun _ _ _ _ => enterDwell_keeps ..)
      (fun _ _ _ _ _ => (State.driveOn_keeps ..).trans (State.travelReport_keeps ..)) (fun _ _ _ _ _ => State.driveOn_keeps ..)
      fun _ => .refl ..
  | fault b k =>
    have hfaulted : s.keeps (s.enterFault b k) a c := State.keeps_of_parts rfl rfl a c
    refine fault_cases (P := fun k => s.keeps k.1 a c) (fun _ => State.keeps_of_parts rfl rfl a c) (fun _ _ => ?_) fun _ => .refl ..
    exact faultHead_cases (P := fun k => s.keeps k.1 a c) (fun _ _ _ => hfaulted)
      (fun d hd _ _ => hfaulted.trans (State.onContext_keeps (hother (hc b rfl) (hs.axis_of_head hd)) _ a _)) fun _ => hfaulted
  | endProgram d e =>
    cases hb : s.contexts[d].axis with
    | none => rw [handle, endProgram_free e hb]; exact .refl ..
    | some b =>
      by_cases hd : s.head b = some d ∧ s.contexts[d].state ≠ .queued
      · rw [handle, endProgram_executed e hb hd]
        exact (State.keeps_of_parts rfl rfl a c).trans (endAxis_keeps (s.reportEnd d b e) b a c)
      · rw [handle, endProgram_waiting e hb hd]
        exact State.keeps_of_parts rfl rfl a c
  | freeContext d e =>
    cases hb : s.contexts[d].axis with
    | none => rw [handle, freeContext_free e hb]; exact .refl ..
    | some b =>
      have hcb : s.contexts[c].axis ≠ some b := hc b hb
      have hba : some b ≠ some a := by rw [← hb]; exact hx
      have hne : a ≠ b := fun h => hba (congrArg some h.symm)
      have hreleased : s.keeps (s.release d b) a c :=
        ⟨s.release_context_other d b (hother hcb hb).symm, s.release_queue_other d b hne⟩
      by_cases he : e = .complete
      · subst he
        rw [handle, freeContext_complete hb]
        refine hreleased.trans ?_
        refine State.activateHead_cases (P := fun u => (s.release d b).keeps u a c) (fun f hf _ _ => ?_) fun _ => .refl ..
        have hfb := (hs.release hb).axis_of_head hf
        refine State.onContext_keeps (fun hfc => hcb ?_) _ a _
        rw [← hreleased.1, ← hfb, hfc]
      · rw [handle, freeContext_stops he hb]
        exact hreleased
  | press p n => exact absurd rfl (hpress p n)
  | _ => exact State.keeps_of_traffic (handle_traffic rfl s) a c

/-- Only a press takes a context into another queue; a signal that concerns another axis leaves the contexts of an axis whole. -/
theorem handle_keeps {x : Signal} (hs : s.bound) (hsteps : s.stepsOfHeads) (hpress : ∀ p n, x ≠ .press p n)
    (hx : x.concerns s ≠ some a) (hc : s.contexts[c].axis = some a) : s.keeps (handle x s).1 a c :=
  handle_leaves hs hsteps hpress hx fun b hb e => hx (by rw [hb, ← e, hc])

/-- A context without an axis stays whole until a press binds it. -/
theorem handle_free {x : Signal} (hs : s.bound) (hsteps : s.stepsOfHeads) (hpress : ∀ p n, x ≠ .press p n)
    (hc : s.contexts[c].axis = none) : (handle x s).1.contexts[c] = s.contexts[c] := by
  obtain ⟨a, ha⟩ : ∃ a, x.concerns s ≠ some a := by
    by_cases h : x.concerns s = some .hatch
    · exact ⟨.windlass, by rw [h]; decide⟩
    · exact ⟨.hatch, h⟩
  exact (handle_leaves hs hsteps hpress ha fun b _ => by rw [hc]; simp).1

/-- Only a press binds a context. -/
theorem handle_context_axis {x : Signal} (hpress : ∀ p n, x ≠ .press p n) (h : (handle x s).1.contexts[c].axis = some a) :
    s.contexts[c].axis = some a := by
  have hlinks (hl : (handle x s).1.links = s.links) : s.contexts[c].axis = some a := by rwa [State.axis_of_links hl] at h
  have hrestated (u : State) (d : Fin 16) (f : Context → Context) (hf : ∀ y, (f y).axis = y.axis)
      (hu : (u.onContext d f).contexts[c].axis = some a) : u.contexts[c].axis = some a := by
    by_cases hd : d = c
    · subst hd
      rwa [u.onContext_same d f, hf] at hu
    · rwa [u.onContext_other d c f hd] at hu
  cases x with
  | fault b k =>
    revert h
    refine fault_cases (P := fun j => j.1.contexts[c].axis = some a → _) (fun _ h => h) (fun _ _ => ?_) fun _ h => h
    exact faultHead_cases (P := fun j => j.1.contexts[c].axis = some a → _) (fun _ _ _ h => h)
      (fun d _ _ _ h => hrestated _ d (fun y => { y with state := .queued }) (fun _ => rfl) h) fun _ h => h
  | freeContext d e =>
    cases hb : s.contexts[d].axis with
    | none => rwa [handle, freeContext_free e hb] at h
    | some b =>
      have hreleased (h : (s.release d b).contexts[c].axis = some a) : s.contexts[c].axis = some a := by
        by_cases hd : c = d
        · subst hd
          rw [s.release_context_same c b] at h
          cases h
        · rwa [s.release_context_other d b hd] at h
      by_cases he : e = .complete
      · subst he
        rw [handle, freeContext_complete hb] at h
        revert h
        exact State.activateHead_cases (P := fun u => u.contexts[c].axis = some a → _)
          (fun f _ _ _ h => hreleased (hrestated _ f (fun y => { y with state := .active }) (fun _ => rfl) h)) fun _ h => hreleased h
      · rw [handle, freeContext_stops he hb] at h
        exact hreleased h
  | press p n => exact absurd rfl (hpress p n)
  | _ => exact hlinks (handle_links rfl s)

end Sys2Proof.Machine
end

section
/-! The law that binds the signals on their way to the queues of contexts (`Orderly`): a QUEUED head outside FAULT and an ACTIVE head in
FAULT have their end on the way, and until a context that ends is freed, nothing on the way takes its axis up again (R85, R95, R96,
R103, R112, R113). -/

namespace Sys2Proof.Machine

variable {s t : State} {a b : Axis} {c : Fin 16} {l : List Signal}

/-! ## Axes that wait for the end of a program -/

/-- An axis at rest without a step. -/
def AxisRecord.parked (r : AxisRecord) : Prop := r.current = none ∧ (r.state = .idle ∨ r.state = .stopping ∨ r.state = .fault)

/-- A signal that neither moves an axis at rest nor ends one of its programs. -/
def Signal.spares (s : State) (a : Axis) : Signal → Prop
  | .takeUp b | .fault b _ | .travelled b _ => b ≠ a
  | .endProgram c _ | .freeContext c _ => s.contexts[c].axis ≠ some a
  | .press _ _ => False
  | _ => True

theorem Signal.spares_of_mild {y : Signal} (h : y.mild = true) : y.spares s a := by
  cases y <;> first | exact trivial | cases h

theorem Signal.spares.not_press {x : Signal} (h : x.spares s a) (p : Fin 12) (n : Nat) : x ≠ .press p n := by
  rintro rfl
  exact h

section
variable {r : AxisRecord}

theorem AxisRecord.parked.takesReason (h : r.parked) : r.takesReason = false := by
  obtain ⟨hc, hs | hs | hs⟩ := h <;> simp [AxisRecord.takesReason, hs, hc]

theorem AxisRecord.parked.ne (h : r.parked) : r.state ≠ .preparing ∧ r.state ≠ .hold ∧ r.state ≠ .dwell ∧ r.state ≠ .moving := by
  obtain ⟨-, hs | hs | hs⟩ := h <;> simp [hs]

theorem AxisRecord.parked.withHolds (h : r.parked) (v : HoldSet) : AxisRecord.parked { r with holds := v } := h

end

/-- A record but for its hold set, which stays empty once it is. -/
def AxisRecord.stays (r q : AxisRecord) : Prop := ∃ v, q = { r with holds := v } ∧ (r.holds = noHolds → v = noHolds)

theorem AxisRecord.stays.refl (r : AxisRecord) : r.stays r := ⟨r.holds, rfl, id⟩

theorem AxisRecord.stays.trans {r q p : AxisRecord} (h : r.stays q) (k : q.stays p) : r.stays p := by
  obtain ⟨v, rfl, hv⟩ := h
  obtain ⟨w, rfl, hw⟩ := k
  exact ⟨w, rfl, fun e => hw (hv e)⟩

theorem AxisRecord.parked.of_stays {r q : AxisRecord} (h : r.parked) (k : r.stays q) : q.parked := by
  obtain ⟨v, rfl, -⟩ := k
  exact h

/-- Signals that spare an axis at rest leave its record, but that a hold set may shrink. -/
theorem handle_parked {x : Signal} (h : (s.axis a).parked) (hx : x.spares s a) : (s.axis a).stays ((handle x s).1.axis a) := by
  by_cases hc : x.concerns s = some a
  · obtain ⟨hprep, hhold, hdwell, hmoving⟩ := h.ne
    cases x with
    | endEntry b =>
      obtain rfl := Option.some.inj hc
      rw [handle, endEntry, if_neg hprep]
      exact .refl _
    | testGates b =>
      obtain rfl := Option.some.inj hc
      exact testGates_cases (P := fun k => (s.axis b).stays (k.1.axis b)) (fun _ _ e => absurd e hprep) (fun _ _ e => absurd e hprep)
        fun _ => .refl _
    | endDwell b =>
      obtain rfl := Option.some.inj hc
      exact endDwell_cases (P := fun k => (s.axis b).stays (k.1.axis b)) (fun _ e => absurd e hdwell) (fun _ e => absurd e hdwell)
        (.refl _)
    | addHold b r =>
      obtain rfl := Option.some.inj hc
      exact addHold_cases (P := fun t => (s.axis b).stays (t.axis b)) (fun e => absurd e hmoving) (fun e => absurd e hdwell)
        (fun _ _ e => by rw [h.takesReason] at e; cases e) fun _ => .refl _
    | removeHold b r =>
      obtain rfl := Option.some.inj hc
      refine removeHold_cases (P := fun k => (s.axis b).stays (k.1.axis b)) (fun _ _ e => absurd e hhold) (fun _ _ e => absurd e hprep)
        (fun hr _ => ⟨(s.axis b).holds.put r false, s.withHolds_axis b _, fun e => ?_⟩) fun _ => .refl _
      rw [e, noHolds_has] at hr
      cases hr
    | takeUp b | travelled b p | fault b k => exact absurd (Option.some.inj hc) hx
    | endProgram c e | freeContext c e => exact absurd hc hx
    | _ => cases hc
  · rw [handle_axis_other x s hc]
    exact .refl _

/-- What a signal sends spares an axis out of HOLD and DWELL with it. -/
theorem Sends.spares_of {x y : Signal} (hy : Sends s x y) (hs : s.bound) (hsteps : s.stepsOfHeads) (hhold : (s.axis a).state ≠ .hold)
    (hdwell : (s.axis a).state ≠ .dwell) (hx : x.spares s a) : y.spares (handle x s).1 a := by
  have hpress := hx.not_press
  have hends {d : Fin 16} {b : Axis} (hb : b ≠ a) (hd : s.contexts[d].axis = some b) :
      (handle x s).1.contexts[d].axis ≠ some a := fun e => by
    have := handle_context_axis hpress e
    rw [hd] at this
    exact hb (Option.some.inj this)
  have hfreed {d : Fin 16} (hd : s.contexts[d].axis ≠ some a) : (handle x s).1.contexts[d].axis ≠ some a := fun e =>
    hd (handle_context_axis hpress e)
  cases hy with
  | mild hm => exact Signal.spares_of_mild hm
  | takenUp | travelled => exact hx
  | resumed hb =>
    rintro rfl
    exact hhold hb
  | stepEnds hb hcur =>
    refine hends (fun e => ?_) (hs.axis_of_head (hsteps _ _ hcur))
    subst e
    exact hdwell hb
  | headFaults hb => exact hends hx (hs.axis_of_head hb)
  | frees hb => exact hfreed hx
  | next hb =>
    rintro rfl
    exact hx hb
  | abandons hb hmem =>
    refine hends (fun e => ?_) ((hs.mem _ _).1 hmem)
    subst e
    exact hx hb
  | starts => exact absurd rfl (hpress _ _)

/-- What a signal sends spares an axis at rest with it. -/
theorem Sends.spares {x y : Signal} (hy : Sends s x y) (hs : s.bound) (hsteps : s.stepsOfHeads) (h : (s.axis a).parked)
    (hx : x.spares s a) : y.spares (handle x s).1 a := hy.spares_of hs hsteps h.ne.2.1 h.ne.2.2.1 hx

/-! ## Order -/

/-- The end of a context is on its way. -/
def ending (l : List Signal) (c : Fin 16) : Prop := ∃ e, .endProgram c e ∈ l ∨ .freeContext c e ∈ l

theorem ending.mono {k : List Signal} (h : ending l c) (hk : l ⊆ k) : ending k c := h.imp fun _ => .imp (@hk _) (@hk _)

/-- The head of an axis and its current step are as `State.headLaw` says, or the end of the head is on its way. -/
structure State.headOwed (s : State) (l : List Signal) (a : Axis) : Prop where
  queued : ∀ c, s.head a = some c → s.contexts[c].state = .queued → (s.axis a).parked ∧ ((s.axis a).state = .fault ∨ ending l c)
  faulted : ∀ c, s.head a = some c → (s.axis a).state = .fault → s.contexts[c].state = .active → ending l c
  resting : (s.axis a).state = .idle ∨ (s.axis a).state = .fault → (s.axis a).current = none
  current : ∀ x, (s.axis a).current = some x →
    s.head a = some x.context ∧ (s.contexts[x.context].state = .active ∨ s.contexts[x.context].state = .closing)

/-- A context that is freed after some signals is bound; its axis, where it is the head, is at rest, and the signals spare it. -/
def State.freesAfter (s : State) (before : List Signal) (c : Fin 16) : Prop :=
  ∃ a, s.contexts[c].axis = some a ∧ (s.head a = some c → (s.axis a).parked)
    ∧ (before ≠ [] → (s.axis a).parked ∧ ∀ y ∈ before, y.spares s a)

/-- The signals on their way and the queues of contexts fit together. -/
structure Orderly (l : List Signal) (s : State) : Prop where
  bound : s.bound
  frees : ∀ before c e behind, l = before ++ .freeContext c e :: behind → s.freesAfter before c
  owed : ∀ a, s.headOwed l a

theorem Orderly.steps (h : Orderly l s) : s.stepsOfHeads := fun a x hx => ((h.owed a).current x hx).1

/-- Nothing on the way frees a context. -/
def noneFreed (l : List Signal) : Prop := ∀ c e, .freeContext c e ∉ l

theorem State.headOwed_of_headLaw (h : s.headLaw) (l : List Signal) (a : Axis) : s.headOwed l a := by
  obtain ⟨hheads, hresting, hcurrent⟩ := h
  refine ⟨fun c hc hq => ?_, fun c hc hf hact => absurd hact ((hheads a c hc).2 hf), hresting a, hcurrent a⟩
  have hfault := (hheads a c hc).1 hq
  exact ⟨⟨hresting a (.inr hfault), .inr (.inr hfault)⟩, .inl hfault⟩

/-- The law of heads is the order of a state with no signal on the way. -/
theorem State.headLaw_iff (hs : s.bound) : s.headLaw ↔ Orderly [] s := by
  refine ⟨fun h => ⟨hs, fun _ _ _ _ he => by simp at he, State.headOwed_of_headLaw h []⟩, fun h => ?_⟩
  refine ⟨fun a c hc => ⟨fun hq => ?_, fun hf hact => ?_⟩, fun a => (h.owed a).resting, fun a => (h.owed a).current⟩
  · obtain ⟨-, hf | ⟨e, he | he⟩⟩ := (h.owed a).queued c hc hq
    · exact hf
    all_goals cases he
  · obtain ⟨e, he | he⟩ := (h.owed a).faulted c hc hf hact <;> cases he

theorem noneFreed_append {k : List Signal} (hl : noneFreed l) (hk : noneFreed k) : noneFreed (l ++ k) := fun c e h =>
  (List.mem_append.1 h).elim (hl c e) (hk c e)

/-- An order in which nothing on the way frees a context. -/
theorem Orderly.of_noneFreed (hs : s.bound) (h : ∀ a, s.headOwed l a) (hl : noneFreed l) : Orderly l s :=
  ⟨hs, fun _ c e _ he => absurd (he ▸ List.mem_append_right _ List.mem_cons_self) (hl c e), h⟩

/-! ## Signals in order -/

/-- The end of a context stays on its way until the context is freed. -/
theorem ending.step {x : Signal} (h : ending (x :: l) c) (hc : s.contexts[c].axis = some a) (hx : ∀ e, x ≠ .freeContext c e) :
    ending ((handle x s).2 ++ l) c := by
  obtain ⟨e, he | he⟩ := h
  · rcases List.mem_cons.1 he with rfl | he
    · refine ⟨e, .inr (List.mem_append_left _ ?_)⟩
      by_cases hd : s.head a = some c ∧ s.contexts[c].state ≠ .queued
      · rw [handle, endProgram_executed e hc hd]
        simp
      · rw [handle, endProgram_waiting e hc hd]
        simp
    · exact ⟨e, .inl (List.mem_append_right _ he)⟩
  · rcases List.mem_cons.1 he with he | he
    · exact absurd he.symm (hx e)
    · exact ⟨e, .inr (List.mem_append_right _ he)⟩

/-- Signals that spare an axis at rest leave its contexts and its queue. -/
theorem handle_spared {x : Signal} (hs : s.bound) (hsteps : s.stepsOfHeads) (h : (s.axis a).parked) (hx : x.spares s a)
    (hc : s.contexts[c].axis = some a) : s.keeps (handle x s).1 a c := by
  by_cases ha : x.concerns s = some a
  · obtain ⟨hprep, hhold, hdwell, hmoving⟩ := h.ne
    cases x with
    | endEntry b => simp only [handle, endEntry]; split <;> exact .refl ..
    | testGates b =>
      obtain rfl := Option.some.inj ha
      exact testGates_cases (P := fun k => s.keeps k.1 b c) (fun _ _ e => absurd e hprep) (fun _ _ e => absurd e hprep)
        fun _ => .refl ..
    | endDwell b =>
      obtain rfl := Option.some.inj ha
      exact endDwell_cases (P := fun k => s.keeps k.1 b c) (fun _ e => absurd e hdwell) (fun _ e => absurd e hdwell) (.refl ..)
    | addHold b r =>
      obtain rfl := Option.some.inj ha
      exact addHold_cases (P := fun t => s.keeps t b c) (fun e => absurd e hmoving) (fun e => absurd e hdwell)
        (fun _ _ _ _ => .refl ..) fun _ => .refl ..
    | removeHold b r =>
      obtain rfl := Option.some.inj ha
      exact removeHold_cases (P := fun k => s.keeps k.1 b c) (fun _ _ e => absurd e hhold) (fun _ _ e => absurd e hprep)
        (fun _ _ => .refl ..) fun _ => .refl ..
    | takeUp b | travelled b p | fault b k => exact absurd (Option.some.inj ha) hx
    | endProgram c e | freeContext c e => exact absurd ha hx
    | _ => cases ha
  · exact handle_keeps hs hsteps hx.not_press ha hc

/-- A signal spares an axis still when no context has joined it. -/
theorem Signal.spares.mono {y : Signal} (h : y.spares s a) (ht : ∀ d : Fin 16, t.contexts[d].axis = some a → s.contexts[d].axis = some a) :
    y.spares t a := by
  cases y with
  | endProgram d e | freeContext d e => exact fun hd => h (ht d hd)
  | _ => exact h

/-- A context that is freed later is freed after the signals that the first one sends. -/
theorem State.freesAfter.step {x : Signal} {before : List Signal} (h : s.freesAfter (x :: before) c) (hs : s.bound)
    (hsteps : s.stepsOfHeads) : (handle x s).1.freesAfter ((handle x s).2 ++ before) c := by
  obtain ⟨a, hc, -, hbefore⟩ := h
  obtain ⟨hparked, hspares⟩ := hbefore (by simp)
  have hx := hspares x List.mem_cons_self
  have hstays := hparked.of_stays (handle_parked hparked hx)
  obtain ⟨hcontext, -⟩ := handle_spared hs hsteps hparked hx hc
  refine ⟨a, by rw [hcontext, hc], fun _ => hstays, fun _ => ⟨hstays, fun y hy => ?_⟩⟩
  rcases List.mem_append.1 hy with hy | hy
  · exact (handle_sends x s y hy).spares hs hsteps hparked hx
  · exact (hspares y (List.mem_cons_of_mem _ hy)).mono fun d => handle_context_axis hx.not_press

/-! ## Heads and current steps in order -/

theorem State.oldestStep_context {x : CurrentStep} (h : s.oldestStep a = some x) : s.head a = some x.context := by
  obtain ⟨d, hd, hx⟩ := Option.bind_eq_some_iff.1 h
  obtain ⟨y, -, rfl⟩ := Option.map_eq_some_iff.1 hx
  exact hd

/-- A record that keeps the order of heads, where the queues stay bound as they are. -/
structure State.heads (s : State) (a : Axis) (q : AxisRecord) : Prop where
  fault : q.state = .fault ↔ (s.axis a).state = .fault
  resting : q.state = .idle ∨ q.state = .fault → q.current = none
  current : ∀ x, q.current = some x → s.head a = some x.context ∧ (s.contexts[x.context].state = .active ∨ s.contexts[x.context].state = .closing)
  parked : ∀ c, s.head a = some c → s.contexts[c].state = .queued → (s.axis a).parked → q.parked

section
variable (h : s.headOwed l a)
include h

theorem State.headOwed.heads_refl : s.heads a (s.axis a) := ⟨.rfl, h.resting, h.current, fun _ _ _ => id⟩

/-- The head of an axis that is not at rest is ACTIVE or CLOSING. -/
theorem State.headOwed.head_runs (hs : s.bound) (hp : ¬ (s.axis a).parked) (hc : s.head a = some c) :
    s.contexts[c].state = .active ∨ s.contexts[c].state = .closing := by
  cases hstate : s.contexts[c].state with
  | free => exact absurd hstate (hs.head_ne_free hc)
  | queued => exact absurd (h.queued c hc hstate).1 hp
  | active => exact .inl rfl
  | closing => exact .inr rfl

/-- A record that stays out of IDLE and FAULT, and keeps its step or takes the oldest. -/
theorem State.headOwed.heads_moves (hs : s.bound) {q : AxisRecord} (hsf : (s.axis a).state ≠ .fault) (hqf : q.state ≠ .fault)
    (hqi : q.state ≠ .idle) (hp : ¬ (s.axis a).parked)
    (hcur : ∀ x, q.current = some x → (s.axis a).current = some x ∨ s.head a = some x.context) : s.heads a q where
  fault := iff_of_false hqf hsf
  resting hi := (hi.elim hqi hqf).elim
  current x hx := (hcur x hx).elim (h.current x) fun hc => ⟨hc, h.head_runs hs hp hc⟩
  parked _ _ _ e := absurd e hp

/-- A record whose state and step stay. -/
theorem State.headOwed.heads_same {q : AxisRecord} (hstate : q.state = (s.axis a).state) (hcur : q.current = (s.axis a).current) :
    s.heads a q where
  fault := by rw [hstate]
  resting hi := by rw [hcur]; exact h.resting (by rwa [← hstate])
  current x hx := h.current x (hcur ▸ hx)
  parked _ _ _ := fun ⟨hc, hs⟩ => ⟨hcur.trans hc, by rwa [hstate]⟩

end

theorem AxisRecord.not_parked {r : AxisRecord} (h : r.state = .preparing ∨ r.state = .hold ∨ r.state = .dwell ∨ r.state = .moving) :
    ¬ r.parked := fun hp => by
  obtain ⟨h1, h2, h3, h4⟩ := hp.ne
  rcases h with h | h | h | h
  exacts [h1 h, h2 h, h3 h, h4 h]

theorem nextStep_heads {d : Fin 16} (hs : s.bound) (h : s.headOwed l a) (hdwell : (s.axis a).state = .dwell) :
    s.heads a ((nextStep a d (s.onContext d Context.stepDone)).1.axis a) := by
  have hp := AxisRecord.not_parked (.inr (.inr (.inl hdwell)))
  have hold (x : CurrentStep) (hx : (((s.onContext d Context.stepDone).nextTaken a).axis a).current = some x) :
      (s.axis a).current = some x ∨ s.head a = some x.context := by
    rw [State.nextTaken_axis] at hx
    exact (Option.or_eq_some_iff.1 hx).elim (fun e => .inr (State.oldestStep_context (s := s.onContext d Context.stepDone) e))
      fun e => .inl e.2
  have hmoves {q : AxisRecord} (hqf : q.state ≠ .fault) (hqi : q.state ≠ .idle)
      (hcur : q.current = (((s.onContext d Context.stepDone).nextTaken a).axis a).current ∨ q.current = none) : s.heads a q :=
    h.heads_moves hs (by simp [hdwell]) hqf hqi hp fun x hx => by
      rcases hcur with e | e
      · exact hold x (e ▸ hx)
      · rw [e] at hx; cases hx
  refine nextStep_cases (P := fun k => s.heads a (k.1.axis a)) (fun _ => hmoves (by simp) (by simp) (.inr (by simp)))
    (fun _ => hmoves (by simp [hdwell]) (by simp [hdwell]) (.inl rfl)) (fun x hx => hmoves (by simp) (by simp) (.inl (by simp)))
    (fun x hx _ => ?_) fun _ => hmoves (by simp) (by simp) (.inl (by simp))
  rw [enterMoving_axis a hx]
  exact hmoves (by simp) (by simp) (.inl rfl)

/-- An axis that prepares with its own step, or with the oldest of a head that runs. -/
theorem State.headOwed.heads_entered {u : State} (h : s.headOwed l a) (hsf : (s.axis a).state ≠ .fault)
    (hruns : ∀ c, s.head a = some c → s.contexts[c].state = .active ∨ s.contexts[c].state = .closing)
    (hcur : (u.axis a).current = (s.axis a).current) (hold : u.oldestStep a = s.oldestStep a) :
    s.heads a ((enterPreparing a u).1.axis a) := by
  rw [enterPreparing_axis, State.entered_axis]
  refine ⟨iff_of_false (by simp) hsf, by simp, fun x hx => ?_, fun c hc hq _ => ?_⟩
  · rw [hcur, hold] at hx
    rcases Option.or_eq_some_iff.1 hx with hx | ⟨-, hx⟩
    · exact h.current x hx
    · exact ⟨State.oldestStep_context hx, hruns _ (State.oldestStep_context hx)⟩
  · rcases hruns c hc with e | e <;> rw [hq] at e <;> cases e

/-- The end of the program that an axis executes takes it to rest. -/
theorem endAxis_heads (h : s.headOwed l a) : s.heads a ((endAxis a s).1.axis a) := by
  have hparked {q : AxisRecord} (hsf : (s.axis a).state ≠ .fault) (hc : q.current = none)
      (hq : q.state = .idle ∨ q.state = .stopping) : s.heads a q :=
    ⟨iff_of_false (by rcases hq with e | e <;> simp [e]) hsf, fun _ => hc, fun x hx => (by rw [hc] at hx; cases hx),
      fun _ _ _ _ => ⟨hc, hq.imp_right .inl⟩⟩
  have hwaits (hs : (s.axis a).state = .preparing ∨ (s.axis a).state = .dwell ∨ (s.axis a).state = .hold) :
      s.heads a ((endAxis a s).1.axis a) := by
    rw [endAxis_waits hs]
    exact hparked (by rcases hs with e | e | e <;> simp [e]) (by simp [AxisRecord.released]) (.inl (by simp))
  cases hs : (s.axis a).state with
  | preparing => exact hwaits (.inl hs)
  | dwell => exact hwaits (.inr (.inl hs))
  | hold => exact hwaits (.inr (.inr hs))
  | moving =>
    rw [endAxis_moves hs]
    exact hparked (by simp [hs]) (by simp [AxisRecord.released]) (.inr (by simp))
  | stopping =>
    have hreleased : s.heads a (s.axis a).released := hparked (by simp [hs]) rfl (.inr hs)
    rw [endAxis_stops hs]
    dsimp only
    split
    · rw [State.onAxis_axis_same]; exact hreleased
    · rw [State.reportAxis_axis, State.onAxis_axis_same]; exact hreleased
  | idle => rw [endAxis_idle hs]; exact h.heads_refl
  | fault => rw [endAxis_fault hs]; exact h.heads_refl

/-- Signals that leave the queues bound keep heads and current steps in order. -/
theorem handle_heads {x : Signal} (hx : x.keepsLinks = true) (hs : s.bound) (h : s.headOwed l a) :
    s.heads a ((handle x s).1.axis a) := by
  have hmoves {q : AxisRecord} (hstate : (s.axis a).state = .preparing ∨ (s.axis a).state = .hold ∨ (s.axis a).state = .dwell
      ∨ (s.axis a).state = .moving) (hqf : q.state ≠ .fault) (hqi : q.state ≠ .idle) (hcur : q.current = (s.axis a).current) :
      s.heads a q :=
    h.heads_moves hs (by rcases hstate with e | e | e | e <;> simp [e]) hqf hqi (AxisRecord.not_parked hstate)
      fun x hx => .inl (hcur ▸ hx)
  by_cases hc : x.concerns s = some a
  · cases x with
    | takeUp b =>
      obtain rfl := Option.some.inj hc
      refine takeUp_cases (P := fun k => s.heads b (k.1.axis b)) (fun c hhead hidle hactive _ => ?_) h.heads_refl
      refine h.heads_entered (by simp [hidle]) (fun d hd => ?_) rfl rfl
      obtain rfl := Option.some.inj (hhead.symm.trans hd)
      exact .inl hactive
    | endEntry b =>
      obtain rfl := Option.some.inj hc
      simp only [handle, endEntry]
      split
      · exact h.heads_same (by simp) (by simp)
      · exact h.heads_refl
    | testGates b =>
      obtain rfl := Option.some.inj hc
      refine testGates_cases (P := fun k => s.heads b (k.1.axis b)) (fun _ _ hs _ _ _ => ?_) (fun x hx hs _ _ _ => ?_)
        fun _ => h.heads_refl
      · exact hmoves (.inl hs) (by simp) (by simp) (by simp [AxisRecord.gatesPassed])
      · rw [enterMoving_axis b (x := x) (by simpa [AxisRecord.gatesPassed] using hx)]
        exact hmoves (.inl hs) (by simp) (by simp) (by simp [AxisRecord.gatesPassed])
    | endDwell b =>
      obtain rfl := Option.some.inj hc
      exact endDwell_cases (P := fun k => s.heads b (k.1.axis b)) (fun _ _ _ _ => h.heads_refl)
        (fun _ hdwell _ => nextStep_heads hs h hdwell) h.heads_refl
    | addHold b r =>
      obtain rfl := Option.some.inj hc
      exact addHold_cases (P := fun t => s.heads b (t.axis b))
        (fun hm _ => hmoves (.inr (.inr (.inr hm))) (by simp) (by simp) (by simp))
        (fun hd _ => hmoves (.inr (.inr (.inl hd))) (by simp) (by simp) (by simp))
        (fun _ _ _ _ => h.heads_same (by simp) (by simp)) fun _ => h.heads_refl
    | removeHold b r =>
      obtain rfl := Option.some.inj hc
      refine removeHold_cases (P := fun k => s.heads b (k.1.axis b)) (fun _ _ hh => ?_)
        (fun _ _ _ => h.heads_same (by simp) (by simp)) (fun _ _ => h.heads_same (by simp) (by simp)) fun _ => h.heads_refl
      exact h.heads_entered (by simp [hh]) (fun c => h.head_runs hs (AxisRecord.not_parked (.inr (.inl hh)))) (by simp) rfl
    | travelled b p =>
      obtain rfl := Option.some.inj hc
      exact travelled_cases (P := fun k => s.heads b (k.1.axis b))
        (fun _ hm _ _ => hmoves (.inr (.inr (.inr hm))) (by simp) (by simp) (by simp))
        (fun _ _ _ _ _ => h.heads_same ((travelReport_state _).trans (driveOn_state _))
          ((travelReport_current _).trans (driveOn_current _)))
        (fun _ _ _ _ _ => h.heads_same (driveOn_state _) (driveOn_current _)) fun _ => h.heads_refl
    | endProgram c e =>
      by_cases hd : s.head a = some c ∧ s.contexts[c].state ≠ .queued
      · rw [handle, endProgram_executed e hc hd]
        obtain ⟨hfault, hresting, hcurrent, hparked⟩ :=
          endAxis_heads (s := s.reportEnd c a e) ⟨h.queued, h.faulted, h.resting, h.current⟩
        exact ⟨hfault, hresting, hcurrent, hparked⟩
      · rw [handle, endProgram_waiting e hc hd]
        exact h.heads_refl
    | fault _ _ | freeContext _ _ | press _ _ => cases hx
    | _ => cases hc
  · rw [handle_axis_other x s hc]
    exact h.heads_refl

end Sys2Proof.Machine
end

section
/-! Every signal keeps the order of the signals on their way and the queues (`Orderly`), so that an event that settles leaves heads and
current steps as `State.headLaw` says (R85, R95, R96, R103). -/

namespace Sys2Proof.Machine

variable {s t : State} {a b : Axis} {c : Fin 16} {l k : List Signal}

/-! ## Heads and current steps, signal by signal -/

/-- Where the queues stay bound, the order of heads goes on with the new record. -/
theorem State.headOwed.of_heads (h : s.headOwed l a) (hl : t.links = s.links) (hq : s.heads a (t.axis a))
    (hend : ∀ c, s.head a = some c → ending l c → ending k c) : t.headOwed k a where
  queued c hc hstate := by
    rw [State.head_of_links hl] at hc
    rw [State.state_of_links hl] at hstate
    obtain ⟨hparked, hf⟩ := h.queued c hc hstate
    exact ⟨hq.parked c hc hstate hparked, hf.imp hq.fault.2 (hend c hc)⟩
  faulted c hc hf hactive := by
    rw [State.head_of_links hl] at hc
    rw [State.state_of_links hl] at hactive
    exact hend c hc (h.faulted c hc (hq.fault.1 hf) hactive)
  resting := hq.resting
  current x hx := by
    rw [State.head_of_links hl, State.state_of_links hl]
    exact hq.current x hx

/-- The order of heads of an axis whose record, queue and head stay. -/
theorem State.headOwed.of_same (h : s.headOwed l a) (haxis : t.axis a = s.axis a) (hqueue : t.queue a = s.queue a)
    (hhead : ∀ c, s.head a = some c → t.contexts[c] = s.contexts[c]) (hend : ∀ c, s.head a = some c → ending l c → ending k c) :
    t.headOwed k a := by
  have hsame : t.head a = s.head a := congrArg List.head? hqueue
  refine ⟨fun c hc hstate => ?_, fun c hc hf hactive => ?_, fun hr => ?_, fun x hx => ?_⟩
  · rw [hsame] at hc
    rw [hhead c hc] at hstate
    rw [haxis]
    exact (h.queued c hc hstate).imp_right (.imp_right (hend c hc))
  · rw [hsame] at hc
    rw [hhead c hc] at hactive
    rw [haxis] at hf
    exact hend c hc (h.faulted c hc hf hactive)
  · rw [haxis] at hr ⊢
    exact h.resting hr
  · rw [haxis] at hx
    obtain ⟨hc, hstate⟩ := h.current x hx
    rw [hsame, hhead _ hc]
    exact ⟨hc, hstate⟩

theorem ending.tail {x : Signal} (h : ending (x :: l) c) (hx : ∀ e, x ≠ .endProgram c e ∧ x ≠ .freeContext c e) (more : List Signal) :
    ending (more ++ l) c := by
  obtain ⟨e, he | he⟩ := h
  · exact ⟨e, .inl (List.mem_append_right _ ((List.mem_cons.1 he).resolve_left (hx e).1.symm))⟩
  · exact ⟨e, .inr (List.mem_append_right _ ((List.mem_cons.1 he).resolve_left (hx e).2.symm))⟩

/-- A fault takes its axis out of its program, whose end is then on its way, or makes the head wait (R85). -/
theorem fault_owed (hs : s.bound) {kind : FaultKind} (h : ∀ b, s.headOwed (.fault a kind :: l) b) (b : Axis) :
    (fault a kind s).1.headOwed ((fault a kind s).2 ++ l) b := by
  have hend (c : Fin 16) (more : List Signal) (hc : ending (.fault a kind :: l) c) : ending (more ++ l) c := hc.tail (by simp) more
  have hfaulted : (s.enterFault a kind).bound := hs.of_links (s.enterFault_links a kind)
  by_cases hb : b = a
  swap
  · refine fault_cases (P := fun j => j.1.headOwed (j.2 ++ l) b) (fun _ => ?_) (fun _ _ => ?_) fun _ => ?_
    · exact (h b).of_same (State.onAxis_axis_other _ _ _ _ hb) rfl (fun _ _ => rfl) fun c _ => hend c _
    · refine faultHead_cases (P := fun j => j.1.headOwed ((j.2 ++ s.afterFault a kind) ++ l) b) (fun _ _ _ => ?_)
        (fun c hc _ _ => ?_) fun _ => ?_
      · exact (h b).of_same (enterFault_axis_other s kind hb) rfl (fun _ _ => rfl) fun c _ => hend c _
      · refine (h b).of_same (enterFault_axis_other s kind hb) rfl (fun d hd => State.onContext_other _ _ _ _ fun e => hb ?_)
          fun c _ => hend c _
        have hca := hs.axis_of_head (a := a) hc
        rw [e, hs.axis_of_head hd] at hca
        exact Option.some.inj hca
      · exact (h b).of_same (enterFault_axis_other s kind hb) rfl (fun _ _ => rfl) fun c _ => hend c _
    · exact (h b).of_same rfl rfl (fun _ _ => rfl) fun c _ => hend c _
  subst hb
  have hstate : ((s.enterFault b kind).axis b).state = .fault := by rw [State.enterFault_axis]
  have hcurrent : ((s.enterFault b kind).axis b).current = none := by rw [State.enterFault_axis]
  have hparked : ((s.enterFault b kind).axis b).parked := ⟨hcurrent, .inr (.inr hstate)⟩
  have hentered {u : State} {m : List Signal} (hu : u.axis b = (s.enterFault b kind).axis b)
      (hactive : ∀ c, u.head b = some c → u.contexts[c].state = .active → ending m c) : u.headOwed m b := by
    refine ⟨fun _ _ _ => ?_, fun c hc _ ha => hactive c hc ha, fun _ => ?_, fun x hx => ?_⟩
    · rw [hu]; exact ⟨hparked, .inl hstate⟩
    · rw [hu]; exact hcurrent
    · rw [hu, hcurrent] at hx; cases hx
  refine fault_cases (P := fun j => j.1.headOwed (j.2 ++ l) b) (fun _ => ?_) (fun _ _ => ?_) fun _ => ?_
  · exact (h b).of_heads rfl ((h b).heads_same (by simp) (by simp)) fun c _ => hend c _
  · refine faultHead_cases (P := fun j => j.1.headOwed ((j.2 ++ s.afterFault b kind) ++ l) b) (fun c hc _ => ?_) (fun c hc _ _ => ?_)
      fun hnot => ?_
    · refine hentered rfl fun d hd _ => ⟨.faulted, .inl ?_⟩
      obtain rfl := Option.some.inj (hc.symm.trans hd)
      simp
    · refine hentered rfl fun d hd ha => ?_
      obtain rfl := Option.some.inj (hc.symm.trans hd)
      rw [State.onContext_same] at ha
      cases ha
    · exact hentered rfl fun c hc ha => absurd ha (hnot c hc).2
  · exact (h b).of_heads rfl (h b).heads_refl fun c _ => hend c _

/-- The head of a queue that a context leaves: the old one, or, where that was the head, the QUEUED one behind it. -/
theorem State.release_head (hs : s.bound) (hc : s.contexts[c].axis = some a) {d : Fin 16} (hd : (s.release c a).head a = some d) :
    (s.head a = some d ∧ d ≠ c)
      ∨ (s.head a = some c ∧ d ≠ c ∧ s.contexts[d].state = .queued ∧ d ∈ behindIn c (s.queue a)) := by
  have hmem : d ∈ (s.release c a).queue a := List.mem_of_head? hd
  rw [s.release_queue_same] at hmem
  obtain ⟨hdq, hdc⟩ := List.mem_filter.1 hmem
  replace hdc : d ≠ c := of_decide_eq_true hdc
  rw [State.head, s.release_queue_same] at hd
  have hnodup := hs.nodup a
  cases hq : s.queue a with
  | nil => rw [hq] at hdq; cases hdq
  | cons f rest =>
    rw [hq] at hd hnodup hdq
    have hhead : s.head a = some f := by rw [State.head, hq]; rfl
    by_cases hf : f = c
    · subst hf
      have hfilter : rest.filter (· ≠ f) = rest :=
        List.filter_eq_self.2 fun e he => decide_eq_true fun h => (List.nodup_cons.1 hnodup).1 (h ▸ he)
      refine .inr ⟨hhead, hdc, ?_, ?_⟩
      · have hda := (hs.mem d a).1 (by rw [hq]; exact hdq)
        cases hstate : s.contexts[d].state with
        | queued => rfl
        | free => rw [(hs.free d).1 hstate] at hda; cases hda
        | active => exact absurd (Option.some.inj (hhead.symm.trans (hs.head d a (.inl hstate) hda))).symm hdc
        | closing => exact absurd (Option.some.inj (hhead.symm.trans (hs.head d a (.inr hstate) hda))).symm hdc
      · simpa [behindIn] using (List.mem_cons.1 hdq).resolve_left hdc
    · rw [List.filter_cons_of_pos (by simpa using hf)] at hd
      exact .inl ⟨hhead.trans hd, hdc⟩

theorem State.release_head_other {d : Fin 16} (hd : s.head a = some d) (h : d ≠ c) : (s.release c a).head a = some d := by
  obtain ⟨rest, hrest⟩ := List.head?_eq_some_iff.1 hd
  rw [State.head, s.release_queue_same, hrest, List.filter_cons_of_pos (by simpa using h)]
  rfl

@[simp] theorem State.activateHead_queues (s : State) (a : Axis) : (s.activateHead a).queues = s.queues := by
  unfold State.activateHead
  (repeat' split) <;> rfl

/-- A freed context leaves a head that is ACTIVE, or waits in FAULT, or ends (R112, R113). -/
theorem freeContext_owed (hs : s.bound) {e : EndStatus} (h : ∀ b, s.headOwed (.freeContext c e :: l) b)
    (hfrees : s.freesAfter [] c) (b : Axis) :
    (freeContext c e s).1.headOwed ((freeContext c e s).2 ++ l) b := by
  obtain ⟨a, hc, hparked, -⟩ := hfrees
  have hend (d : Fin 16) (hd : d ≠ c) (more : List Signal) (h : ending (.freeContext c e :: l) d) : ending (more ++ l) d :=
    h.tail (fun f => ⟨by simp, fun e => by cases e; exact hd rfl⟩) more
  have hsteps : s.stepsOfHeads := fun b x hx => ((h b).current x hx).1
  by_cases hb : b = a
  swap
  · have hqueue : (freeContext c e s).1.queue b = s.queue b := by
      by_cases he : e = .complete
      · subst he
        rw [freeContext_complete hc, State.queue_congr (State.activateHead_queues ..)]
        exact s.release_queue_other c a hb
      · rw [freeContext_stops he hc]
        exact s.release_queue_other c a hb
    have hconcerns : (Signal.freeContext c e).concerns s ≠ some b := fun e => hb (Option.some.inj (e.symm.trans hc))
    refine (h b).of_same (handle_axis_other (.freeContext c e) s hconcerns) hqueue (fun d hd => ?_) fun d hd => hend d ?_ _
    · exact (handle_keeps hs hsteps (by simp) hconcerns (hs.axis_of_head hd)).1
    · rintro rfl
      exact hconcerns (hs.axis_of_head hd)
  subst hb
  have hsame {d : Fin 16} (hd : d ≠ c) : (s.release c b).contexts[d] = s.contexts[d] := s.release_context_other c b hd
  have hrests {d : Fin 16} (hd : (s.release c b).head b = some d) (hq : (s.release c b).contexts[d].state = .queued) :
      (s.axis b).parked := by
    rcases State.release_head hs hc hd with ⟨hhead, hdc⟩ | ⟨hhead, -⟩
    · rw [hsame hdc] at hq
      exact ((h b).queued d hhead hq).1
    · exact hparked hhead
  have hfaulted (more : List Signal) (d : Fin 16) (hd : (s.release c b).head b = some d) (hf : (s.axis b).state = .fault)
      (ha : (s.release c b).contexts[d].state = .active) : ending (more ++ l) d := by
    rcases State.release_head hs hc hd with ⟨hhead, hdc⟩ | ⟨-, hdc, hq, -⟩
    · rw [hsame hdc] at ha
      exact hend d hdc more ((h b).faulted d hhead hf ha)
    · rw [hsame hdc, hq] at ha
      cases ha
  have hcurrent (x : CurrentStep) (hx : (s.axis b).current = some x) : (s.release c b).head b = some x.context
      ∧ ((s.release c b).contexts[x.context].state = .active ∨ (s.release c b).contexts[x.context].state = .closing) := by
    obtain ⟨hhead, hstate⟩ := (h b).current x hx
    have hxc : x.context ≠ c := fun e => by
      have hnone := (hparked (e ▸ hhead)).1
      rw [hnone] at hx
      cases hx
    rw [hsame hxc]
    exact ⟨State.release_head_other hhead hxc, hstate⟩
  by_cases he : e = .complete
  · subst he
    rw [freeContext_complete hc]
    refine State.activateHead_cases (P := fun u => u.headOwed ([.takeUp b] ++ l) b) (fun d hd hq hf => ?_) fun hq => ?_
    · have hnone := (hrests hd hq).1
      refine ⟨fun f hfd hfq => ?_, fun _ _ e => absurd e hf, fun _ => hnone, fun x hx => ?_⟩
      · obtain rfl := Option.some.inj (hd.symm.trans hfd)
        rw [State.onContext_same] at hfq
        cases hfq
      · have hx : (s.axis b).current = some x := hx
        rw [hnone] at hx
        cases hx
    · exact ⟨fun d hd hdq => ⟨hrests hd hdq, .inl (hq d hd hdq)⟩, hfaulted _, (h b).resting, hcurrent⟩
  · rw [freeContext_stops he hc]
    refine ⟨fun d hd hdq => ⟨hrests hd hdq, ?_⟩, hfaulted _, (h b).resting, hcurrent⟩
    rcases State.release_head hs hc hd with ⟨hhead, hdc⟩ | ⟨-, -, -, hmem⟩
    · rw [hsame hdc] at hdq
      exact ((h b).queued d hhead hdq).2.imp_right (hend d hdc _)
    · exact .inr ⟨.abandoned, .inl (List.mem_append_left _ (List.mem_map.2 ⟨d, hmem, rfl⟩))⟩

/-- A program that is started is the ACTIVE head of its axis. -/
theorem State.headOwed.started (hs : s.bound) (h : ∀ b, s.headOwed l b) (hfree : s.contexts[c].state = .free) (hqueue : s.queue a = [])
    (hf : (s.axis a).state ≠ .fault) (o : Owner) (hend : ∀ d, ending l d → ending k d) (b : Axis) :
    (s.bind c o a).headOwed k b := by
  by_cases hb : b = a
  swap
  · refine (h b).of_same rfl (s.bind_queue_other c a o hb) (fun d hd => s.bind_context_other c a o ?_) fun d _ => hend d
    rintro rfl
    exact hs.head_ne_free hd hfree
  subst hb
  have hhead : (s.bind c o b).head b = some c := by rw [State.head, s.bind_queue_same, hqueue]; rfl
  have hactive : (s.bind c o b).contexts[c].state = .active := by
    rw [s.bind_context_same, openedContext, hqueue]
    simp [hf]
  have hcurrent (x : CurrentStep) (hx : (s.axis b).current = some x) : False := by
    have hx := ((h b).current x hx).1
    rw [State.head, hqueue] at hx
    cases hx
  refine ⟨fun d hd hq => ?_, fun _ _ e => absurd e hf, (h b).resting, fun x hx => (hcurrent x hx).elim⟩
  obtain rfl := Option.some.inj (hhead.symm.trans hd)
  rw [hactive] at hq
  cases hq

theorem press_owed (hs : s.bound) {p : Fin 12} {n : Nat} (h : ∀ b, s.headOwed (.press p n :: l) b) (b : Axis) :
    (press p n s).1.headOwed ((press p n s).2 ++ l) b := by
  have hend (more : List Signal) (d : Fin 16) (hd : ending (.press p n :: l) d) : ending (more ++ l) d := hd.tail (by simp) more
  refine press_cases (P := fun j => j.1.headOwed (j.2 ++ l) b) (fun c a x q r d u hfree hqueue hf hu => ?_) fun j hj _ => ?_
  · have hlinks : u.links = (s.bind c (.panel p) a).links := (State.links_of_traffic hu).trans (admitStep_links ..)
    have haxes : u.axis b = s.axis b := by
      rw [State.axis_congr (State.axes_of_traffic hu)]
      exact admitStep_cases (P := fun j => j.1.axis b = s.axis b) (fun _ _ _ _ => rfl) rfl
    have howed := State.headOwed.started hs h hfree hqueue hf (.panel p)
      (hend ((admitStep c x (s.bind c (.panel p) a)).2 ++ [.actionResult q r d])) b
    refine howed.of_heads hlinks ?_ fun _ _ => id
    rw [haxes]
    exact howed.heads_refl
  · refine (h b).of_heads (State.links_of_traffic hj) ?_ fun d _ => hend _ d
    rw [State.axis_congr (State.axes_of_traffic hj)]
    exact (h b).heads_refl

/-- Every signal keeps heads and current steps in order. -/
theorem handle_owed (x : Signal) (hs : s.bound) (h : ∀ b, s.headOwed (x :: l) b)
    (hfrees : ∀ c e, x = .freeContext c e → s.freesAfter [] c) (b : Axis) :
    (handle x s).1.headOwed ((handle x s).2 ++ l) b := by
  have hplain (hx : x.keepsLinks = true) : (handle x s).1.headOwed ((handle x s).2 ++ l) b :=
    (h b).of_heads (handle_links hx s) (handle_heads hx hs (h b)) fun c hc hend =>
      hend.step (hs.axis_of_head hc) fun e he => by subst he; cases hx
  cases x with
  | fault a kind => exact fault_owed hs h b
  | freeContext c e => exact freeContext_owed hs h (hfrees c e rfl) b
  | press p n => exact press_owed hs h b
  | _ => exact hplain rfl

/-! ## The order is kept -/

theorem endAxis_parked (hrest : (s.axis a).state = .idle ∨ (s.axis a).state = .fault → (s.axis a).current = none) :
    ((endAxis a s).1.axis a).parked := by
  have hwaits (hs : (s.axis a).state = .preparing ∨ (s.axis a).state = .dwell ∨ (s.axis a).state = .hold) :
      ((endAxis a s).1.axis a).parked := by
    rw [endAxis_waits hs]
    exact ⟨by simp [AxisRecord.released], .inl (by simp)⟩
  cases hs : (s.axis a).state with
  | preparing => exact hwaits (.inl hs)
  | dwell => exact hwaits (.inr (.inl hs))
  | hold => exact hwaits (.inr (.inr hs))
  | moving =>
    rw [endAxis_moves hs]
    exact ⟨by simp [AxisRecord.released], .inr (.inl (by simp))⟩
  | stopping =>
    rw [endAxis_stops hs]
    dsimp only
    split <;> exact ⟨by simp [AxisRecord.released], .inr (.inl (by simp [AxisRecord.released, hs]))⟩
  | idle => rw [endAxis_idle hs]; exact ⟨hrest (.inl hs), .inl hs⟩
  | fault => rw [endAxis_fault hs]; exact ⟨hrest (.inr hs), .inr (.inr hs)⟩

/-- A context that is freed behind mild signals is the one that stands there. -/
theorem split_after_mild {acts before behind : List Signal} {z : Signal} {d : Fin 16} {f : EndStatus} (hm : allMild acts = true)
    (h : acts ++ [z] = before ++ .freeContext d f :: behind) : before = acts ∧ z = .freeContext d f := by
  rcases List.append_eq_append_iff.1 h with ⟨as, rfl, hr⟩ | ⟨bs, rfl, hr⟩
  · cases as with
    | nil => exact ⟨List.append_nil _, (List.cons.inj hr).1⟩
    | cons y as => simp at hr
  · cases bs with
    | nil => exact ⟨(List.append_nil _).symm, (List.cons.inj hr).1.symm⟩
    | cons g bs =>
      obtain ⟨rfl, -⟩ := List.cons.inj hr
      cases allMild_mem hm (y := .freeContext d f) (by simp)

/-- The end of a program takes its axis to rest until its context is freed. -/
theorem endProgram_freesAfter {e : EndStatus} (h : s.headOwed l a) (hc : s.contexts[c].axis = some a)
    {before behind : List Signal} {d : Fin 16} {f : EndStatus} (hl : (endProgram c e s).2 = before ++ .freeContext d f :: behind) :
    (endProgram c e s).1.freesAfter before d := by
  by_cases hd : s.head a = some c ∧ s.contexts[c].state ≠ .queued
  · rw [endProgram_executed e hc hd] at hl ⊢
    obtain ⟨rfl, hz⟩ := split_after_mild (endAxis_mild a _) hl
    cases hz
    have hparked := endAxis_parked (s := s.reportEnd c a e) h.resting
    have hlinks := endAxis_links a (s.reportEnd c a e)
    exact ⟨a, (State.axis_of_links hlinks c).trans hc, fun _ => hparked, fun _ => ⟨hparked, fun y hy =>
      Signal.spares_of_mild (allMild_mem (endAxis_mild ..) hy)⟩⟩
  · rw [endProgram_waiting e hc hd] at hl ⊢
    obtain ⟨rfl, hz⟩ := split_after_mild (acts := []) rfl hl
    cases hz
    refine ⟨a, hc, fun hhead => ?_, fun hne => absurd rfl hne⟩
    have hq : s.contexts[c].state = .queued := by
      by_contra hne
      exact hd ⟨hhead, hne⟩
    exact (h.queued c hhead hq).1

/-- What a pass sends on keeps the order. -/
theorem Orderly.sendOn (h : Orderly (.passEnd :: l) s) (item : Outgoing) :
    Orderly ((Machine.sendOn item s).2 ++ .passEnd :: l) (Machine.sendOn item s).1 := by
  obtain ⟨hs, hfrees, howed⟩ := h
  have htraffic := sendOn_traffic item s
  have hlinks := State.links_of_traffic htraffic
  have haxis := State.axis_congr (State.axes_of_traffic htraffic)
  refine ⟨hs.of_links hlinks, fun before c e behind he => ?_, fun b => ?_⟩
  · rcases List.append_eq_append_iff.1 he with ⟨as, rfl, hr⟩ | ⟨bs, hm, hr⟩
    · obtain ⟨a, hc, -, hbefore⟩ := hfrees as c e behind hr
      have hne : as ≠ [] := by
        rintro rfl
        cases hr
      obtain ⟨hparked, hspares⟩ := hbefore hne
      rw [← haxis] at hparked
      refine ⟨a, (State.axis_of_links hlinks c).trans hc, fun _ => hparked, fun _ => ⟨hparked, fun y hy => ?_⟩⟩
      rcases List.mem_append.1 hy with hy | hy
      · exact Signal.spares_of_mild (allMild_mem (sendOn_mild ..) hy)
      · exact (hspares y hy).mono fun d hd => (State.axis_of_links hlinks d).symm.trans hd
    · cases bs with
      | nil => cases hr
      | cons g bs =>
        obtain ⟨rfl, -⟩ := List.cons.inj hr
        cases allMild_mem (sendOn_mild item s) (y := .freeContext c e) (by rw [hm]; simp)
  · refine (howed b).of_heads hlinks (by rw [haxis]; exact (howed b).heads_refl) fun c _ hend =>
      hend.mono (List.subset_append_right _ _)

theorem orderly_law : SignalLaw Orderly where
  handled x rest s h := by
    obtain ⟨hs, hfrees, howed⟩ := h
    have hsteps : s.stepsOfHeads := fun b x hx => ((howed b).current x hx).1
    refine ⟨handle_bound x hs, fun before c e behind he => ?_, handle_owed x hs howed fun c e hx => hfrees [] c e rest (by rw [hx]; rfl)⟩
    have hlater {as : List Signal} (hr : rest = as ++ .freeContext c e :: behind) : (handle x s).1.freesAfter ((handle x s).2 ++ as) c :=
      (hfrees (x :: as) c e behind (by rw [hr]; rfl)).step hs hsteps
    rcases List.append_eq_append_iff.1 he with ⟨as, rfl, hr⟩ | ⟨bs, hm, hr⟩
    · exact hlater hr
    · cases bs with
      | nil =>
        rw [List.append_nil] at hm
        subst hm
        simpa using hlater (as := []) hr.symm
      | cons g bs =>
        obtain ⟨rfl, -⟩ := List.cons.inj hr
        cases handle_sends x s (.freeContext c e) (by rw [hm]; simp) with
        | mild hmild => cases hmild
        | frees hc => exact endProgram_freesAfter (howed _) hc hm
  sent item rest s h := h.sendOn item

end Sys2Proof.Machine
end

section
/-! The events of the axes, the programs and the permits (`Event`), said once: how each begins, and that it keeps the axis records
lawful, contexts and queues bound and in order, and the permits worked out. -/

namespace Sys2Proof.Machine

variable {s t : State} {a : Axis} {c : Fin 16} {l : List Signal} {k : Handled}

theorem noneFreed_of_mild (h : allMild l = true) : noneFreed l := fun _ _ hm => by cases allMild_mem h hm

/-! ## Events -/

/-- How an event of the axes, the programs or the permits begins: with nothing but signals; with other readings of the tests, and an
evaluation; with a record whose timers change; with the end of the stop time, an acknowledged fault or a resumed program; with an
opened, a stepped, a broken or a cancelled program; or with a start. -/
inductive Event (s : State) : Handled → Prop
  | signals {k : Handled} (htraffic : k.1.traffic = s.traffic) (hpermits : k.1.permits = s.permits)
      (hunsettled : k.1.unsettled = s.unsettled) (hfresh : k.1.workedPermits = s.workedPermits ∨ .evaluatePermits ∈ k.2)
      (hfreed : noneFreed k.2) : Event s k
  | timed {a : Axis} {f : AxisRecord → AxisRecord} {l : List Signal} (hlawful : (s.axis a).lawful → (f (s.axis a)).lawful)
      (hstate : (f (s.axis a)).state = (s.axis a).state) (hcurrent : (f (s.axis a)).current = (s.axis a).current)
      (hfreed : noneFreed l) : Event s (s.onAxis a f, l)
  | stopped {a : Axis} : Event s (endStop a s)
  | acknowledged {a : Axis} (h : (s.axis a).state = .fault) : Event s (acknowledge a s)
  | resumed {a : Axis} : Event s (resumeHolds a s)
  | opened {c : Fin 16} {o : Owner} {a : Axis} (h : s.contexts[c].state = .free) : Event s (s.bind c o a, [])
  | admitted {c : Fin 16} {x : Step} : Event s (admitStep c x s)
  | broken {c : Fin 16} : Event s (breakAdmission c s)
  | cancelled {c : Fin 16} : Event s (cancelBoundary c s)
  | started {k : Handled} (haxes : ∀ a, k.1.axis a = axisStart) (hcontexts : ∀ c : Fin 16, k.1.contexts[c] = contextStart)
      (hqueues : ∀ a, k.1.queue a = []) (hunsettled : k.1.unsettled = s.unsettled) (hfresh : .evaluatePermits ∈ k.2)
      (hfreed : noneFreed k.2) : Event s k

/-! ## What the events of one axis or one program do -/

/-- The end of the stop time takes a STOPPING axis to IDLE, PREPARING or HOLD (R81). -/
theorem endStop_cases {P : Handled → Prop}
    (hidle : (s.axis a).state = .stopping → (s.axis a).current = none →
      P (s.enterIdle a, pumpSignals a ++ idleSignals a ++ [.takeUp a]))
    (hprepare : (s.axis a).state = .stopping → (s.axis a).current ≠ none → (s.axis a).holds = noHolds → P (enterPreparing a s))
    (hhold : (s.axis a).state = .stopping → (s.axis a).current ≠ none → (s.axis a).holds ≠ noHolds → P (s.enterHold a, []))
    (hnot : P (s, [])) : P (endStop a s) := by
  unfold endStop
  dsimp only
  split
  · exact hnot
  · next hs =>
    rw [not_not] at hs
    split
    · next hc => exact hidle hs (Option.isNone_iff_eq_none.1 hc)
    · next hc =>
      rw [Option.isNone_iff_eq_none] at hc
      split
      · next hh => exact hprepare hs hc hh
      · next hh => exact hhold hs hc hh

/-- The hold set that a resume leaves (R109). -/
def AxisRecord.resumedHolds (r : AxisRecord) : HoldSet := (r.holds.put .linkPause false).put .linkSilent false

/-- A resume that empties the hold set prepares again in HOLD, and has the gates tested in PREPARING (R80, R109). -/
theorem resumeHolds_cases {P : Handled → Prop}
    (hprepare : (s.axis a).resumedHolds = noHolds → (s.axis a).state = .hold →
      P (enterPreparing a ((s.withHolds a noHolds).reportAxis a)))
    (htest : (s.axis a).resumedHolds = noHolds → (s.axis a).state = .preparing →
      P ((s.withHolds a noHolds).reportAxis a, [.testGates a]))
    (hother : (s.axis a).resumedHolds ≠ (s.axis a).holds → ((s.axis a).state = .hold → (s.axis a).resumedHolds ≠ noHolds) →
      P ((s.withHolds a (s.axis a).resumedHolds).reportAxis a, []))
    (hnot : (s.axis a).resumedHolds = (s.axis a).holds → P (s, [])) : P (resumeHolds a s) := by
  unfold resumeHolds
  dsimp only
  split
  · next h => exact hnot h
  · next h =>
    split
    · next hempty =>
      rw [show ((s.axis a).holds.put .linkPause false).put .linkSilent false = noHolds from hempty]
      split
      · next hs => exact hprepare hempty hs
      · next hs => exact htest hempty hs
      · next hs _ =>
        have := hother h fun e => absurd e hs
        rwa [show (s.axis a).resumedHolds = noHolds from hempty] at this
    · next hne => exact hother h fun _ => hne

/-- A context that closes (R102, R105). -/
def Context.closed (admission : Admission) (x : Context) : Context :=
  { x with admission := admission, state := .closing, steps := [] }

/-- A program that closes, or ends at once (R102). -/
theorem breakAdmission_cases {P : Handled → Prop}
    (hclose : s.contexts[c].state = .active → P (s.onContext c (Context.closed .broken), []))
    (hend : P (s.onContext c fun x => { x with admission := .broken }, [.endProgram c .broken])) : P (breakAdmission c s) := by
  unfold breakAdmission
  dsimp only
  split
  · next h => exact hclose (by simpa using (Bool.and_eq_true_iff.1 h).1)
  · exact hend

/-- An AT_BOUNDARY cancel closes an ACTIVE program, ends a QUEUED one, and leaves the others (R105). -/
theorem cancelBoundary_cases {P : Handled → Prop}
    (hclose : s.contexts[c].state = .active → ∀ l, (l = [] ∨ l = [.endProgram c .cancelled]) →
      P (s.onContext c (Context.closed .cancelled), l))
    (hend : P (s, [.endProgram c .cancelled])) (hnot : P (s, [])) : P (cancelBoundary c s) := by
  unfold cancelBoundary
  split
  · exact hend
  · next h => exact hclose h _ (by split <;> simp)
  · exact hnot
  · exact hnot

/-! ## The axis records (R69 to R85) -/

theorem resumeHolds_lawful (h : (s.axis a).lawful) : ((resumeHolds a s).1.axis a).lawful := by
  refine resumeHolds_cases (P := fun k => (k.1.axis a).lawful) (fun _ hs => ?_) (fun _ hs => ?_) (fun hne hv => ?_) fun _ => h
  · rw [enterPreparing_axis]
    refine entered_lawful ?_ ?_
    · simpa using h.fault_none (by simp [hs])
    · simpa using h.dwellDeadline_none (by simp [hs])
  · rw [State.reportAxis_axis, State.withHolds_axis]
    exact h.withHolds (.inl hs)
  · have hheld : (s.axis a).holds ≠ noHolds := fun e => hne (by rw [AxisRecord.resumedHolds, e]; rfl)
    rw [State.reportAxis_axis, State.withHolds_axis]
    exact h.withHolds ((h.holding hheld).imp_right (.imp_left fun hs => ⟨hs, hv hs⟩))

/-- The state in which the record of an axis is removed and it has entered IDLE (R87). -/
def State.acknowledged (s : State) (a : Axis) : State := (s.onAxis a fun r => { r with fault := none }).enterIdle a

theorem acknowledge_eq (s : State) (a : Axis) :
    acknowledge a s = ((s.acknowledged a).activateHead a, idleSignals a ++ [.takeUp a]) := rfl

@[simp] theorem State.acknowledged_axis (s : State) (a : Axis) : (s.acknowledged a).axis a = { s.axis a with
    fault := none, state := .idle, drive := driveOff, stall := none, dwellDeadline := none, stopDeadline := none } := by
  simp [State.acknowledged]

@[simp] theorem State.acknowledged_axis_other (s : State) {b : Axis} (h : b ≠ a) : (s.acknowledged a).axis b = s.axis b := by
  simp [State.acknowledged, h]

@[simp] theorem State.acknowledged_contexts (s : State) (a : Axis) : (s.acknowledged a).contexts = s.contexts := by
  simp [State.acknowledged]

@[simp] theorem State.acknowledged_queues (s : State) (a : Axis) : (s.acknowledged a).queues = s.queues := by
  simp [State.acknowledged]

theorem State.acknowledged_head (s : State) (a b : Axis) : (s.acknowledged a).head b = s.head b :=
  State.head_congr (s.acknowledged_queues a) b

theorem acknowledge_lawful (h : (s.axis a).lawful) (hs : (s.axis a).state = .fault) : ((acknowledge a s).1.axis a).lawful := by
  have htimers := h.timers_none (by simp [hs])
  obtain ⟨-, -, -, -, -, -, -, -, -, hrest⟩ := h
  obtain ⟨hholds, hcurrent⟩ := hrest (.inr hs)
  rw [acknowledge_eq, State.activateHead_axis]
  simp [AxisRecord.lawful, htimers, hholds, hcurrent]

theorem resumeHolds_axis_other {b : Axis} (h : b ≠ a) : (resumeHolds a s).1.axis b = s.axis b := by
  refine resumeHolds_cases (P := fun k => k.1.axis b = s.axis b) (fun _ _ => ?_) (fun _ _ => ?_) (fun _ _ => ?_) fun _ => rfl
  · simp [h, State.withHolds]
  · simp [h, State.withHolds]
  · simp [h, State.withHolds]

theorem acknowledge_axis_other {b : Axis} (h : b ≠ a) : (acknowledge a s).1.axis b = s.axis b := by
  rw [acknowledge_eq, State.activateHead_axis, s.acknowledged_axis_other h]

theorem Event.axesLawful (e : Event s k) (h : s.axesLawful) : k.1.axesLawful := by
  intro b
  cases e with
  | signals htraffic => rw [State.axis_congr (State.axes_of_traffic htraffic)]; exact h b
  | @timed a f l hlawful hstate hcurrent _ =>
    by_cases hb : b = a
    · subst hb; rw [State.onAxis_axis_same]; exact hlawful (h b)
    · rw [State.onAxis_axis_other _ _ _ _ hb]; exact h b
  | @stopped a =>
    by_cases hb : b = a
    · subst hb; exact endStop_lawful (h b)
    · rw [endStop_axis_other _ hb]; exact h b
  | @acknowledged a hs =>
    by_cases hb : b = a
    · subst hb; exact acknowledge_lawful (h b) hs
    · rw [acknowledge_axis_other hb]; exact h b
  | @resumed a =>
    by_cases hb : b = a
    · subst hb; exact resumeHolds_lawful (h b)
    · rw [resumeHolds_axis_other hb]; exact h b
  | opened _ => exact h b
  | admitted => exact admitStep_cases (P := fun k => (k.1.axis b).lawful) (fun _ _ _ _ => h b) (h b)
  | broken => exact breakAdmission_cases (P := fun k => (k.1.axis b).lawful) (fun _ => h b) (h b)
  | cancelled => exact cancelBoundary_cases (P := fun k => (k.1.axis b).lawful) (fun _ _ _ => h b) (h b) (h b)
  | started haxes => rw [haxes]; exact axisStart_lawful

/-! ## The permits (R121, R123) -/

/-- An event of one axis or one program begins with nothing that the tests read but whether the windlass is in IDLE, of which it then
tells, and brings no axis to MOVING. -/
structure leavesTests (s : State) (k : Handled) : Prop where
  still : k.1.still = s.still
  permits : k.1.permits = s.permits
  idle : ∀ a, tellsIdle a s k
  moving : ∀ a, staysOrPermitted a s k.1

theorem leavesTests.same {k : Handled} (hstill : k.1.still = s.still) (hpermits : k.1.permits = s.permits)
    (hstate : ∀ b, (k.1.axis b).state = (s.axis b).state) (hcurrent : ∀ b, (k.1.axis b).current = (s.axis b).current) : leavesTests s k :=
  ⟨hstill, hpermits, fun b => .inr (by rw [hstate]), fun b => .same (hstate b) (hcurrent b)⟩

/-- A change of one record, which does not move after it. -/
theorem leavesTests.one {k : Handled} (hstill : k.1.still = s.still) (hpermits : k.1.permits = s.permits)
    (hother : ∀ b, b ≠ a → k.1.axis b = s.axis b) (hidle : tellsIdle a s k) (hmoving : (k.1.axis a).state ≠ .moving) :
    leavesTests s k where
  still := hstill
  permits := hpermits
  idle b := by
    by_cases hb : b = a
    · subst hb; exact hidle
    · exact .inr (by rw [hother b hb])
  moving b := by
    by_cases hb : b = a
    · subst hb; exact .rests hmoving
    · exact .same (by rw [hother b hb]) (by rw [hother b hb])

theorem endStop_leavesTests (s : State) (a : Axis) : leavesTests s (endStop a s) := by
  have hother (b : Axis) (hb : b ≠ a) : (endStop a s).1.axis b = s.axis b := endStop_axis_other _ hb
  revert hother
  refine endStop_cases (P := fun k => (∀ b, b ≠ a → k.1.axis b = s.axis b) → leavesTests s k) (fun hs _ h => ?_) (fun hs _ _ h => ?_)
    (fun hs _ _ h => ?_) fun _ => .same rfl rfl (fun _ => rfl) fun _ => rfl
  · exact .one (by simp) (by simp) h (.inl fun y hy => by simp [hy]) (by simp)
  · exact .one (by simp) (by simp) h (enterPreparing_tellsIdle s s rfl) (by simp)
  · exact .one (by simp) (by simp) h (.other hs (by simp) (by simp)) (by simp)

theorem acknowledge_leavesTests (s : State) (a : Axis) : leavesTests s (acknowledge a s) := by
  refine .one (a := a) ?_ ?_ (fun b hb => acknowledge_axis_other hb) (.inl fun y hy => by simp [acknowledge_eq, hy]) ?_
  · simp [acknowledge]
  · simp [acknowledge]
  · rw [acknowledge_eq, State.activateHead_axis]
    simp

theorem resumeHolds_leavesTests (s : State) (a : Axis) : leavesTests s (resumeHolds a s) := by
  have hwith (v : HoldSet) (l : List Signal) : leavesTests s ((s.withHolds a v).reportAxis a, l) := by
    refine .same (by simp [State.withHolds]) (by simp [State.withHolds]) (fun b => ?_) fun b => ?_ <;>
    · by_cases hb : b = a
      · subst hb; simp
      · simp [State.withHolds, hb]
  refine resumeHolds_cases (P := leavesTests s) (fun _ hs => ?_) (fun _ _ => hwith _ _) (fun _ _ => hwith _ _)
    fun _ => .same rfl rfl (fun _ => rfl) fun _ => rfl
  refine .one (a := a) (by simp [State.withHolds]) (by simp [State.withHolds]) (fun b hb => ?_)
    (enterPreparing_tellsIdle _ _ (by simp)) (by simp)
  simp [State.withHolds, hb]

theorem Event.leavesTests (e : Event s k) :
    Machine.leavesTests s k ∨ (k.1.traffic = s.traffic ∧ k.1.permits = s.permits ∧ (k.1.workedPermits = s.workedPermits ∨ .evaluatePermits ∈ k.2))
      ∨ ((∀ a, k.1.axis a = axisStart) ∧ .evaluatePermits ∈ k.2) := by
  have axes {k : Handled} (hstill : k.1.still = s.still) (hp : k.1.permits = s.permits) (h : k.1.axes = s.axes) : Machine.leavesTests s k :=
    .same hstill hp (fun b => by rw [State.axis_congr h]) fun b => by rw [State.axis_congr h]
  cases e with
  | signals htraffic hpermits _ hfresh _ => exact .inr (.inl ⟨htraffic, hpermits, hfresh⟩)
  | started haxes _ _ _ hfresh _ => exact .inr (.inr ⟨haxes, hfresh⟩)
  | @timed a f l _ hstate hcurrent _ =>
    refine .inl (.same (by simp) rfl (fun b => ?_) fun b => ?_) <;>
    · by_cases hb : b = a
      · subst hb; rw [State.onAxis_axis_same]; assumption
      · rw [State.onAxis_axis_other _ _ _ _ hb]
  | stopped => exact .inl (endStop_leavesTests ..)
  | acknowledged _ => exact .inl (acknowledge_leavesTests ..)
  | resumed => exact .inl (resumeHolds_leavesTests ..)
  | opened _ => exact .inl (axes rfl rfl rfl)
  | admitted => exact .inl (admitStep_cases (P := Machine.leavesTests s) (fun _ _ _ _ => axes rfl rfl rfl) (axes rfl rfl rfl))
  | broken => exact .inl (breakAdmission_cases (P := Machine.leavesTests s) (fun _ => axes rfl rfl rfl) (axes rfl rfl rfl))
  | cancelled =>
    exact .inl (cancelBoundary_cases (P := Machine.leavesTests s) (fun _ _ _ => axes rfl rfl rfl) (axes rfl rfl rfl) (axes rfl rfl rfl))

/-- An event that begins with fresh permits keeps them fresh, or owes an evaluation. -/
theorem Event.permitsOwed (e : Event s k) (h : s.permits = s.workedPermits) : Machine.permitsOwed k.2 k.1 := by
  rcases e.leavesTests with ⟨hstill, hpermits, hidle, -⟩ | ⟨-, hpermits, hfresh⟩ | ⟨-, hfresh⟩
  · rcases hidle .windlass with htold | hsame
    · exact .inr (htold (by simp [idleSignals]))
    · exact .inl (hpermits.trans (h.trans (State.workedPermits_of_idle hstill hsame).symm))
  · exact hfresh.imp_left fun hw => hpermits.trans (h.trans hw.symm)
  · exact .inr hfresh

/-- Every movement has its permit. -/
def State.movesAllowed (s : State) : Prop :=
  ∀ (a : Axis) (d : Direction), (s.axis a).state = .moving → (s.axis a).stepDirection = some d → s.permit a d = true

/-- An event that begins with every movement permitted leaves them permitted. -/
theorem Event.movesWarned (e : Event s k) (h : s.movesAllowed) : Machine.movesWarned k.2 k.1 := by
  intro a d hm hd
  rcases e.leavesTests with ⟨-, hpermits, -, hmoving⟩ | ⟨htraffic, hpermits, -⟩ | ⟨haxes, -⟩
  · rw [State.permit_congr hpermits]
    rcases hmoving a hm with ⟨hs, hcurrent⟩ | hp
    · rw [AxisRecord.stepDirection, hcurrent] at hd
      exact .inl (h a d hs hd)
    · exact .inl (hp d hd)
  · rw [State.permit_congr hpermits]
    rw [State.axis_congr (State.axes_of_traffic htraffic)] at hm hd
    exact .inl (h a d hm hd)
  · rw [haxes] at hm
    cases hm

/-! ## Contexts and queues (R95, R96, R103) -/

theorem Event.unsettled (e : Event s k) : k.1.unsettled = s.unsettled := by
  have books {t : State} (h : t.books = s.books) : t.unsettled = s.unsettled := (Books.same h).2.2.1
  cases e with
  | signals _ _ hunsettled _ _ => exact hunsettled
  | started _ _ _ hunsettled _ _ => exact hunsettled
  | timed _ _ _ _ => rfl
  | stopped => exact books (endStop_books ..)
  | @acknowledged a _ =>
    have hidle : (s.acknowledged a).unsettled = s.unsettled := by simp [State.acknowledged]
    exact State.activateHead_cases (P := fun u => u.unsettled = s.unsettled) (fun _ _ _ _ => hidle) fun _ => hidle
  | resumed => exact books (resumeHolds_books ..)
  | opened _ => rfl
  | admitted => exact books (admitStep_books ..)
  | broken => exact books (breakAdmission_books ..)
  | cancelled => exact books (cancelBoundary_books ..)

theorem endStop_links (a : Axis) (s : State) : (endStop a s).1.links = s.links :=
  endStop_cases (P := fun k => k.1.links = s.links) (fun _ _ => by simp) (fun _ _ _ => by simp) (fun _ _ _ => by simp) rfl

theorem resumeHolds_links (a : Axis) (s : State) : (resumeHolds a s).1.links = s.links :=
  resumeHolds_cases (P := fun k => k.1.links = s.links) (fun _ _ => by simp) (fun _ _ => by simp) (fun _ _ => by simp) fun _ => rfl

/-- A context that closes stays bound. -/
theorem State.bound.closes (h : s.bound) (hc : s.contexts[c].state = .active) (m : Admission) :
    (s.onContext c (Context.closed m)).bound := by
  refine h.restate (fun _ => rfl) (fun _ => rfl) ?_ fun _ a ha => h.head c a (.inl hc) ha
  exact iff_of_false (by simp [Context.closed]) (by rw [hc]; simp)

theorem State.onContext_admission_links (s : State) (c : Fin 16) :
    (s.onContext c fun x => { x with admission := .broken }).links = s.links :=
  State.onContext_links (f := fun x => { x with admission := .broken }) (fun _ => rfl) s c

/-- A state whose contexts are all FREE and whose queues are empty. -/
theorem State.bound_of_empty (hcontexts : ∀ c : Fin 16, t.contexts[c] = contextStart) (hqueues : ∀ a, t.queue a = []) : t.bound := by
  refine ⟨fun a => by rw [hqueues]; exact List.nodup_nil, fun c a => ?_, fun c => ?_, fun c => ?_, fun c a hc => ?_⟩
  · rw [hqueues, hcontexts]
    simp [contextStart]
  · rw [hcontexts]
    simp [contextStart]
  · rw [hcontexts]
    simp [contextStart]
  · rw [hcontexts] at hc
    rcases hc with hc | hc <;> cases hc

theorem Event.bound (e : Event s k) (h : s.bound) : k.1.bound := by
  cases e with
  | signals htraffic => exact h.of_links (State.links_of_traffic htraffic)
  | timed _ _ _ _ => exact h.of_links rfl
  | stopped => exact h.of_links (endStop_links ..)
  | @acknowledged a _ =>
    exact (h.of_links (t := s.acknowledged a) (by simp [State.acknowledged])).activateHead a
  | resumed => exact h.of_links (resumeHolds_links ..)
  | opened hfree => exact h.bind hfree _ _
  | admitted => exact h.of_links (admitStep_links ..)
  | @broken c =>
    exact breakAdmission_cases (P := fun k => k.1.bound) (fun hc => h.closes hc _)
      (h.of_links (s.onContext_admission_links c))
  | cancelled => exact cancelBoundary_cases (P := fun k => k.1.bound) (fun hc _ _ => h.closes hc _) h h
  | started _ hcontexts hqueues _ _ _ => exact State.bound_of_empty hcontexts hqueues

/-- An ACTIVE context that closes keeps its axis in order. -/
theorem State.headOwed.closes (h : ∀ a, s.headOwed [] a) (c : Fin 16) (m : Admission) (l : List Signal) (b : Axis) :
    (s.onContext c (Context.closed m)).headOwed l b := by
  have hnone (d : Fin 16) : ¬ ending [] d := fun ⟨_, he⟩ => by rcases he with he | he <;> cases he
  have hsame : (s.onContext c (Context.closed m)).contexts[c].state = .closing := by rw [State.onContext_same]; rfl
  refine ⟨fun d hd hq => ?_, fun d hd hfault ha => ?_, (h b).resting, fun x hx => ?_⟩
  · have hdc : c ≠ d := by
      rintro rfl
      rw [hsame] at hq
      cases hq
    rw [s.onContext_other c d _ hdc] at hq
    exact ((h b).queued d hd hq).imp_right (.imp_right fun e => absurd e (hnone d))
  · have hdc : c ≠ d := by
      rintro rfl
      rw [hsame] at ha
      cases ha
    rw [s.onContext_other c d _ hdc] at ha
    exact absurd ((h b).faulted d hd hfault ha) (hnone d)
  · obtain ⟨hhead, hstate⟩ := (h b).current x hx
    refine ⟨hhead, ?_⟩
    by_cases hxc : c = x.context
    · subst hxc
      exact .inr hsame
    · rw [s.onContext_other c x.context _ hxc]
      exact hstate

/-- A context that joins a queue leaves heads in order. -/
theorem State.headOwed.opens (hs : s.bound) (h : ∀ a, s.headOwed [] a) (hfree : s.contexts[c].state = .free) (o : Owner) (b : Axis) :
    (s.bind c o a).headOwed [] b := by
  have hother {d : Fin 16} (hd : s.head b = some d) : d ≠ c := by
    rintro rfl
    exact hs.head_ne_free hd hfree
  by_cases hstart : s.queue a = [] ∧ (s.axis a).state ≠ .fault
  · exact State.headOwed.started hs h hfree hstart.1 hstart.2 o (fun _ => id) b
  by_cases hb : b = a
  swap
  · exact (h b).of_same rfl (s.bind_queue_other c a o hb) (fun d hd => s.bind_context_other c a o (hother hd)) fun _ _ => id
  subst hb
  by_cases hqueue : s.queue b = []
  · have hf : (s.axis b).state = .fault := by
      by_contra hf
      exact hstart ⟨hqueue, hf⟩
    have hnone := (h b).resting (.inr hf)
    have hhead : (s.bind c o b).head b = some c := by rw [State.head, s.bind_queue_same, hqueue]; rfl
    refine ⟨fun _ _ _ => ⟨⟨hnone, .inr (.inr hf)⟩, .inl hf⟩, fun d hd _ ha => ?_, fun _ => hnone, fun x hx => ?_⟩
    · obtain rfl := Option.some.inj (hhead.symm.trans hd)
      rw [s.bind_context_same, openedContext] at ha
      simp [hf] at ha
    · have hx : (s.axis b).current = some x := hx
      rw [hnone] at hx
      cases hx
  · obtain ⟨d, rest, hq⟩ := List.exists_cons_of_ne_nil hqueue
    have hold : s.head b = some d := by rw [State.head, hq]; rfl
    have hhead : (s.bind c o b).head b = s.head b := by rw [State.head, s.bind_queue_same, hold, hq]; rfl
    have hsame {f : Fin 16} (hf : s.head b = some f) : (s.bind c o b).contexts[f] = s.contexts[f] :=
      s.bind_context_other c b o (hother hf)
    refine ⟨fun f hf hq => ?_, fun f hf hfault ha => ?_, (h b).resting, fun x hx => ?_⟩
    · rw [hhead] at hf
      rw [hsame hf] at hq
      exact (h b).queued f hf hq
    · rw [hhead] at hf
      rw [hsame hf] at ha
      exact (h b).faulted f hf hfault ha
    · obtain ⟨hf, hstate⟩ := (h b).current x hx
      rw [hhead, hsame hf]
      exact ⟨hf, hstate⟩

theorem endStop_heads (hs : s.bound) (h : s.headOwed l a) : s.heads a ((endStop a s).1.axis a) := by
  refine endStop_cases (P := fun k => s.heads a (k.1.axis a)) (fun hs hc => ?_) (fun hstop hc _ => ?_) (fun hstop hc _ => ?_) h.heads_refl
  · exact ⟨iff_of_false (by simp) (by simp [hs]), fun _ => by simpa using hc, fun x hx => by simp [hc] at hx,
      fun _ _ _ _ => ⟨by simpa using hc, .inl (by simp)⟩⟩
  · obtain ⟨x, hx⟩ := Option.ne_none_iff_exists'.1 hc
    refine h.heads_entered (by simp [hstop]) (fun c hc => ?_) rfl rfl
    obtain ⟨hhead, hstate⟩ := h.current x hx
    rw [hhead] at hc
    obtain rfl := Option.some.inj hc
    exact hstate
  · exact h.heads_moves hs (by simp [hstop]) (by simp) (by simp) (fun hp => hc hp.1) fun x hx => .inl (by simpa using hx)

theorem resumeHolds_heads (hs : s.bound) (h : s.headOwed l a) : s.heads a ((resumeHolds a s).1.axis a) := by
  refine resumeHolds_cases (P := fun k => s.heads a (k.1.axis a)) (fun _ hh => ?_) (fun _ _ => h.heads_same (by simp) (by simp))
    (fun _ _ => h.heads_same (by simp) (by simp)) fun _ => h.heads_refl
  exact h.heads_entered (by simp [hh]) (fun c => h.head_runs hs (AxisRecord.not_parked (.inr (.inl hh)))) (by simp) rfl

/-- An acknowledged axis has an ACTIVE head, or none that waits (R87, R96). -/
theorem acknowledge_owed (hs : s.bound) (h : s.headLaw) (hf : (s.axis a).state = .fault) (l : List Signal) (b : Axis) :
    (acknowledge a s).1.headOwed l b := by
  have howed := State.headOwed_of_headLaw h []
  have hnone (d : Fin 16) : ¬ ending [] d := fun ⟨_, he⟩ => by rcases he with he | he <;> cases he
  have hheads := s.acknowledged_head a
  have hqueue (b : Axis) : (s.acknowledged a).queue b = s.queue b := State.queue_congr (s.acknowledged_queues a) b
  rw [acknowledge_eq]
  by_cases hb : b = a
  swap
  · have haxis := s.acknowledged_axis_other hb
    refine State.activateHead_cases (P := fun u => u.headOwed l b) (fun c hc _ _ => ?_) fun _ => ?_
    · refine (howed b).of_same haxis (hqueue b) (fun d hd => ?_) fun d _ e => absurd e (hnone d)
      rw [State.onContext_other, s.acknowledged_contexts]
      rintro rfl
      rw [hheads] at hc
      have hca := hs.axis_of_head hc
      rw [hs.axis_of_head hd] at hca
      exact hb (Option.some.inj hca)
    · exact (howed b).of_same haxis (hqueue b) (fun d _ => by rw [s.acknowledged_contexts]) fun d _ e => absurd e (hnone d)
  subst hb
  have hidle : ((s.acknowledged b).axis b).state = .idle := by simp
  have hrest : ((s.acknowledged b).axis b).current = none := by simpa using (howed b).resting (.inr hf)
  refine State.activateHead_cases (P := fun u => u.headOwed l b) (fun c hc _ _ => ?_) fun hq => ?_
  · refine ⟨fun d hd hdq => ?_, fun _ _ e => ?_, fun _ => hrest, fun x hx => ?_⟩
    · obtain rfl := Option.some.inj (hc.symm.trans hd)
      rw [State.onContext_same] at hdq
      cases hdq
    · rw [State.onContext_axis, hidle] at e
      cases e
    · rw [State.onContext_axis, hrest] at hx
      cases hx
  · refine ⟨fun d hd hdq => ?_, fun _ _ e => ?_, fun _ => hrest, fun x hx => ?_⟩
    · have := hq d hd hdq
      rw [hidle] at this
      cases this
    · rw [hidle] at e
      cases e
    · rw [hrest] at hx
      cases hx

theorem enterPreparing_noneFreed (a : Axis) (s : State) : noneFreed (enterPreparing a s).2 := fun c e hm => by
  rcases enterPreparing_mild_or a s _ hm with h | ⟨k, h⟩ <;> cases h

theorem endStop_noneFreed (a : Axis) (s : State) : noneFreed (endStop a s).2 :=
  endStop_cases (P := fun k => noneFreed k.2)
    (fun _ _ => noneFreed_append (noneFreed_of_mild (by simp)) fun _ _ h => by simp at h)
    (fun _ _ _ => enterPreparing_noneFreed a s) (fun _ _ _ _ _ h => by cases h) fun _ _ h => by cases h

theorem resumeHolds_noneFreed (a : Axis) (s : State) : noneFreed (resumeHolds a s).2 :=
  resumeHolds_cases (P := fun k => noneFreed k.2) (fun _ _ => enterPreparing_noneFreed a _)
    (fun _ _ => noneFreed_of_mild rfl) (fun _ _ => noneFreed_of_mild rfl) fun _ => noneFreed_of_mild rfl

theorem admitStep_noneFreed (c : Fin 16) (x : Step) (s : State) : noneFreed (admitStep c x s).2 :=
  admitStep_cases (P := fun k => noneFreed k.2) (fun _ _ _ _ _ _ h => by simp at h) fun _ _ h => by cases h

/-- An event that begins with heads in order leaves them in order with its signals. -/
theorem Event.orderly (e : Event s k) (h : s.bound) (hl : s.headLaw) : Orderly k.2 k.1 := by
  have howed := State.headOwed_of_headLaw hl []
  have hnone (d : Fin 16) : ¬ ending [] d := fun ⟨_, he⟩ => by rcases he with he | he <;> cases he
  have heads {t : State} (l : List Signal) (hlinks : t.links = s.links) (hq : ∀ b, s.heads b (t.axis b)) (b : Axis) : t.headOwed l b :=
    (howed b).of_heads hlinks (hq b) fun c _ e => absurd e (hnone c)
  have same {t : State} (haxes : t.axes = s.axes) (b : Axis) : s.heads b (t.axis b) := by
    rw [State.axis_congr haxes]
    exact (howed b).heads_refl
  have one {t : State} {a : Axis} (hq : s.heads a (t.axis a)) (hother : ∀ b, b ≠ a → t.axis b = s.axis b) (b : Axis) :
      s.heads b (t.axis b) := by
    by_cases hb : b = a
    · subst hb; exact hq
    · rw [hother b hb]; exact (howed b).heads_refl
  have hbound := e.bound h
  cases e with
  | signals htraffic _ _ _ hfreed =>
    exact .of_noneFreed hbound (heads _ (State.links_of_traffic htraffic) (same (State.axes_of_traffic htraffic))) hfreed
  | @timed a f l _ hstate hcurrent hfreed =>
    refine .of_noneFreed hbound (heads (t := s.onAxis a f) _ rfl (one (a := a) ?_ fun b hb => State.onAxis_axis_other _ _ _ _ hb)) hfreed
    rw [State.onAxis_axis_same]
    exact (howed a).heads_same hstate hcurrent
  | @stopped a =>
    exact .of_noneFreed hbound (heads _ (endStop_links ..) (one (endStop_heads h (howed a)) fun b hb => endStop_axis_other _ hb))
      (endStop_noneFreed a s)
  | @acknowledged a hf =>
    exact .of_noneFreed hbound (acknowledge_owed h hl hf _)
      (noneFreed_append (noneFreed_of_mild (by simp)) fun _ _ hm => by simp at hm)
  | @resumed a =>
    exact .of_noneFreed hbound (heads _ (resumeHolds_links ..) (one (resumeHolds_heads h (howed a))
      fun b hb => resumeHolds_axis_other hb)) (resumeHolds_noneFreed a s)
  | opened hfree => exact .of_noneFreed hbound (State.headOwed.opens h howed hfree _) fun _ _ hm => by cases hm
  | @admitted c x =>
    have haxes : (admitStep c x s).1.axes = s.axes := admitStep_cases (P := fun k => k.1.axes = s.axes) (fun _ _ _ _ => rfl) rfl
    exact .of_noneFreed hbound (heads _ (admitStep_links ..) (same haxes)) (admitStep_noneFreed c x s)
  | @broken c =>
    revert hbound
    refine breakAdmission_cases (P := fun k => k.1.bound → Orderly k.2 k.1) (fun hc hbound => ?_) fun hbound => ?_
    · exact .of_noneFreed hbound (State.headOwed.closes howed c _ _) fun _ _ hm => by cases hm
    · exact .of_noneFreed hbound (heads _ (s.onContext_admission_links c) (same rfl)) fun _ _ hm => by simp at hm
  | @cancelled c =>
    revert hbound
    refine cancelBoundary_cases (P := fun k => k.1.bound → Orderly k.2 k.1) (fun hc l hl hbound => ?_) (fun hbound => ?_) fun hbound => ?_
    · refine .of_noneFreed hbound (State.headOwed.closes howed c _ _) fun _ _ hm => ?_
      rcases hl with rfl | rfl <;> simp at hm
    · exact .of_noneFreed hbound (heads _ rfl (same rfl)) fun _ _ hm => by simp at hm
    · exact .of_noneFreed hbound (heads _ rfl (same rfl)) fun _ _ hm => by cases hm
  | started haxes _ hqueues _ _ hfreed =>
    have hempty (b : Axis) : k.1.head b = none := by rw [State.head, hqueues]; rfl
    refine .of_noneFreed hbound (fun b => ⟨fun c hc => ?_, fun c hc => ?_, fun _ => by rw [haxes]; rfl, fun x hx => ?_⟩) hfreed
    · rw [hempty] at hc; cases hc
    · rw [hempty] at hc; cases hc
    · rw [haxes] at hx; cases hx

end Sys2Proof.Machine
end

section
/-! Every command is made of events of the axes, the programs and the permits (`Stirs`), and of WARM resets. -/

namespace Sys2Proof.Machine

variable {r s t u : State}

/-! ## Commands as events -/

/-- What the events of the axes, the programs and the permits read and change. -/
def State.deck (s : State) := (s.traffic, s.permits, s.unsettled, s.config.interlocks, s.config.deckLevel, s.config.speedLimit,
  s.sensors, s.inputs, s.vessel, s.gypsy.count)

/-- A command takes a state to another by events, each carried out to its end, and WARM resets. -/
inductive Stirs (s : State) : State → Prop
  | refl : Stirs s s
  | event {t : State} {k : Handled} (h : Stirs s t) (e : Event t k) (hhome : t.homeLaw → k.1.homeLaw) : Stirs s (settle k)
  | warm {t u : State} (h : Stirs s t) (haxes : ∀ a, u.axis a = (t.axis a).warm) (hcontexts : ∀ c : Fin 16, u.contexts[c] = contextStart)
      (hqueues : ∀ a, u.queue a = []) (hpermits : u.permits = u.workedPermits) (hhome : t.homeLaw → u.homeLaw) : Stirs s u

section
variable (h : t.deck = s.deck)
include h

theorem State.traffic_of_deck : t.traffic = s.traffic := congrArg (·.1) h
theorem State.permits_of_deck : t.permits = s.permits := congrArg (·.2.1) h
theorem State.unsettled_of_deck : t.unsettled = s.unsettled := congrArg (·.2.2.1) h

theorem State.workedPermits_of_deck : t.workedPermits = s.workedPermits := by
  have haxes := State.axes_of_traffic (State.traffic_of_deck h)
  have hlocks : t.config.interlocks = s.config.interlocks := congrArg (·.2.2.2.1) h
  have hlevel : t.config.deckLevel = s.config.deckLevel := congrArg (·.2.2.2.2.1) h
  have hspeed : t.config.speedLimit = s.config.speedLimit := congrArg (·.2.2.2.2.2.1) h
  have hsensors : t.sensors = s.sensors := congrArg (·.2.2.2.2.2.2.1) h
  have hinputs : t.inputs = s.inputs := congrArg (·.2.2.2.2.2.2.2.1) h
  have hvessel : t.vessel = s.vessel := congrArg (·.2.2.2.2.2.2.2.2.1) h
  have htest (n : Fin 16) : t.test n = s.test n := by
    unfold State.test
    rw [haxes, hlevel, hspeed, hsensors, hinputs, hvessel]
  have hworked (a : Axis) (d : Direction) : t.workedPermit a d = s.workedPermit a d := by
    simp only [State.workedPermit, State.permitOf, hlocks, htest]
  simp only [State.workedPermits, hworked]

theorem State.homeLaw_of_deck : s.homeLaw → t.homeLaw := by
  have hinputs : t.inputs = s.inputs := congrArg (·.2.2.2.2.2.2.2.1) h
  have hcount : t.gypsy.count = s.gypsy.count := congrArg (·.2.2.2.2.2.2.2.2.2) h
  rw [State.homeLaw, State.homeLaw, hinputs, hcount]
  exact id

end

/-- Signals after changes that the axes, the programs and the permits do not read. -/
theorem Stirs.settled {k : Handled} (h : Stirs r s) (e : k.1.deck = s.deck) (hl : noneFreed k.2) : Stirs r (settle k) :=
  h.event (.signals (State.traffic_of_deck e) (State.permits_of_deck e) (State.unsettled_of_deck e)
    (.inl (State.workedPermits_of_deck e)) hl) (State.homeLaw_of_deck e)

theorem Stirs.quiet (h : Stirs r s) (e : u.deck = s.deck) : Stirs r u := by
  rw [← settle_nil u]
  exact h.settled e fun _ _ hm => by cases hm

/-- One signal, after changes that the axes, the programs and the permits do not read. -/
theorem Stirs.sent (h : Stirs r s) (x : Signal) (e : t.deck = s.deck) (hx : x.mild = true) : Stirs r (t.send x) :=
  h.settled e (noneFreed_of_mild (by simp [allMild, hx]))

/-- Other readings of the tests, and an evaluation among the signals. -/
theorem Stirs.tested {k : Handled} (h : Stirs r s) (htraffic : k.1.traffic = s.traffic) (hpermits : k.1.permits = s.permits)
    (hunsettled : k.1.unsettled = s.unsettled) (heval : .evaluatePermits ∈ k.2) (hl : noneFreed k.2)
    (hhome : s.homeLaw → k.1.homeLaw) : Stirs r (settle k) :=
  h.event (.signals htraffic hpermits hunsettled (.inr heval) hl) hhome

theorem Stirs.reply (kind tag : Byte) (result : Result) (fields : List Byte) (h : Stirs r s) :
    Stirs r (s.reply kind tag result fields) := h.quiet rfl

/-- An event whose own changes the axes, the programs and the permits do not read, and its reply. -/
theorem Stirs.answered {k : Handled} {kind tag : Byte} {result : Result} {fields : List Byte} (h : Stirs r s)
    (e : k.1.deck = s.deck) (hl : noneFreed k.2) : Stirs r ((Machine.settle k).reply kind tag result fields) :=
  (h.settled e hl).reply _ _ _ _

theorem Stirs.ite {c : Prop} [Decidable c] (ht : Stirs r t) (hu : Stirs r u) : Stirs r (if c then t else u) := by
  split
  · exact ht
  · exact hu

theorem Stirs.foldl {α : Type} {f : State → α → State} (hf : ∀ {t : State}, Stirs r t → ∀ x, Stirs r (f t x)) (l : List α)
    (h : Stirs r s) : Stirs r (l.foldl f s) := by
  induction l generalizing s with
  | nil => exact h
  | cons x rest ih => exact ih (hf h x)

theorem State.kick_deck (s : State) : s.kick.deck = s.deck := by
  unfold State.kick
  (repeat' split) <;> rfl

theorem Stirs.kick (h : Stirs r s) : Stirs r s.kick := h.quiet s.kick_deck

/-! ## Requests -/

theorem recallScene_cases {P : Handled → Prop} {z : Fin 24} {n : Fin 32} (hnot : P (s, []))
    (hzone : ∀ f, P (changeZone true z f s)) : P (recallScene z n s) := by
  unfold recallScene
  dsimp only
  split
  · exact hnot
  · exact hzone _

/-- A recalled scene changes its zone alone. -/
theorem Stirs.recalled {z : Fin 24} {n : Fin 32} (h : Stirs r s) : Stirs r (Machine.settle (recallScene z n s)) :=
  recallScene_cases (P := fun k => Stirs r (Machine.settle k)) (h.settled rfl fun _ _ hm => by cases hm)
    fun _ => h.settled rfl (noneFreed_of_mild (settleZone_mild ..))

/-- A request that runs no signals changes nothing that the axes, the programs and the permits read, but OPEN_PROGRAM. -/
theorem carryOut_deck (i : Instr) (h : runsNoSignals i = true) (hopen : ∀ tag c a, i ≠ .openProgram tag c a) :
    (carryOut i s).deck = s.deck := by
  have notice (tag : Byte) (p n : Nat) (zones : List Nat) : (takeChimePlay tag p n zones s).deck = s.deck := by
    unfold takeChimePlay State.joinNotice
    (repeat' split) <;> rfl
  cases i
  case openProgram tag c a => exact absurd rfl (hopen tag c a)
  case chimePlay tag p n zones => exact notice tag p n zones
  all_goals cases h
  all_goals simp only [carryOut, takeGetPanel, takeReset, takeSetLink, takeGetBudget, takeGetZone, takeStoreScene, takeCueCommit,
    takeCueStatus, takeGetAxis, takeGetProgram, takeSetPattern, takeSetPanel, takeSetBinding, takeSaveConfig, takeCueAdd, takeCueClear]
  all_goals
    repeat' split
    all_goals rfl

theorem noneFreed_nil : noneFreed [] := fun _ _ h => by cases h

/-- A panel hands a press or a release on. -/
theorem panelEvent_noneFreed (p : Fin 12) (f : Panel → Panel × Option Handed) (s : State) : noneFreed (panelEvent p f s).2 := by
  intro c e hm
  obtain ⟨x, -, hx⟩ := Option.mem_map.1 (Option.mem_toList.1 hm)
  cases x <;> cases hx

/-- A program opened for the Link (R97). -/
theorem takeOpenProgram_stirs (tag : Byte) (c a : Nat) (h : Stirs r s) : Stirs r (takeOpenProgram tag c a s) := by
  unfold takeOpenProgram
  split
  · split
    · exact h.quiet rfl
    · next c a _ _ hfree =>
      have hopened : Stirs r (settle (s.bind c .link a, [])) := h.event (.opened (not_not.1 hfree)) id
      rw [settle_nil] at hopened
      exact hopened.quiet rfl
  · exact h.quiet rfl

/-- An event of one axis or one program reads nothing but what signals leave alone, so it keeps the law of the home switch. -/
theorem homeLaw_of_still (h : t.still = s.still) : s.homeLaw → t.homeLaw := by
  obtain ⟨-, -, -, -, -, -, -, -, -, hcount, hinputs, -⟩ := State.fixed_fields (State.fixed_of_still h)
  rw [State.homeLaw, State.homeLaw, hinputs, hcount]
  exact id

/-- An event of one axis or one program, and its reply. -/
theorem Stirs.acted {k : Handled} {kind tag : Byte} {result : Result} {fields : List Byte} (h : Stirs r s) (e : Event s k)
    (hstill : k.1.still = s.still) : Stirs r ((Machine.settle k).reply kind tag result fields) :=
  (h.event e (homeLaw_of_still hstill)).reply _ _ _ _

theorem Stirs.cancelled (mode : Nat) (cancel : Fin 16 → State → Handled) (tag : Byte) (c : Nat)
    (hc : ∀ c, Stirs r (settle (cancel c s))) (h : Stirs r s) : Stirs r (takeCancel mode cancel tag c s) := by
  unfold takeCancel
  (repeat' split)
  exacts [h.quiet rfl, h.quiet rfl, (hc _).reply _ _ _ _]

/-- Every request is made of events. -/
theorem Stirs.carryOut (i : Instr) (h : Stirs r s) : Stirs r (carryOut i s) := by
  cases i with
  | setSupply tag n m =>
    simp only [Machine.carryOut, takeSetSupply]
    (repeat' split)
    exacts [h.quiet rfl, h.answered rfl (noneFreed_of_mild rfl)]
  | setSlot tag k e p c d o =>
    simp only [Machine.carryOut, takeSetSlot]
    (repeat' split)
    exacts [h.quiet rfl, h.quiet rfl, h.answered rfl (noneFreed_of_mild rfl)]
  | setAuxDemand tag k d =>
    simp only [Machine.carryOut, takeSetAuxDemand]
    (repeat' split)
    exacts [h.quiet rfl, h.quiet rfl, h.answered rfl (noneFreed_of_mild rfl)]
  | setZone tag z f =>
    have hwritten (z : Fin 24) (before : ZoneConfig) (u : State) :
        (zoneWritten z before u).1.deck = u.deck ∧ noneFreed (zoneWritten z before u).2 := by
      unfold zoneWritten
      dsimp only
      (repeat' split) <;> exact ⟨rfl, noneFreed_of_mild rfl⟩
    simp only [Machine.carryOut, takeSetZone]
    (repeat' split)
    exacts [h.quiet rfl, h.quiet rfl, h.quiet rfl, h.answered ((hwritten ..).1.trans rfl) (hwritten ..).2]
  | setLevels tag z l fade =>
    have hlevels (z : Fin 24) : Stirs r (settle (levelsEvent z l fade s)) := by
      unfold levelsEvent
      split
      · exact h.settled rfl noneFreed_nil
      · exact h.settled rfl (noneFreed_of_mild (settleZone_mild ..))
    simp only [Machine.carryOut, takeSetLevels]
    split
    exacts [h.quiet rfl, (hlevels _).reply _ _ _ _]
  | setSetpoint tag z v =>
    simp only [Machine.carryOut, takeSetSetpoint]
    split
    exacts [h.quiet rfl, h.answered rfl (noneFreed_of_mild (settleZone_mild ..))]
  | setMode tag z v =>
    simp only [Machine.carryOut, takeSetMode]
    split
    exacts [h.quiet rfl, h.answered rfl (noneFreed_of_mild (settleZone_mild ..))]
  | recallScene tag z n =>
    simp only [Machine.carryOut, takeRecallScene]
    split
    exacts [h.recalled.reply _ _ _ _, h.quiet rfl]
  | setAxis tag a f =>
    simp only [Machine.carryOut, takeSetAxis]
    (repeat' split)
    · exact h.quiet rfl
    · exact h.quiet rfl
    · exact h.quiet rfl
    · next a _ _ _ c _ =>
      have hlists : noneFreed (axisWritten a s (storeAxis a c f s)).2 := by
        unfold axisWritten
        dsimp only
        (repeat' split) <;> exact fun _ _ hm => by simp at hm
      refine Stirs.reply _ _ _ _ (h.event (.signals rfl rfl rfl ?_ hlists) id)
      by_cases hlevel : s.config.deckLevel = (storeAxis a c f s).config.deckLevel
      · have hdeck : (storeAxis a c f s).deck = (s.traffic, s.permits, s.unsettled, s.config.interlocks,
            (storeAxis a c f s).config.deckLevel, s.config.speedLimit, s.sensors, s.inputs, s.vessel, s.gypsy.count) := rfl
        rw [← hlevel] at hdeck
        exact .inl (State.workedPermits_of_deck hdeck)
      · exact .inr (by simp [axisWritten, hlevel])
  | ackFault tag a =>
    simp only [Machine.carryOut, takeAckFault]
    split
    · exact h.quiet rfl
    · next a _ =>
      split
      · exact h.quiet rfl
      · next hf =>
        split
        · exact h.quiet rfl
        · exact h.acted (.acknowledged (not_not.1 hf)) (acknowledge_leavesTests s a).still
  | openProgram tag c a => exact takeOpenProgram_stirs tag c a h
  | programStep tag c f =>
    simp only [Machine.carryOut, takeProgramStep]
    split
    · exact h.quiet rfl
    · next c _ =>
      split
      · exact h.quiet rfl
      · exact h.acted .broken (breakAdmission_cases (P := fun k => k.1.still = s.still) (fun _ => rfl) rfl)
      · exact h.acted .admitted (admitStep_still ..)
  | cancelAtBoundary tag c =>
    refine h.cancelled _ _ _ _ fun c => h.event .cancelled (homeLaw_of_still ?_)
    exact cancelBoundary_cases (P := fun k => k.1.still = s.still) (fun _ _ _ => rfl) rfl rfl
  | cancelImmediate tag c =>
    refine h.cancelled _ _ _ _ fun c => ?_
    unfold cancelNow
    split <;> exact h.settled rfl fun _ _ hm => by simp at hm
  | pauseProgram tag c =>
    simp only [Machine.carryOut, takePauseProgram]
    (repeat' split)
    exacts [h.quiet rfl, h.quiet rfl, (h.sent _ rfl rfl).reply _ _ _ _, h.quiet rfl]
  | resumeProgram tag c =>
    simp only [Machine.carryOut, takeResumeProgram]
    (repeat' split)
    exacts [h.quiet rfl, h.quiet rfl, h.acted .resumed (resumeHolds_leavesTests ..).still]
  | setInterlock tag a d l =>
    simp only [Machine.carryOut, takeSetInterlock]
    (repeat' split)
    exacts [h.quiet rfl, h.quiet rfl, h.quiet rfl,
      (h.tested rfl rfl rfl (by simp) (noneFreed_of_mild rfl) id).reply _ _ _ _, h.quiet rfl]
  | setInterlockCommon tag c =>
    simp only [Machine.carryOut, takeSetInterlockCommon]
    (repeat' split)
    · exact h.quiet rfl
    · exact h.quiet rfl
    · refine Stirs.reply _ _ _ _ ?_
      have hstored (speed rating : Nat) :
          Stirs r (({ s with config := { s.config with speedLimit := speed, pumpRating := rating } } : State).send .evaluatePermits) :=
        h.tested rfl rfl rfl (by simp) (noneFreed_of_mild rfl) id
      simp only [storeCommon, State.postRating]
      split
      · exact (hstored _ _).sent _ rfl rfl
      · exact hstored _ _
  | setVessel tag v a b c => exact (h.tested rfl rfl rfl (by simp) (noneFreed_of_mild rfl) id).reply _ _ _ _
  | setTagmap tag p e f =>
    simp only [Machine.carryOut, takeSetTagmap]
    (repeat' split)
    exacts [h.quiet rfl, h.quiet rfl, h.answered rfl (panelEvent_noneFreed _ _ _), h.quiet rfl]
  | _ => exact h.quiet (carryOut_deck _ rfl (by simp))

/-! ## The input buffer and the receiver -/

theorem Stirs.serve (n : Nat) (h : Stirs r s) : Stirs r (serve n s) := by
  induction n generalizing s with
  | zero => exact h
  | succ n ih =>
    have carried (f : Frame) {u : State} (hu : Stirs r u) : Stirs r (carryFrame f u) := by
      unfold carryFrame
      split
      exacts [hu.quiet rfl, hu.quiet rfl, hu.quiet rfl, hu.carryOut _]
    unfold Machine.serve
    (repeat' split)
    exacts [h, ih (Stirs.kick (carried _ (h.quiet rfl))), h]

theorem Stirs.receive (flush : Bool) (n : Nat) (h : Stirs r s) : Stirs r (receive flush n s) := by
  have offered (f : Frame) {u : State} (hu : Stirs r u) : Stirs r (goodFrame f u) := by
    unfold goodFrame
    dsimp only
    exact .ite (Stirs.serve _ (hu.quiet rfl)) (hu.quiet rfl)
  induction n generalizing s with
  | zero => exact h
  | succ n ih =>
    unfold Machine.receive
    (repeat' split)
    exacts [ih (h.quiet rfl), h, ih (h.quiet rfl), ih (offered _ (h.quiet rfl))]

theorem Stirs.takeByte (b : LineByte) (h : Stirs r s) : Stirs r (takeByte s b) := .ite (Stirs.receive _ _ (h.quiet rfl)) h

/-! ## Resets -/

theorem State.failSave_deck (s : State) : s.failSave.deck = s.deck := by
  unfold State.failSave
  split <;> rfl

theorem Stirs.post (h : Stirs r s) (key : ReportKey) (content : List Byte) : Stirs r (s.post key content) := h.quiet rfl

theorem Stirs.endStartUp (h : Stirs r s) : Stirs r s.endStartUp :=
  (Stirs.foldl (fun h _ => h.post _ _) allAxes h).post _ _

theorem Stirs.startUp (e : EepromAnswer) (levels : Inputs) (d : Nat) (sensors : Sensors) (n : Nat) (k : ResetKind)
    (h : Stirs r s) : Stirs r (startUp e levels (startLive d sensors n k s)) := by
  have hstarted : Stirs r (install levels (loadImage e (startLive d sensors n k s))) := by
    refine h.event (.started (fun a => ?_) (fun c => ?_) (fun a => ?_) rfl (by simp) ?_) fun _ hactive => ?_
    · cases a <;> rfl
    · exact Vector.getElem_replicate ..
    · cases a <;> rfl
    · exact noneFreed_append (fun _ _ hm => by simp at hm) (noneFreed_of_mild rfl)
    · exact if_pos hactive
  refine (Stirs.foldl (fun {t} ht z => ?_) allZones hstarted).endStartUp
  unfold startZone
  dsimp only
  split
  · exact ht.recalled.quiet rfl
  · exact ht.quiet rfl

/-- A due WARM reset (R185). -/
theorem Stirs.warmReset (h : Stirs r s) (hdue : s.resetDue .warm = true) (e : exec .warmReset s = .next t) : Stirs r t := by
  obtain ⟨l, hexec, -⟩ := exec_warmReset_due hdue
  have hkept := s.warmZones_settled.kept
  generalize s.warmZones = w at hexec hkept
  obtain rfl := Host.Outcome.next.inj (e.symm.trans hexec)
  obtain ⟨n, store, hsave, -⟩ := failSave_eq s
  have hstart : s.warmStart = startWarm { s with freeIndex := n, store := store } := by rw [State.warmStart, hsave]
  rw [hstart] at hkept
  have hmotion := congrArg Prod.fst hkept.standing
  have haxes := congrArg Motion.axes hmotion
  have hcontexts := congrArg Motion.contexts hmotion
  have hqueues := congrArg Motion.queues hmotion
  refine h.warm (fun a => ?_) (fun c => ?_) (fun a => ?_) rfl fun hhome => (homeLaw_of_still hkept.still hhome : w.homeLaw)
  · refine (congrArg (PerAxis.get · a) haxes).trans ?_
    cases a <;> rfl
  · refine (congrArg (·[c]) hcontexts).trans ?_
    exact Vector.getElem_replicate ..
  · refine (congrArg (PerAxis.get · a) hqueues).trans ?_
    cases a <;> rfl

/-! ## Commands and steps -/

/-- Every command is made of events. -/
theorem exec_stirs (h : Stirs r s) (i : Instr) (e : exec i s = .next t) : Stirs r t := by
  have request : Stirs r (carryOut i s).kick := (h.carryOut i).kick
  have failed : Stirs r s.failSave := h.quiet s.failSave_deck
  cases i with
  | powerOn image levels =>
    obtain rfl := carried_eq e
    exact (failed.startUp image levels _ _ _ _).kick
  | coldReset image levels => cases e; exact .kick (.ite (failed.startUp image levels _ _ _ _) h)
  | warmReset =>
    by_cases hdue : s.resetDue .warm = true
    · exact h.warmReset hdue e
    · obtain rfl := carried_eq e
      rw [if_neg hdue]
      exact h.kick
  | frameReceived bytes => cases e; exact .kick (.foldl (fun h b => h.takeByte b) bytes h)
  | byteGapExpiry => cases e; exact .kick (.ite (h.receive _ _) h)
  | frameSent =>
    cases e
    cases s.link.sending with
    | none => exact h.kick
    | some x =>
      refine .kick (.serve _ (Stirs.kick (h.quiet ?_)))
      split <;> rfl
  | linkSilenceExpiry =>
    cases e
    exact .kick (.ite (h.settled rfl (noneFreed_of_mild (allMild_map _ _ fun _ => rfl))) h)
  | baseLoadSample load => cases e; exact .kick (h.settled rfl (noneFreed_of_mild rfl))
  | meterSilenceExpiry => cases e; exact .kick (.ite (h.settled rfl (noneFreed_of_mild rfl)) h)
  | holdOffExpiry k => cases e; exact .kick (.ite (h.settled rfl (noneFreed_of_mild rfl)) h)
  | outputFrame =>
    cases e
    refine .kick (h.settled rfl (noneFreed_of_mild ?_))
    rw [frameSignals, allMild_append]
    refine Bool.and_eq_true_iff.2 ⟨List.all_eq_true.2 fun y hy => ?_, rfl⟩
    obtain ⟨z, -, hy⟩ := List.mem_flatMap.1 hy
    rcases List.mem_pair.1 hy with rfl | rfl <;> rfl
  | temperatureSample z x => cases e; exact .kick (h.settled rfl (noneFreed_of_mild rfl))
  | lossTimerExpiry z => cases e; exact .kick (.ite (h.settled rfl (noneFreed_of_mild rfl)) h)
  | capTimerExpiry => cases e; exact .kick (.ite (h.quiet rfl) h)
  | positionSample a x =>
    cases e
    refine .kick ?_
    unfold positionEvent
    (repeat' split) <;> exact h.tested rfl rfl rfl (by simp) (fun _ _ hm => by simp at hm) id
  | staleTimerExpiry a =>
    cases e
    exact .kick (.ite (h.tested rfl rfl rfl (by simp) (fun _ _ hm => by simp at hm) id) h)
  | windlassPulse x =>
    cases e
    refine .kick (h.event (.signals rfl rfl rfl (.inl rfl) ?_) fun hhome hactive => if_pos hactive)
    unfold rodeSignals
    (repeat' split) <;> exact fun _ _ hm => by simp at hm
  | anchorHomeChange x =>
    cases e
    have changed (u : State) (htraffic : u.traffic = s.traffic) (hpermits : u.permits = s.permits)
        (hunsettled : u.unsettled = s.unsettled) (hhome : s.homeLaw → u.homeLaw) :
        Stirs r (settle (if rodeSignals s u = [] then (u, [.evaluatePermits]) else positionEvent .windlass (s.measured .windlass) u)) := by
      unfold positionEvent
      (repeat' split) <;> exact h.tested htraffic hpermits hunsettled (by simp) (fun _ _ hm => by simp at hm) hhome
    exact .kick (changed _ rfl rfl rfl fun _ hactive => if_pos hactive)
  | overloadInput x =>
    cases e
    refine .kick (h.event (.signals rfl rfl rfl (.inl rfl) ?_) id)
    split <;> exact fun _ _ hm => by simp at hm
  | warnTimeReached a =>
    cases e
    exact .kick (.ite (h.event (.timed (fun hl => hl) rfl rfl (noneFreed_of_mild rfl)) id) h)
  | prepareTimerExpiry a =>
    cases e
    refine .kick (.ite (h.event (.timed (fun hl => ?_) rfl rfl fun _ _ hm => ?_) id) h)
    · obtain ⟨hfault, hmoving, hoff, htimers, hrest⟩ := hl
      exact ⟨hfault, hmoving, hoff, fun hs => ⟨(htimers hs).1, rfl⟩, hrest⟩
    · simp at hm
  | stallWindowExpiry a =>
    cases e
    refine .kick ?_
    split
    · next w _ hw _ =>
      refine .ite ?_ (h.settled rfl fun _ _ hm => by simp at hm)
      rw [← settle_nil (State.onAxis ..)]
      refine h.event (.timed (fun hl => ?_) rfl rfl noneFreed_nil) id
      obtain ⟨hfault, hmoving, hoff, hrest⟩ := hl
      exact ⟨hfault, hmoving, fun hs => (by rw [(hoff hs).2] at hw; cases hw), hrest⟩
    · exact h
  | dwellEnd a => cases e; exact .kick (.ite (h.settled rfl (noneFreed_of_mild rfl)) h)
  | stopTimerExpiry a => cases e; exact .kick (.ite (h.event .stopped (homeLaw_of_still (endStop_still ..))) h)
  | starvationTimerExpiry c => cases e; exact .kick (.ite (h.settled rfl fun _ _ hm => by simp at hm) h)
  | fieldInputChange x b =>
    cases e
    refine .kick (h.tested rfl rfl rfl (by simp) (noneFreed_of_mild rfl) fun hhome hactive => hhome ?_)
    cases x <;> exact hactive
  | vesselAgeingExpiry =>
    cases e
    exact .kick (.ite (h.tested rfl rfl rfl (by simp) (noneFreed_of_mild rfl) id) h)
  | motionNoteEnd a =>
    cases e
    refine Stirs.kick (h.quiet ?_)
    unfold motionNote
    split <;> rfl
  | noticeNoteEnd =>
    cases e
    refine Stirs.kick (h.quiet ?_)
    unfold noticeNote
    dsimp only
    (repeat' split) <;> rfl
  | panelFrame p f =>
    cases e
    refine .kick ?_
    unfold panelFrame
    split
    · exact h.settled rfl (panelEvent_noneFreed _ _ _)
    · exact h.settled rfl noneFreed_nil
  | panelSilenceExpiry p => cases e; exact .kick (.ite (h.settled rfl (panelEvent_noneFreed _ _ _)) h)
  | releaseTimerExpiry a =>
    cases e
    refine .kick ?_
    split
    · exact .ite (h.settled rfl fun _ _ hm => by simp at hm) h
    · exact h
  | saveComplete x =>
    cases e
    refine .kick ?_
    split
    exacts [h, h.quiet rfl, failed.quiet rfl, failed.quiet rfl]
  | saveTimerExpiry => cases e; exact .kick (.ite (failed.quiet rfl) h)
  | _ => cases e; exact request

/-- Every step is made of events. -/
theorem step_stirs (e : step s = .next t) : Stirs s t := by
  unfold step at e
  split at e
  · cases e
    exact .quiet .refl rfl
  · next i rest _ =>
    exact exec_stirs (s := { s with pending := rest }) (.quiet .refl rfl) i e

end Sys2Proof.Machine
end

section
/-! The laws that every step keeps: of the axis records (R69 to R85), of contexts and queues (R95, R96, R103), of the permits (R121,
R123), and of the home switch (R66). -/

namespace Sys2Proof.Machine

variable {s t : State}

theorem sendOn_axesLawful (item : Outgoing) (h : s.axesLawful) : (sendOn item s).1.axesLawful := fun a => by
  rw [State.axis_congr (State.axes_of_traffic (sendOn_traffic item s))]
  exact h a

/-- A settled event leaves a law of the state alone, also where it outruns its bound. -/
theorem SignalLaw.settled_always {P : State → Prop} (L : SignalLaw fun _ s => P s) (hset : ∀ s, P s → P { s with unsettled := true })
    {k : Handled} (h : P k.1) : P (settle k) := by
  rcases L.run signalBound [] (l := k.2) h with hs | ⟨-, u, hu, he⟩
  · exact hs
  · rw [settle, he]
    exact hset u hu

theorem axesLawful_law : SignalLaw fun _ s => s.axesLawful :=
  .always (P := State.axesLawful) (fun x _ h => handle_axesLawful x h) fun item _ h => sendOn_axesLawful item h

theorem bound_law : SignalLaw fun _ s => s.bound :=
  .always (P := State.bound) (fun x _ h => handle_bound x h) fun item _ h => h.of_links (State.links_of_traffic (sendOn_traffic item _))

theorem AxisRecord.warm_lawful (r : AxisRecord) : r.warm.lawful := by
  unfold AxisRecord.warm
  cases r.fault <;> simp [AxisRecord.lawful, axisStart, noHolds]

theorem AxisRecord.warm_current (r : AxisRecord) : r.warm.current = none := rfl

theorem AxisRecord.warm_state (r : AxisRecord) : r.warm.state ≠ .moving := by
  unfold AxisRecord.warm
  dsimp only
  split <;> simp

/-- Events keep the axis records lawful. -/
theorem Stirs.axesLawful (h : Stirs s t) (hs : s.axesLawful) : t.axesLawful := by
  induction h with
  | refl => exact hs
  | event _ e _ ih => exact axesLawful_law.settled_always (fun _ h => h) (e.axesLawful ih)
  | warm _ haxes _ _ _ _ _ => exact fun a => by rw [haxes]; exact AxisRecord.warm_lawful _

/-- Settles O52: every event keeps the records lawful, and so does every signal that it sends. -/
theorem axisRecordsStayLawful : Obligations.AxisRecordsStayLawful := fun _ _ hs e => (step_stirs e).axesLawful hs

/-- Events keep contexts and queues bound, and leave heads and current steps in order. -/
theorem Stirs.queueLaw (h : Stirs s t) (hs : s.queueLaw) : t.queueLaw := by
  induction h with
  | refl => exact hs
  | @event t k _ e _ ih =>
    obtain ⟨hbound, hheads⟩ := (State.queueLaw_iff _).1 ih
    have hkept : (settle k).bound := bound_law.settled_always (fun _ h => h.of_links rfl) (e.bound hbound)
    refine (State.queueLaw_iff _).2 ⟨hkept, fun hu => (State.headLaw_iff hkept).2 ?_⟩
    have hsettled : t.unsettled = false := e.unsettled.symm.trans (settle_unsettled hu)
    exact orderly_law.settled (e.orderly hbound (hheads hsettled)) hu
  | @warm t u _ haxes hcontexts hqueues _ _ _ =>
    have hempty (a : Axis) : u.head a = none := by rw [State.head, hqueues]; rfl
    have hcurrent (a : Axis) : (u.axis a).current = none := by rw [haxes]; exact AxisRecord.warm_current _
    refine (State.queueLaw_iff _).2 ⟨State.bound_of_empty hcontexts hqueues, fun _ => ⟨fun a c hc => ?_, fun a _ => hcurrent a, fun a x hx => ?_⟩⟩
    · rw [hempty] at hc; cases hc
    · rw [hcurrent] at hx; cases hx

/-- Settles O54: the order of the signals on their way (`Orderly`) begins with every event and leaves the law of heads behind. -/
theorem queuesHoldTheirContexts : Obligations.QueuesHoldTheirContexts := fun _ _ hs e => (step_stirs e).queueLaw hs

/-- Events leave the permits worked out. -/
theorem Stirs.permitsFresh (h : Stirs s t) (hs : s.permitsFresh) : t.permitsFresh := by
  induction h with
  | refl => exact hs
  | event _ e _ ih =>
    intro hu
    have hsettled := e.unsettled.symm.trans (settle_unsettled hu)
    exact (permitsOwed_law.settled (e.permitsOwed (ih hsettled)) hu).resolve_right (by simp)
  | warm _ _ _ _ hpermits _ _ => exact fun _ => hpermits

/-- Events leave every movement permitted, where the records are lawful. -/
theorem Stirs.movesPermitted (h : Stirs s t) (hl : s.axesLawful) (hs : s.movesPermitted) : t.movesPermitted := by
  induction h with
  | refl => exact hs
  | event ht e _ ih =>
    intro hu a d hm hd
    have hsettled := e.unsettled.symm.trans (settle_unsettled hu)
    have hwarned := (movesWarned_law.settled ⟨e.axesLawful (ht.axesLawful hl), e.movesWarned (ih hsettled)⟩ hu).2 a d hm hd
    simpa using hwarned
  | warm _ haxes _ _ _ _ _ =>
    intro _ a d hm
    rw [haxes] at hm
    exact absurd hm (AxisRecord.warm_state _)

/-- Settles O55: an evaluation is owed until the permits are fresh, and a movement without its permit is told so before the event
ends. -/
theorem noAxisMovesWithoutItsPermit : Obligations.NoAxisMovesWithoutItsPermit := fun _ _ ⟨hl, hf, hm⟩ e =>
  ⟨(step_stirs e).axesLawful hl, (step_stirs e).permitsFresh hf, (step_stirs e).movesPermitted hl hm⟩

/-- Events keep the pulse count 0 while the home switch is active. -/
theorem Stirs.homeLaw (h : Stirs s t) (hs : s.homeLaw) : t.homeLaw := by
  induction h with
  | refl => exact hs
  | @event t k _ _ hhome ih =>
    have hstill : (settle k).still = k.1.still := by simp
    exact homeLaw_of_still hstill (hhome ih)
  | warm _ _ _ _ _ hhome ih => exact hhome ih

end Sys2Proof.Machine
end

section
/-! LINK_SILENCE_EXPIRY (R110): LINK_SILENT joins the hold set of each axis whose head program is the Link's, in axis order. -/

namespace Sys2Proof.Machine

variable {s t : State} {a : Axis}

/-! ## What a reason that joins leaves -/

/-- What no hold set touches: the zones, the Budget, the windlass's counters, the programs, the permits, the pump, the notices and the
staged cue. -/
def State.unheld (s : State) := (s.zones, s.budget, s.gypsy, s.contexts, s.queues, s.runs, s.permits, s.pump, s.chime.notices, s.cue)

theorem State.enterStopping_unheld (s : State) (a : Axis) : (s.enterStopping a).unheld = s.unheld := rfl

theorem State.enterHold_unheld (s : State) (a : Axis) : (s.enterHold a).unheld = s.unheld := rfl

theorem addHold_unheld (a : Axis) (reason : HoldReason) (s : State) : (addHold a reason s).unheld = s.unheld :=
  addHold_cases (P := fun t => t.unheld = s.unheld) (fun _ _ => (State.enterStopping_unheld ..).trans rfl)
    (fun _ _ => (State.enterHold_unheld ..).trans rfl) (fun _ _ _ _ => rfl) fun _ => rfl

/-- A reason that joins the hold set does what R79 to R81 say. -/
theorem addHold_takesHold (a : Axis) (reason : HoldReason) (s : State) :
    s.takesHold (addHold a reason s) a ((s.axis a).holds.has reason) ((s.axis a).holds.put reason true) := by
  refine addHold_cases (P := fun t => s.takesHold t a ((s.axis a).holds.has reason) ((s.axis a).holds.put reason true))
    (fun hs hr => ?_) (fun hs hr => ?_) (fun hm hd ht hr => ?_) fun hnot => ?_
  · refine (if_pos ⟨by simp [AxisRecord.takesReason, hs], hr⟩).mpr ?_
    simp [hs, State.withHolds]
  · refine (if_pos ⟨by simp [AxisRecord.takesReason, hs], hr⟩).mpr ?_
    simp [hs]
  · refine (if_pos ⟨ht, hr⟩).mpr ?_
    simp [hm, hd]
  · refine (if_neg fun h => ?_).mpr rfl
    rw [hnot h.1] at h
    cases h.2

/-- What a hold does to one axis is read from its record and the clock. -/
theorem State.takesHold.congr {u v : State} {held : Bool} {set : HoldSet} (h : s.takesHold t a held set) (haxis : u.axis a = s.axis a)
    (hnow : u.now = s.now) (ht : v.axis a = t.axis a) : u.takesHold v a held set := by
  unfold State.takesHold at h ⊢
  rw [haxis, hnow, ht]
  exact h

/-! ## Several axes take a reason -/

/-- Several axes take a reason, one after another. -/
def State.heldAll (s : State) (reason : HoldReason) (l : List Axis) : State := l.foldl (fun u a => addHold a reason u) s

theorem run_addHolds (n : Nat) (s : State) (reason : HoldReason) (l : List Axis) (h : l.length ≤ n) :
    run n [] (l.map fun a => .addHold a reason) s = s.heldAll reason l := by
  induction l generalizing n s with
  | nil => exact run_nil n [] s
  | cons a rest ih =>
    obtain ⟨m, rfl⟩ : ∃ m, n = m + 1 := ⟨n - 1, by simp at h; omega⟩
    rw [List.map_cons, run_succ, turn_handle _ _ _ _ (by simp)]
    exact ih m _ (by simpa using h)

theorem State.heldAll_keeps {α : Type} {f : State → α} {reason : HoldReason} (hf : ∀ a s, f (addHold a reason s) = f s) (s : State)
    (l : List Axis) : f (s.heldAll reason l) = f s := by
  induction l generalizing s with
  | nil => rfl
  | cons a rest ih => exact (ih _).trans (hf a s)

theorem State.heldAll_axis_other {reason : HoldReason} {l : List Axis} (h : a ∉ l) (s : State) :
    (s.heldAll reason l).axis a = s.axis a := by
  induction l generalizing s with
  | nil => rfl
  | cons b rest ih =>
    obtain ⟨hb, hrest⟩ := List.ne_and_not_mem_of_not_mem_cons h
    exact (ih hrest _).trans (addHold_axis_other reason s hb)

theorem State.heldAll_takesHold {reason : HoldReason} {l : List Axis} (h : a ∈ l) (hl : l.Nodup) (s : State) :
    s.takesHold (s.heldAll reason l) a ((s.axis a).holds.has reason) ((s.axis a).holds.put reason true) := by
  induction l generalizing s with
  | nil => cases h
  | cons b rest ih =>
    obtain ⟨hb, hrest⟩ := List.nodup_cons.1 hl
    by_cases hab : a = b
    · subst hab
      exact (addHold_takesHold a reason s).congr rfl rfl (State.heldAll_axis_other hb _)
    · have haxis := addHold_axis_other reason s hab
      have hnow : (addHold b reason s).now = s.now := (State.fixed_fields (State.fixed_of_still (addHold_still b reason s))).1
      have hlater := ih ((List.mem_cons.1 h).resolve_left hab) hrest (addHold b reason s)
      rw [haxis] at hlater
      exact hlater.congr haxis.symm hnow.symm rfl

theorem State.mem_linkAxes (s : State) (a : Axis) :
    a ∈ s.linkAxes ↔ (s.head a).any (fun c => s.contexts[c].owner == some .link && s.contexts[c].state != .queued) = true := by
  have ha : a ∈ allAxes := by cases a <;> decide
  rw [State.linkAxes, List.mem_filter]
  cases s.head a with
  | none => simp [ha]
  | some c => simp [ha]

theorem State.axes_of_core (h : t.core = s.core) : t.axes = s.axes :=
  (congrArg State.axes h : t.core.axes = s.core.axes)

theorem State.unheld_of_core (h : t.core = s.core) : t.unheld = s.unheld :=
  (congrArg State.unheld h : t.core.unheld = s.core.unheld)

/-- Settles O8: the reason joins each such axis, and an axis that takes it changes nothing but its record, its lane and its report. -/
theorem linkSilenceHoldsLinkPrograms : Obligations.LinkSilenceHoldsLinkPrograms := by
  intro s
  refine ⟨_, rfl, fun hnone => ?_, fun hsome => ?_⟩
  · rw [hnone, if_neg (by simp)]
    exact kick_becomes s
  rw [if_pos (Option.isSome_iff_ne_none.2 hsome)]
  let stopped : State := { s with link := { s.link with silenceDeadline := none } }
  have hlength : s.linkAxes.length ≤ signalBound := (List.length_filter_le _ _).trans (by decide)
  have hnodup : s.linkAxes.Nodup := List.Nodup.filter _ (by decide)
  have hsettled : settle (stopped, s.linkAxes.map fun a => .addHold a .linkSilent) = stopped.heldAll .linkSilent s.linkAxes :=
    run_addHolds signalBound stopped .linkSilent s.linkAxes hlength
  have hfollows : stopped.follows (stopped.heldAll .linkSilent s.linkAxes) := by
    rw [← hsettled]
    exact State.follows_of (settle_fixed _) (settle_aspect _ (allCalm_map _ _ fun _ => rfl))
  rw [show settle _ = _ from hsettled]
  have hheld (a : Axis) (h : a ∈ s.linkAxes) := State.heldAll_takesHold (reason := .linkSilent) h hnodup stopped
  have hother (a : Axis) (h : a ∉ s.linkAxes) := State.heldAll_axis_other (reason := .linkSilent) h stopped
  have hunheld : (stopped.heldAll .linkSilent s.linkAxes).unheld = s.unheld :=
    State.heldAll_keeps (addHold_unheld · _) stopped s.linkAxes
  generalize stopped.heldAll .linkSilent s.linkAxes = u at hfollows hheld hother hunheld
  replace hunheld := (State.unheld_of_core u.kick_core).trans hunheld
  simp only [State.unheld, Prod.mk.injEq] at hunheld
  obtain ⟨hzones, hbudget, hgypsy, hcontexts, hqueues, hruns, hpermits, hpump, hnotices, -⟩ := hunheld
  refine ⟨hfollows.kick, hzones, hbudget, hgypsy, hcontexts, hqueues, hruns, hpermits, hpump, hnotices, fun a => ?_⟩
  rw [State.axis_congr (State.axes_of_core u.kick_core)]
  by_cases ha : a ∈ s.linkAxes
  · have htakes := hheld a ha
    rw [State.mem_linkAxes] at ha
    rw [ha, Bool.true_and]
    by_cases htake : (s.axis a).takesReason = true ∧ (s.axis a).holds.linkSilent = false
    · rw [if_pos (by simp [htake])]
      exact (if_pos htake).mp htakes
    · rw [if_neg (by simpa using htake)]
      exact (if_neg htake).mp htakes
  · have hsame := hother a ha
    rw [State.mem_linkAxes, Bool.not_eq_true] at ha
    rw [ha, Bool.false_and, Bool.false_and, if_neg (by simp)]
    exact hsame

end Sys2Proof.Machine
end

section
/-! What the signals do to the PROGRAM_END reports that wait and to the run records: only the end of a context posts its report, and
without a press the run records only go. -/

namespace Sys2Proof.Machine

variable {s t : State} {a b : Axis} {c : Fin 16}

/-! ## The operations of the axes -/

/-- The PROGRAM_END report of a context that waits (R114). -/
def State.endEntry (s : State) (c : Fin 16) : Option ReportEntry := s.link.reports.find? (·.key = .programEnd c)

/-- What tells of the end of a context: its report, and the run records. -/
def State.papers (s : State) (c : Fin 16) : Option ReportEntry × PerAxis (Option RunRecord) := (s.endEntry c, s.runs)

theorem State.endEntry_of_papers (h : t.papers c = s.papers c) : t.endEntry c = s.endEntry c := congrArg Prod.fst h
theorem State.runs_of_papers (h : t.papers c = s.papers c) : t.runs = s.runs := congrArg Prod.snd h

theorem State.endEntry_of_lists (h : t.lists = s.lists) (c : Fin 16) : t.endEntry c = s.endEntry c := by
  rw [State.endEntry, State.reports_of_lists h]
  rfl

theorem State.post_endEntry {key : ReportKey} (h : key ≠ .programEnd c) (s : State) (content : List Byte) :
    (s.post key content).endEntry c = s.endEntry c := find_postTo_other h content _

theorem State.post_papers {key : ReportKey} (h : key ≠ .programEnd c) (s : State) (content : List Byte) :
    (s.post key content).papers c = s.papers c := Prod.ext (State.post_endEntry h s content) rfl

theorem State.reportEnd_endEntry (s : State) (c : Fin 16) (a : Axis) (e : EndStatus) :
    (s.reportEnd c a e).endEntry c = some ⟨.programEnd c, s.endContent c a e⟩ := find_postTo_same ..

theorem State.reportEnd_papers {d : Fin 16} (h : d ≠ c) (s : State) (a : Axis) (e : EndStatus) :
    (s.reportEnd d a e).papers c = s.papers c := State.post_papers (by simpa using h) ..

section
variable (s : State) (b : Axis) (c : Fin 16)

@[simp] theorem State.reportAxis_papers : (s.reportAxis b).papers c = s.papers c := State.post_papers (by simp) ..

@[simp] theorem State.withHolds_papers (v : HoldSet) : (s.withHolds b v).papers c = s.papers c := rfl

@[simp] theorem State.onAxis_papers (f : AxisRecord → AxisRecord) : (s.onAxis b f).papers c = s.papers c := rfl

@[simp] theorem State.onContext_papers (d : Fin 16) (f : Context → Context) : (s.onContext d f).papers c = s.papers c := rfl

@[simp] theorem State.moveTo_papers (new : AxisState) : (s.moveTo b new).papers c = s.papers c := rfl

@[simp] theorem State.enterHold_papers : (s.enterHold b).papers c = s.papers c := State.reportAxis_papers ..

@[simp] theorem State.enterStopping_papers : (s.enterStopping b).papers c = s.papers c := State.reportAxis_papers ..

@[simp] theorem State.enterIdle_papers : (s.enterIdle b).papers c = s.papers c := State.reportAxis_papers ..

@[simp] theorem State.startDwell_papers : (s.startDwell b).papers c = s.papers c := State.reportAxis_papers ..

@[simp] theorem State.enterFault_papers (k : FaultKind) : (s.enterFault b k).papers c = s.papers c := rfl

@[simp] theorem State.driveOn_papers : (s.driveOn b).papers c = s.papers c := by
  unfold State.driveOn
  split <;> rfl

@[simp] theorem State.takeStep_papers : (s.takeStep b).papers c = s.papers c := by
  unfold State.takeStep
  (repeat' split) <;> rfl

@[simp] theorem State.activateHead_papers : (s.activateHead b).papers c = s.papers c := by
  unfold State.activateHead
  (repeat' split) <;> rfl

@[simp] theorem State.travelReport_papers : (s.travelReport b).papers c = s.papers c := by
  unfold State.travelReport
  (repeat' split) <;> simp

@[simp] theorem State.entered_papers : (s.entered b).papers c = s.papers c := by
  have hstep : (s.withStep b).papers c = s.papers c := by
    unfold State.withStep
    split
    · exact s.takeStep_papers b c
    · rfl
  exact hstep

@[simp] theorem enterPreparing_papers : (enterPreparing b s).1.papers c = s.papers c := by
  rcases enterPreparing_state b s with h | h <;> (rw [h]; simp)

@[simp] theorem enterDwell_papers : (enterDwell b s).1.papers c = s.papers c := by
  have hstarted := s.startDwell_papers b c
  unfold enterDwell
  dsimp only
  (repeat' split) <;> exact hstarted

@[simp] theorem enterMoving_papers : (enterMoving b s).papers c = s.papers c :=
  (State.reportAxis_papers ..).trans ((State.driveOn_papers (s.moveTo b .moving) b c).trans rfl)

theorem nextStep_papers (d : Fin 16) : (nextStep b d s).1.papers c = s.papers c := by
  have htaken : (s.nextTaken b).papers c = s.papers c := s.takeStep_papers b c
  refine nextStep_cases (P := fun k => k.1.papers c = s.papers c) (fun _ => ?_) (fun _ => htaken)
    (fun _ _ => (enterDwell_papers ..).trans htaken) (fun _ _ _ => (enterMoving_papers ..).trans htaken)
    fun _ => (State.enterHold_papers ..).trans htaken
  exact (State.enterHold_papers (s.starving b d) b c).trans rfl

theorem endAxis_papers : (endAxis b s).1.papers c = s.papers c := by
  unfold endAxis
  dsimp only
  split
  iterate 3 exact (State.enterIdle_papers ..).trans rfl
  · exact (State.enterStopping_papers ..).trans rfl
  · split
    · rfl
    · exact (State.reportAxis_papers ..).trans rfl
  · rfl
  · rfl

theorem faultHead_papers (executed : Bool) : (faultHead b executed s).1.papers c = s.papers c :=
  faultHead_cases (P := fun k => k.1.papers c = s.papers c) (fun _ _ _ => rfl) (fun _ _ _ _ => rfl) fun _ => rfl

end

/-! ## The signals -/

/-- The signals that leave the run records and the PROGRAM_END reports. -/
def Signal.paperless : Signal → Bool
  | .endProgram _ _ | .freeContext _ _ | .press _ _ | .release _ _ => false
  | _ => true

theorem handle_papers {x : Signal} (hx : x.paperless = true) (s : State) (c : Fin 16) : (handle x s).1.papers c = s.papers c := by
  cases x with
  | post k d => simp only [handle, postDemand]; split <;> rfl
  | pass => simp [handle, State.papers, State.endEntry]
  | passEnd | lightDemand _ | climateWork _ | evaluatePermits => rfl
  | reportZone z before =>
    simp only [handle, reportZoneChange]
    split
    · exact State.post_papers (by simp) ..
    · rfl
  | cueFrame => simp only [handle, cueFrame]; (repeat' split) <;> rfl
  | cueApplied m n late => exact State.post_papers (key := .cueApplied) (by simp) s _
  | takeUp a => exact takeUp_cases (P := fun k => k.1.papers c = s.papers c) (fun _ _ _ _ _ => enterPreparing_papers ..) rfl
  | endEntry a => simp only [handle, endEntry]; split <;> rfl
  | testGates a =>
    exact testGates_cases (P := fun k => k.1.papers c = s.papers c) (fun _ _ _ _ _ _ => enterDwell_papers ..)
      (fun _ _ _ _ _ _ => enterMoving_papers ..) fun _ => rfl
  | endDwell a =>
    exact endDwell_cases (P := fun k => k.1.papers c = s.papers c) (fun _ _ _ _ => rfl) (fun _ _ _ => nextStep_papers ..) rfl
  | addHold a r =>
    exact addHold_cases (P := fun t => t.papers c = s.papers c) (fun _ _ => State.enterStopping_papers ..)
      (fun _ _ => State.enterHold_papers ..) (fun _ _ _ _ => (State.reportAxis_papers ..).trans rfl) fun _ => rfl
  | removeHold a r =>
    exact removeHold_cases (P := fun k => k.1.papers c = s.papers c)
      (fun _ _ _ => (enterPreparing_papers ..).trans (State.reportAxis_papers ..)) (fun _ _ _ => State.reportAxis_papers ..)
      (fun _ _ => State.reportAxis_papers ..) fun _ => rfl
  | travelled a p =>
    exact travelled_cases (P := fun k => k.1.papers c = s.papers c) (fun _ _ _ _ => enterDwell_papers ..)
      (fun _ _ _ _ _ => (State.travelReport_papers ..).trans (State.driveOn_papers ..)) (fun _ _ _ _ _ => State.driveOn_papers ..)
      fun _ => rfl
  | fault a k =>
    exact fault_cases (P := fun k => k.1.papers c = s.papers c) (fun _ => rfl) (fun _ _ => faultHead_papers ..) fun _ => rfl
  | reportFault a k p =>
    simp only [handle, reportFault]
    split
    · rfl
    · exact State.post_papers (by simp) ..
  | reportAxis a => exact s.reportAxis_papers a c
  | deliverPermit a d v => simp only [handle, deliverPermit]; (repeat' split) <;> rfl
  | requestPump h => simp only [handle, requestPump]; (repeat' split) <;> rfl
  | releasePump h => simp only [handle, releasePump]; (repeat' split) <;> rfl
  | handOver => simp only [handle, handOver]; (repeat' split) <;> rfl
  | actionResult p r m =>
    have hposted : (s.post (.panelAction p) m).papers c = s.papers c := State.post_papers (by simp) ..
    simp only [handle, actionResult]
    split
    · exact hposted
    · refine Eq.trans (Prod.ext ?_ ?_) hposted
      · exact State.endEntry_of_lists (State.denyTone_lists ..) c
      · unfold State.denyTone State.joinNotice
        (repeat' split) <;> rfl
  | endProgram _ _ | freeContext _ _ | press _ _ | release _ _ => cases hx

theorem sendOn_papers (item : Outgoing) (s : State) (c : Fin 16) : (sendOn item s).1.papers c = s.papers c := by
  have hzone (z : Fin 24) (before : Zone) (u : State) : (reportZoneChange z before u).papers c = u.papers c := by
    unfold reportZoneChange
    split
    · exact State.post_papers (by simp) ..
    · rfl
  cases item with
  | report content copy =>
    simp only [sendOn, reportBudget]
    split
    · rfl
    · exact State.post_papers (key := .budget) (by simp) s content
  | grant k g =>
    simp only [sendOn]
    rcases slot_cases k with ⟨z, rfl⟩ | ⟨z, rfl⟩ | rfl | rfl | hk
    · rw [deliverTo_light]
      exact (hzone ..).trans rfl
    · rw [deliverTo_climate]
      exact (hzone ..).trans rfl
    · rw [deliverTo_pump, deliverPump_state]
      rfl
    · rw [deliverTo_windlass, deliverWindlass_state]
      rfl
    · rw [deliverTo_aux k g s hk]

/-- Only its own end posts the report of a context that has an axis. -/
theorem handle_endEntry {x : Signal} (h : ∀ e, x = .endProgram c e → s.contexts[c].axis = none) :
    (handle x s).1.endEntry c = s.endEntry c := by
  cases x with
  | endProgram d e =>
    cases hd : s.contexts[d].axis with
    | none => rw [handle, endProgram_free e hd]
    | some a =>
      have hdc : d ≠ c := by
        rintro rfl
        rw [h e rfl] at hd
        cases hd
      have hreported : (s.reportEnd d a e).endEntry c = s.endEntry c := State.endEntry_of_papers (State.reportEnd_papers hdc ..)
      by_cases hexecuted : s.head a = some d ∧ s.contexts[d].state ≠ .queued
      · rw [handle, endProgram_executed e hd hexecuted]
        exact (State.endEntry_of_papers (endAxis_papers ..)).trans hreported
      · rw [handle, endProgram_waiting e hd hexecuted]
        exact hreported
  | freeContext d e =>
    cases hd : s.contexts[d].axis with
    | none => rw [handle, freeContext_free e hd]
    | some a =>
      by_cases he : e = .complete
      · subst he
        rw [handle, freeContext_complete hd]
        exact (State.endEntry_of_papers (State.activateHead_papers ..)).trans rfl
      · rw [handle, freeContext_stops he hd]
        rfl
  | press p n => exact State.endEntry_of_lists (press_lists p n s) c
  | release p n => simp only [handle, release]; split <;> rfl
  | _ => exact State.endEntry_of_papers (handle_papers rfl s c)

/-! ## The run records -/

/-- The run records of a state are of programs whose runs another state records. -/
def State.runsWithin (s t : State) : Prop := ∀ b q, t.runs.get b = some q → ∃ p, s.runs.get b = some p ∧ p.context = q.context

theorem State.runsWithin.of_eq (h : t.runs = s.runs) : s.runsWithin t := fun b q hq => ⟨q, by rw [← h]; exact hq, rfl⟩

theorem State.runsWithin.trans {u : State} (h : s.runsWithin t) (k : t.runsWithin u) : s.runsWithin u := fun b q hq => by
  obtain ⟨p, hp, hpq⟩ := k b q hq
  obtain ⟨o, ho, hop⟩ := h b p hp
  exact ⟨o, ho, hop.trans hpq⟩

theorem State.dropRuns_get (s : State) (c : Fin 16) (b : Axis) :
    (s.dropRuns c).runs.get b = (s.runs.get b).filter fun r => r.context != c := by cases b <;> rfl

/-- A released context takes its run record with it (R162). -/
theorem State.release_runs (s : State) (c : Fin 16) (a b : Axis) :
    (s.release c a).runs.get b = (s.runs.get b).filter fun r => r.context != c := State.dropRuns_get ..

theorem State.release_runsWithin (s : State) (c : Fin 16) (a : Axis) : s.runsWithin (s.release c a) := fun b q hq => by
  rw [State.release_runs] at hq
  exact ⟨q, (Option.filter_eq_some_iff.1 hq).1, rfl⟩

theorem handle_runsWithin {x : Signal} (hx : ∀ p n, x ≠ .press p n) (s : State) : s.runsWithin (handle x s).1 := by
  cases x with
  | endProgram d e =>
    refine .of_eq ?_
    cases hd : s.contexts[d].axis with
    | none => rw [handle, endProgram_free e hd]
    | some a =>
      by_cases hexecuted : s.head a = some d ∧ s.contexts[d].state ≠ .queued
      · rw [handle, endProgram_executed e hd hexecuted]
        exact (State.runs_of_papers (endAxis_papers (s.reportEnd d a e) a d)).trans rfl
      · rw [handle, endProgram_waiting e hd hexecuted]
        rfl
  | freeContext d e =>
    cases hd : s.contexts[d].axis with
    | none => rw [handle, freeContext_free e hd]; exact .of_eq rfl
    | some a =>
      by_cases he : e = .complete
      · subst he
        rw [handle, freeContext_complete hd]
        exact (s.release_runsWithin d a).trans (.of_eq (State.runs_of_papers (State.activateHead_papers (s.release d a) a d)))
      · rw [handle, freeContext_stops he hd]
        exact s.release_runsWithin d a
  | press p n => exact absurd rfl (hx p n)
  | release p n =>
    simp only [handle, release]
    split
    · next a r hfound =>
      intro b q hq
      obtain ⟨f, -, hf⟩ := List.exists_of_findSome?_eq_some hfound
      obtain ⟨o, ho, hname⟩ := Option.bind_eq_some_iff.1 hf
      split at hname
      · obtain ⟨rfl, rfl⟩ := Prod.mk.inj (Option.some.inj hname)
        by_cases hb : b = f
        · subst hb
          simp only [PerAxis.get_set_same] at hq
          obtain rfl := Option.some.inj hq
          exact ⟨_, ho, rfl⟩
        · simp only [PerAxis.get_set_other _ _ _ _ hb] at hq
          exact ⟨q, hq, rfl⟩
      · cases hname
    · exact .of_eq rfl
  | _ => exact .of_eq (State.runs_of_papers (handle_papers rfl s 0))

end Sys2Proof.Machine
end

section
/-! The end of a program with a status other than COMPLETE (R112, R113), as a law of the signals on their way (`Ending.on`): its
context and those behind it leave the queue, each with its report, and the axis comes to rest. -/

namespace Sys2Proof.Machine

variable {s t : State} {a b : Axis} {c d : Fin 16} {l k : List Signal}

/-! ## The contexts behind one -/

theorem behindIn_append {p q : List (Fin 16)} (h : d ∉ p) : behindIn d (p ++ q) = behindIn d q := by
  have hp : ∀ x ∈ p, decide (x ≠ d) = true := fun x hx => decide_eq_true (ne_of_mem_of_not_mem hx h)
  rw [behindIn, List.dropWhile_append_of_pos hp]
  rfl

theorem behindIn_cons_self (d : Fin 16) (q : List (Fin 16)) : behindIn d (d :: q) = q := by simp [behindIn]

theorem behindIn_cons_subset {x : Fin 16} {q : List (Fin 16)} : behindIn d (x :: q) ⊆ q := by
  by_cases h : x = d
  · subst h
    rw [behindIn_cons_self]
    exact List.Subset.refl q
  · rw [behindIn, List.dropWhile_cons_of_pos (by simpa using h)]
    exact behindIn_subset d q

/-- A queue stands as one context, those ahead of it and those behind it. -/
theorem State.bound.split (hs : s.bound) (hc : s.contexts[c].axis = some a) :
    s.queue a = (s.queue a).takeWhile (· ≠ c) ++ c :: behindIn c (s.queue a) := by
  have hmem := (hs.mem c a).2 hc
  have hdrop : (s.queue a).dropWhile (· ≠ c) = c :: behindIn c (s.queue a) := by
    cases h : (s.queue a).dropWhile (· ≠ c) with
    | nil => simpa using List.dropWhile_eq_nil_iff.1 h c hmem
    | cons x rest =>
      have hne : (s.queue a).dropWhile (fun d => decide (d ≠ c)) ≠ [] := by rw [h]; simp
      have hx := List.head_dropWhile_not _ hne
      simp only [h, List.head_cons] at hx
      have hx : x = c := by simpa using hx
      rw [behindIn, h, hx]
      rfl
  rw [← hdrop, List.takeWhile_append_dropWhile]

/-! ## The law of an end -/

/-- The end of the program of a context, from the state that it begins in, with the record that its axis comes to. -/
structure Ending where
  start : State
  axis : Axis
  context : Fin 16
  status : EndStatus
  record : AxisRecord

namespace Ending

variable (E : Ending)

/-- The contexts ahead of the one that ends. -/
def ahead : List (Fin 16) := (E.start.queue E.axis).takeWhile (· ≠ E.context)

/-- The contexts behind the one that ends. -/
def behind : List (Fin 16) := behindIn E.context (E.start.queue E.axis)

/-- The contexts that leave the queue. -/
def leaving : List (Fin 16) := E.context :: E.behind

/-- The status with which each of them ends (R113). -/
def statusOf (d : Fin 16) : EndStatus := if d = E.context then E.status else .abandoned

/-- The report of each (R114). -/
def report (d : Fin 16) : ReportEntry := ⟨.programEnd d, E.start.endContent d E.axis (E.statusOf d)⟩

/-- The signals of the end. -/
def ends : Signal → Prop
  | .freeContext d f => d ∈ E.leaving ∧ f = E.statusOf d
  | .endProgram d f => d ∈ E.behind ∧ f = .abandoned
  | _ => False

/-- A context has ended: it has no axis and no step, its report waits, and no run record names it. -/
structure done (s : State) (d : Fin 16) : Prop where
  axis : s.contexts[d].axis = none
  steps : s.contexts[d].steps = []
  report : s.endEntry d = some (E.report d)
  runs : ∀ b q, s.runs.get b = some q → q.context ≠ d

/-- A context is still to end: its freeing is on its way, or its end is, or that of the context that it stands behind. -/
def due (l : List Signal) (s : State) (d : Fin 16) : Prop :=
  .freeContext d (E.statusOf d) ∈ l ∨ d ∈ E.behind ∧ (s.contexts[E.context].axis = some E.axis ∨ .endProgram d .abandoned ∈ l)

/-- An end under way: what has left the queue has ended, the rest is whole, and nothing on the way moves the axis. -/
structure on (l : List Signal) (s : State) : Prop where
  order : Orderly l s
  still : s.still = E.start.still
  record : E.record.stays (s.axis E.axis)
  runs : E.start.runsWithin s
  queue : s.queue E.axis = (E.start.queue E.axis).filter fun d => decide (s.contexts[d].axis = some E.axis)
  whole : ∀ d : Fin 16, s.contexts[d].axis = some E.axis → s.contexts[d] = E.start.contexts[d]
  ahead : ∀ d ∈ E.ahead, s.contexts[d].axis = some E.axis
  others : ∀ y ∈ l, E.ends y ∨ (E.record.parked ∧ y.spares s E.axis)
  told : ∀ d f, .freeContext d f ∈ l → s.contexts[d].axis = some E.axis → s.endEntry d = some (E.report d)
  dues : ∀ d ∈ E.leaving, E.done s d ∨ (s.contexts[d].axis = some E.axis ∧ E.due l s d)

/-- What an end begins with. -/
structure valid : Prop where
  bound : E.start.bound
  axis : E.start.contexts[E.context].axis = some E.axis
  stops : E.status ≠ .complete

end Ending

section
variable {E : Ending}

theorem Ending.statusOf_self : E.statusOf E.context = E.status := if_pos rfl

theorem Ending.valid.queue_split (v : E.valid) : E.start.queue E.axis = E.ahead ++ E.context :: E.behind := v.bound.split v.axis

theorem Ending.valid.nodup (v : E.valid) : (E.ahead ++ E.context :: E.behind).Nodup := v.queue_split ▸ v.bound.nodup E.axis

theorem Ending.valid.behind_ne (v : E.valid) (h : d ∈ E.behind) : d ≠ E.context := fun e =>
  (List.nodup_cons.1 (List.nodup_append.1 v.nodup).2.1).1 (e ▸ h)

theorem Ending.valid.statusOf_behind (v : E.valid) (h : d ∈ E.behind) : E.statusOf d = .abandoned := if_neg (v.behind_ne h)

theorem Ending.valid.statusOf_ne (v : E.valid) (d : Fin 16) : E.statusOf d ≠ .complete := by
  unfold Ending.statusOf
  split
  · exact v.stops
  · decide

theorem Ending.valid.ahead_ne (v : E.valid) (h : d ∈ E.leaving) {z : Fin 16} (hz : z ∈ E.ahead) : z ≠ d := fun e =>
  (List.nodup_append.1 v.nodup).2.2 z hz d h e

/-- The contexts behind the one that ends wait. -/
theorem Ending.valid.behind_queued (v : E.valid) (h : d ∈ E.behind) : E.start.contexts[d].state = .queued := by
  have hmem : d ∈ E.start.queue E.axis := by
    rw [v.queue_split]
    exact List.mem_append_right _ (List.mem_cons_of_mem _ h)
  have hd := (v.bound.mem d E.axis).1 hmem
  have hnot (hrun : E.start.contexts[d].state = .active ∨ E.start.contexts[d].state = .closing) : False := by
    have hhead := v.bound.head d E.axis hrun hd
    rw [State.head, v.queue_split] at hhead
    cases hahead : E.ahead with
    | nil =>
      rw [hahead] at hhead
      exact v.behind_ne h (Option.some.inj hhead).symm
    | cons x rest =>
      rw [hahead] at hhead
      exact v.ahead_ne (List.mem_cons_of_mem _ h) (hahead ▸ List.mem_cons_self) (Option.some.inj hhead)
  cases hstate : E.start.contexts[d].state with
  | queued => rfl
  | free => rw [(v.bound.free d).1 hstate] at hd; cases hd
  | active => exact (hnot (.inl hstate)).elim
  | closing => exact (hnot (.inr hstate)).elim

/-- Those behind a context that leaves leave too. -/
theorem Ending.valid.behind_leaving (v : E.valid) (p : Fin 16 → Bool) (h : d ∈ E.leaving) :
    behindIn d ((E.start.queue E.axis).filter p) ⊆ E.behind := by
  have hahead : d ∉ E.ahead.filter p := fun hd => v.ahead_ne h (List.mem_of_mem_filter hd) rfl
  rw [v.queue_split, List.filter_append, behindIn_append hahead]
  by_cases hp : p E.context = true
  · rw [List.filter_cons_of_pos hp]
    exact fun x hx => List.mem_of_mem_filter (behindIn_cons_subset hx)
  · rw [List.filter_cons_of_neg hp]
    exact fun x hx => List.mem_of_mem_filter (behindIn_subset d _ hx)

/-- While the context that ends stands in the queue, those behind it stand behind it. -/
theorem Ending.valid.mem_behindIn (v : E.valid) {p : Fin 16 → Bool} (hc : p E.context = true) (h : d ∈ E.behind) (hd : p d = true) :
    d ∈ behindIn E.context ((E.start.queue E.axis).filter p) := by
  have hahead : E.context ∉ E.ahead.filter p := fun hd => v.ahead_ne List.mem_cons_self (List.mem_of_mem_filter hd) rfl
  rw [v.queue_split, List.filter_append, behindIn_append hahead, List.filter_cons_of_pos hc, behindIn_cons_self]
  exact List.mem_filter.2 ⟨h, hd⟩

/-- What a context's report says stays while the context is whole. -/
theorem Ending.on.content (h : E.on l s) (hd : s.contexts[d].axis = some E.axis) :
    (⟨.programEnd d, s.endContent d E.axis (E.statusOf d)⟩ : ReportEntry) = E.report d := by
  rw [Ending.report, State.endContent, State.endContent, h.whole d hd, State.measured_of_still h.still]

/-! ## The law is kept -/

/-- A change that leaves the axis at rest, its contexts and the ended ones, and loses no signal of the end. -/
theorem Ending.on.calm (h : E.on l s) (horder : Orderly k t) (hstill : t.still = s.still) (hstays : (s.axis E.axis).stays (t.axis E.axis))
    (hqueue : t.queue E.axis = s.queue E.axis)
    (hkept : ∀ d : Fin 16, s.contexts[d].axis = some E.axis ∨ s.contexts[d].axis = none →
      t.contexts[d] = s.contexts[d] ∧ t.endEntry d = s.endEntry d)
    (hback : ∀ d : Fin 16, t.contexts[d].axis = some E.axis → s.contexts[d].axis = some E.axis) (hruns : s.runsWithin t)
    (hnew : ∀ y ∈ k, y ∈ l ∨ (E.record.parked ∧ y.spares t E.axis)) (hold : ∀ y ∈ l, y ∈ k ∨ y.spares s E.axis) : E.on k t := by
  have hstay {y : Signal} (hy : y ∈ l) (hnot : ¬ y.spares s E.axis) : y ∈ k := (hold y hy).resolve_right hnot
  have haxis (d : Fin 16) : t.contexts[d].axis = some E.axis ↔ s.contexts[d].axis = some E.axis :=
    ⟨hback d, fun hd => by rw [(hkept d (.inl hd)).1, hd]⟩
  refine ⟨horder, hstill.trans h.still, h.record.trans hstays, h.runs.trans hruns, ?_, fun d hd => ?_, fun d hd => (haxis d).2 (h.ahead d hd),
    fun y hy => ?_, fun d f hy hd => ?_, fun d hd => ?_⟩
  · simp only [hqueue, h.queue, haxis]
  · have hs := hback d hd
    rw [(hkept d (.inl hs)).1, h.whole d hs]
  · rcases hnew y hy with hy | hy
    · exact (h.others y hy).imp_right fun ⟨hp, hspares⟩ => ⟨hp, hspares.mono hback⟩
    · exact .inr hy
  · have hs := hback d hd
    rw [(hkept d (.inl hs)).2]
    rcases hnew _ hy with hy | hy
    · exact h.told d f hy hs
    · exact absurd hd hy.2
  · rcases h.dues d hd with hdone | ⟨hs, hdue⟩
    · obtain ⟨hcontext, hentry⟩ := hkept d (.inr hdone.axis)
      refine .inl ⟨by rw [hcontext]; exact hdone.axis, by rw [hcontext]; exact hdone.steps, hentry.trans hdone.report, fun b q hq => ?_⟩
      obtain ⟨p, hp, hpq⟩ := hruns b q hq
      rw [← hpq]
      exact hdone.runs b p hp
    · have hspared {f : EndStatus} : ¬ (Signal.freeContext d f).spares s E.axis ∧ ¬ (Signal.endProgram d f).spares s E.axis :=
        ⟨not_not.2 hs, not_not.2 hs⟩
      exact .inr ⟨(haxis d).2 hs, hdue.imp (hstay · hspared.1) fun hb => hb.imp_right fun hd =>
        hd.imp (haxis _).2 (hstay · hspared.2)⟩

/-- A signal that spares the axis at rest. -/
theorem Ending.on.spared {x : Signal} (h : E.on (x :: l) s) (hp : E.record.parked) (hx : x.spares s E.axis) :
    E.on ((handle x s).2 ++ l) (handle x s).1 := by
  have hs := h.order.bound
  have hsteps := h.order.steps
  have hparked := hp.of_stays h.record
  have hback (d : Fin 16) := handle_context_axis (s := s) (a := E.axis) (c := d) hx.not_press
  have horder := orderly_law.handled x l s h.order
  refine h.calm horder (handle_still x s) (handle_parked hparked hx) ?_ (fun d hd => ?_) hback (handle_runsWithin hx.not_press s)
    (fun y hy => ?_) fun y hy => ?_
  · by_cases hd : ∃ d : Fin 16, s.contexts[d].axis = some E.axis
    · obtain ⟨d, hd⟩ := hd
      exact (handle_spared hs hsteps hparked hx hd).2
    · rw [List.eq_nil_iff_forall_not_mem.2 fun d hq => hd ⟨d, (hs.mem d _).1 hq⟩,
        List.eq_nil_iff_forall_not_mem.2 fun d hq => hd ⟨d, hback d ((horder.bound.mem d _).1 hq)⟩]
  · have hentry : (handle x s).1.endEntry d = s.endEntry d := handle_endEntry fun e he => by
      subst he
      exact hd.resolve_left hx
    rcases hd with hd | hd
    · exact ⟨(handle_spared hs hsteps hparked hx hd).1, hentry⟩
    · exact ⟨handle_free hs hsteps hx.not_press hd, hentry⟩
  · rcases List.mem_append.1 hy with hy | hy
    · exact .inr ⟨hp, (handle_sends x s y hy).spares hs hsteps hparked hx⟩
    · exact .inl (List.mem_cons_of_mem _ hy)
  · rcases List.mem_cons.1 hy with rfl | hy
    · exact .inr hx
    · exact .inl (List.mem_append_right _ hy)

/-- A signal that finds nothing to do. -/
theorem Ending.on.idle {x : Signal} (h : E.on (x :: l) s) (hx : x.spares s E.axis) (hsame : handle x s = (s, [])) :
    E.on ((handle x s).2 ++ l) (handle x s).1 := by
  have horder := orderly_law.handled x l s h.order
  rw [hsame] at horder ⊢
  refine h.calm horder rfl (.refl _) rfl (fun d _ => ⟨rfl, rfl⟩) (fun _ => id) (.of_eq rfl) (fun y hy => .inl (List.mem_cons_of_mem _ hy))
    fun y hy => ?_
  rcases List.mem_cons.1 hy with rfl | hy
  · exact .inr hx
  · exact .inl hy

/-- What a pass sends on. -/
theorem Ending.on.sendOn (h : E.on (.passEnd :: l) s) (item : Outgoing) :
    E.on ((Machine.sendOn item s).2 ++ .passEnd :: l) (Machine.sendOn item s).1 := by
  have htraffic := sendOn_traffic item s
  have hpapers (d : Fin 16) := sendOn_papers item s d
  have hparked : E.record.parked := ((h.others _ List.mem_cons_self).resolve_left id).1
  refine h.calm (h.order.sendOn item) (sendOn_still item s) ?_ (State.queue_congr (State.queues_of_traffic htraffic) _)
    (fun d _ => ⟨by rw [State.contexts_of_traffic htraffic], State.endEntry_of_papers (hpapers d)⟩)
    (fun d hd => by rwa [State.contexts_of_traffic htraffic] at hd) (.of_eq (State.runs_of_papers (hpapers 0))) (fun y hy => ?_)
    fun y hy => .inl (List.mem_append_right _ hy)
  · rw [State.axis_congr (State.axes_of_traffic htraffic)]
    exact .refl _
  · rcases List.mem_append.1 hy with hy | hy
    · exact .inr ⟨hparked, Signal.spares_of_mild (allMild_mem (sendOn_mild ..) hy)⟩
    · exact .inl hy

/-- The freeing of a context that leaves: it has ended, and the ends of those behind it are on their way (R112, R113). -/
theorem Ending.on.freed (v : E.valid) {f : EndStatus} (h : E.on (.freeContext d f :: l) s) (hd : s.contexts[d].axis = some E.axis)
    (hleaves : d ∈ E.leaving) (hf : f = E.statusOf d) :
    E.on ((handle (.freeContext d f) s).2 ++ l) (handle (.freeContext d f) s).1 := by
  have horder := orderly_law.handled _ l s h.order
  have hstops : f ≠ .complete := hf ▸ v.statusOf_ne d
  have hreport := h.told d f List.mem_cons_self hd
  rw [handle, freeContext_stops hstops hd] at horder ⊢
  have hsame {z : Fin 16} (hz : z ≠ d) : (s.release d E.axis).contexts[z] = s.contexts[z] := s.release_context_other d E.axis hz
  have hgone : (s.release d E.axis).contexts[d].axis = none := by rw [s.release_context_same d E.axis]
  have hne {z : Fin 16} (hz : (s.release d E.axis).contexts[z].axis = some E.axis) : z ≠ d := by
    rintro rfl
    rw [hgone] at hz
    cases hz
  have hback {z : Fin 16} (hz : (s.release d E.axis).contexts[z].axis = some E.axis) : s.contexts[z].axis = some E.axis := by
    rwa [hsame (hne hz)] at hz
  have hbehind {z : Fin 16} (hz : z ∈ behindIn d (s.queue E.axis)) : z ∈ E.behind :=
    v.behind_leaving _ hleaves (h.queue ▸ hz)
  refine ⟨horder, h.still, h.record, h.runs.trans (s.release_runsWithin d E.axis), ?_, fun z hz => ?_, fun z hz => ?_, fun y hy => ?_, fun z e hy hz => ?_, fun z hz => ?_⟩
  · rw [s.release_queue_same d E.axis, h.queue, List.filter_filter]
    refine List.filter_congr fun z _ => ?_
    by_cases hz : z = d
    · subst hz
      have hnot : decide ((s.release z E.axis).contexts[z].axis = some E.axis) = false := by rw [hgone]; rfl
      rw [hnot]
      simp
    · simp [hsame hz, hz]
  · rw [hsame (hne hz), h.whole z (hback hz)]
  · rw [hsame (v.ahead_ne hleaves hz)]
    exact h.ahead z hz
  · rcases List.mem_append.1 hy with hy | hy
    · obtain ⟨z, hz, rfl⟩ := List.mem_map.1 hy
      exact .inl ⟨hbehind hz, rfl⟩
    · exact (h.others y (List.mem_cons_of_mem _ hy)).imp_right fun ⟨hp, hspares⟩ => ⟨hp, hspares.mono fun _ => hback⟩
  · rcases List.mem_append.1 hy with hy | hy
    · simp at hy
    · exact h.told z e (List.mem_cons_of_mem _ hy) (hback hz)
  · by_cases hzd : z = d
    · subst hzd
      refine .inl ⟨hgone, by rw [s.release_context_same z E.axis], hreport, fun b q hq => ?_⟩
      rw [State.release_runs] at hq
      simpa using (Option.filter_eq_some_iff.1 hq).2
    · rcases h.dues z hz with hdone | ⟨hzb, hdue⟩
      · refine .inl ⟨by rw [hsame hzd]; exact hdone.axis, by rw [hsame hzd]; exact hdone.steps, hdone.report, fun b q hq => ?_⟩
        obtain ⟨p, hp, hpq⟩ := s.release_runsWithin d E.axis b q hq
        rw [← hpq]
        exact hdone.runs b p hp
      · refine .inr ⟨by rw [hsame hzd]; exact hzb, ?_⟩
        rcases hdue with hy | ⟨hzbehind, hy⟩
        · rcases List.mem_cons.1 hy with hy | hy
          · exact absurd (Signal.freeContext.inj hy).1 hzd
          · exact .inl (List.mem_append_right _ hy)
        · refine .inr ⟨hzbehind, ?_⟩
          rcases hy with hc | hy
          · by_cases hcd : E.context = d
            · have hp : decide (s.contexts[E.context].axis = some E.axis) = true := decide_eq_true hc
              have := v.mem_behindIn (p := fun d => decide (s.contexts[d].axis = some E.axis)) hp hzbehind (decide_eq_true hzb)
              rw [← h.queue, hcd] at this
              exact .inr (List.mem_append_left _ (List.mem_map.2 ⟨z, this, rfl⟩))
            · exact .inl (by rw [hsame hcd]; exact hc)
          · exact .inr (List.mem_append_right _ ((List.mem_cons.1 hy).resolve_left (by simp)))

/-- The end of a context that stands behind: its report, and then its freeing (R113). -/
theorem Ending.on.abandoned (v : E.valid) (h : E.on (.endProgram d .abandoned :: l) s) (hd : s.contexts[d].axis = some E.axis)
    (hbehind : d ∈ E.behind) : E.on ((handle (.endProgram d .abandoned) s).2 ++ l) (handle (.endProgram d .abandoned) s).1 := by
  have horder := orderly_law.handled _ l s h.order
  have hqueued : s.contexts[d].state = .queued := by rw [h.whole d hd]; exact v.behind_queued hbehind
  have hwaits : ¬ (s.head E.axis = some d ∧ s.contexts[d].state ≠ .queued) := fun e => e.2 hqueued
  have hstatus := v.statusOf_behind hbehind
  have hcontent := h.content hd
  rw [hstatus] at hcontent
  have hposted : (s.reportEnd d E.axis .abandoned).endEntry d = some (E.report d) := by
    rw [State.reportEnd_endEntry, hcontent]
  have hentry {z : Fin 16} (hz : d ≠ z) : (s.reportEnd d E.axis .abandoned).endEntry z = s.endEntry z :=
    State.endEntry_of_papers (State.reportEnd_papers hz ..)
  rw [handle, endProgram_waiting .abandoned hd hwaits] at horder ⊢
  refine ⟨horder, (s.post_still _ _).trans h.still, h.record, h.runs, h.queue, h.whole, h.ahead, fun y hy => ?_, fun z e hy hz => ?_,
    fun z hz => ?_⟩
  · rcases List.mem_append.1 hy with hy | hy
    · rw [List.mem_singleton.1 hy]
      exact .inl ⟨List.mem_cons_of_mem _ hbehind, hstatus.symm⟩
    · exact h.others y (List.mem_cons_of_mem _ hy)
  · by_cases hzd : d = z
    · subst hzd
      exact hposted
    · rw [hentry hzd]
      rcases List.mem_append.1 hy with hy | hy
      · exact absurd (Signal.freeContext.inj (List.mem_singleton.1 hy)).1.symm hzd
      · exact h.told z e (List.mem_cons_of_mem _ hy) hz
  · rcases h.dues z hz with hdone | ⟨hzb, hdue⟩
    · have hzd : d ≠ z := by
        rintro rfl
        rw [hdone.axis] at hd
        cases hd
      exact .inl ⟨hdone.axis, hdone.steps, (hentry hzd).trans hdone.report, hdone.runs⟩
    · refine .inr ⟨hzb, ?_⟩
      by_cases hzd : z = d
      · subst hzd
        exact .inl (by simp [hstatus])
      · have hlater {y : Signal} (hy : y ∈ Signal.endProgram d .abandoned :: l) (hne : y ≠ .endProgram d .abandoned) :
            y ∈ [Signal.freeContext d .abandoned] ++ l := List.mem_append_right _ ((List.mem_cons.1 hy).resolve_left hne)
        exact hdue.imp (hlater · (by simp)) fun hb => hb.imp_right fun hor => hor.imp id (hlater · (by simp [hzd]))

/-- Every signal keeps the law of an end. -/
theorem Ending.law (v : E.valid) : SignalLaw E.on where
  handled x l s h := by
    rcases h.others x List.mem_cons_self with hends | ⟨hp, hx⟩
    · cases x with
      | freeContext d f =>
        obtain ⟨hleaves, hf⟩ := hends
        rcases h.dues d hleaves with hdone | ⟨hd, -⟩
        · exact h.idle (by rw [Signal.spares, hdone.axis]; simp) (freeContext_free f hdone.axis)
        · exact h.freed v hd hleaves hf
      | endProgram d f =>
        obtain ⟨hbehind, rfl⟩ := hends
        rcases h.dues d (List.mem_cons_of_mem _ hbehind) with hdone | ⟨hd, -⟩
        · exact h.idle (by rw [Signal.spares, hdone.axis]; simp) (endProgram_free _ hdone.axis)
        · exact h.abandoned v hd hbehind
      | _ => cases hends
    · exact h.spared hp hx
  sent item l s h := h.sendOn item

/-! ## How an end begins -/

/-- The end of a program posts the report and frees the context, once the axis that executed it has acted (R112). -/
theorem endProgram_begins (e : EndStatus) (hc : s.contexts[c].axis = some a) :
    ∃ acts, (endProgram c e s).2 = acts ++ [.freeContext c e] ∧ allMild acts = true
      ∧ (acts ≠ [] → s.head a = some c ∧ s.contexts[c].state ≠ .queued)
      ∧ (endProgram c e s).1.endEntry c = some ⟨.programEnd c, s.endContent c a e⟩
      ∧ (endProgram c e s).1.still = s.still ∧ ∀ d, s.keeps (endProgram c e s).1 a d := by
  have hreported := s.reportEnd_endEntry c a e
  have hkept (d : Fin 16) : s.keeps (s.reportEnd c a e) a d := State.keeps_of_parts rfl rfl a d
  by_cases hx : s.head a = some c ∧ s.contexts[c].state ≠ .queued
  · rw [endProgram_executed e hc hx]
    exact ⟨_, rfl, endAxis_mild .., fun _ => hx, (State.endEntry_of_papers (endAxis_papers ..)).trans hreported,
      (endAxis_still ..).trans (State.post_still ..), fun d => (hkept d).trans (endAxis_keeps ..)⟩
  · rw [endProgram_waiting e hc hx]
    exact ⟨[], rfl, rfl, fun h => absurd rfl h, hreported, State.post_still .., hkept⟩

/-- An end begins when its signal is taken, with mild signals behind it where the axis executed the program. -/
theorem Ending.begins (v : E.valid) (h : Orderly (.endProgram E.context E.status :: k) s) (hstill : s.still = E.start.still)
    (hkept : ∀ d, E.start.keeps s E.axis d) (hruns : E.start.runsWithin s) (hrecord : E.record = (endProgram E.context E.status s).1.axis E.axis) (hk : allMild k = true)
    (hexecuted : k ≠ [] → s.head E.axis = some E.context ∧ s.contexts[E.context].state ≠ .queued) :
    E.on ((endProgram E.context E.status s).2 ++ k) (endProgram E.context E.status s).1 := by
  have hc : s.contexts[E.context].axis = some E.axis := by rw [(hkept E.context).1, v.axis]
  have horder := orderly_law.handled (.endProgram E.context E.status) k s h
  obtain ⟨acts, hsent, hmild, hacts, hentry, hstill', hkept'⟩ := endProgram_begins E.status hc
  have hparked (hx : s.head E.axis = some E.context ∧ s.contexts[E.context].state ≠ .queued) : E.record.parked := by
    rw [hrecord, endProgram_executed E.status hc hx]
    exact endAxis_parked (s := s.reportEnd E.context E.axis E.status) (h.owed E.axis).resting
  have hreport : (⟨.programEnd E.context, s.endContent E.context E.axis E.status⟩ : ReportEntry) = E.report E.context := by
    rw [Ending.report, Ending.statusOf_self, State.endContent, State.endContent, (hkept E.context).1, State.measured_of_still hstill]
  rw [hreport] at hentry
  have hruns' : s.runsWithin (endProgram E.context E.status s).1 := handle_runsWithin (x := .endProgram _ _) (by simp) s
  rw [handle] at horder
  generalize endProgram E.context E.status s = u at hsent hentry hstill' hkept' hruns' hrecord horder ⊢
  obtain ⟨t, l⟩ := u
  dsimp only at hsent hentry hstill' hkept' hruns' hrecord horder ⊢
  subst hsent
  have hwhole (d : Fin 16) := (hkept d).trans (hkept' d)
  have hbound {d : Fin 16} (hd : d ∈ E.start.queue E.axis) : t.contexts[d].axis = some E.axis := by
    rw [(hwhole d).1]
    exact (v.bound.mem d E.axis).1 hd
  have hmem {d : Fin 16} (hd : d ∈ E.ahead ++ E.context :: E.behind) : d ∈ E.start.queue E.axis := v.queue_split ▸ hd
  refine ⟨horder, hstill'.trans hstill, hrecord ▸ .refl _, hruns.trans hruns', ?_, fun d _ => (hwhole d).1, fun d hd => hbound (hmem (List.mem_append_left _ hd)),
    fun y hy => ?_, fun d f hy hd => ?_, fun d hd => .inr ⟨hbound (hmem (List.mem_append_right _ hd)), ?_⟩⟩
  · rw [(hwhole E.context).2, List.filter_eq_self.2 fun d hd => decide_eq_true (hbound hd)]
  · rcases List.mem_append.1 hy with hy | hy
    · rcases List.mem_append.1 hy with hy | hy
      · exact .inr ⟨hparked (hacts (List.ne_nil_of_mem hy)), Signal.spares_of_mild (allMild_mem hmild hy)⟩
      · rw [List.mem_singleton.1 hy]
        exact .inl ⟨List.mem_cons_self, Ending.statusOf_self.symm⟩
    · exact .inr ⟨hparked (hexecuted (List.ne_nil_of_mem hy)), Signal.spares_of_mild (allMild_mem hk hy)⟩
  · rcases List.mem_append.1 hy with hy | hy
    · rcases List.mem_append.1 hy with hy | hy
      · cases allMild_mem hmild hy
      · rw [(Signal.freeContext.inj (List.mem_singleton.1 hy)).1, hentry]
    · cases allMild_mem hk hy
  · rcases List.mem_cons.1 hd with rfl | hd
    · exact .inl (by simp [Ending.statusOf_self])
    · exact .inr ⟨hd, .inl (hbound (hmem (by simp)))⟩

/-! ## What an end leaves -/

/-- An end that is over has ended its program, and those behind it ABANDONED (R112, R113). -/
theorem Ending.on.stopsWith (v : E.valid) (h : E.on [] s) (hcontexts : t.contexts = s.contexts) (hqueues : t.queues = s.queues)
    (hreported : ∀ d x, s.endEntry d = some ⟨.programEnd d, x⟩ → t.reported (.programEnd d) x) :
    E.start.stopsWith t E.context E.axis E.status := by
  have hqueue : t.queue E.axis = s.queue E.axis := State.queue_congr hqueues _
  have hdone (d : Fin 16) (hd : d ∈ E.leaving) : E.done s d := (h.dues d hd).resolve_right fun ⟨_, hdue⟩ => by
    rcases hdue with hy | ⟨hb, hc | hy⟩
    · cases hy
    · rcases h.dues E.context List.mem_cons_self with hdone | ⟨-, hy | ⟨hself, -⟩⟩
      · rw [hdone.axis] at hc
        cases hc
      · cases hy
      · exact v.behind_ne hself rfl
    · cases hy
  have hended (d : Fin 16) (hd : d ∈ E.leaving) : E.start.programEnded t d E.axis (E.statusOf d) := by
    have hd := hdone d hd
    rw [State.programEnded, hcontexts, hqueue]
    refine ⟨(h.order.bound.free d).2 hd.axis, hd.axis, hd.steps, fun hq => ?_, hreported _ _ hd.report⟩
    have haxis := (h.order.bound.mem d E.axis).1 hq
    rw [hd.axis] at haxis
    cases haxis
  refine ⟨?_, ?_, fun d hd => ?_⟩
  · have := hended E.context List.mem_cons_self
    rwa [Ending.statusOf_self] at this
  · have hleft : (E.context :: E.behind).filter (fun d => decide (s.contexts[d].axis = some E.axis)) = [] := List.filter_eq_nil_iff.2 fun d hd => by
      rw [(hdone d hd).axis]
      simp
    have hstay : E.ahead.filter (fun d => decide (s.contexts[d].axis = some E.axis)) = E.ahead :=
      List.filter_eq_self.2 fun d hd => decide_eq_true (h.ahead d hd)
    have hkept : s.queue E.axis = E.ahead := by
      rw [h.queue, v.queue_split, List.filter_append, hstay, hleft, List.append_nil]
    exact hqueue.trans hkept
  · have := hended d (List.mem_cons_of_mem _ hd)
    rwa [v.statusOf_behind hd] at this

/-- The axis that executed a program that ends is on its way to IDLE, and one that executed none keeps its state (R83). -/
theorem endAxis_releases (a : Axis) (s : State) (h : ((endAxis a s).1.axis a).stays (t.axis a)) : s.axisReleased t a := by
  obtain ⟨v, ht, hv⟩ := h
  have hwaits (hs : (s.axis a).state = .preparing ∨ (s.axis a).state = .dwell ∨ (s.axis a).state = .hold) : s.axisReleased t a := by
    rw [endAxis_waits hs] at ht hv
    have hv : v = noHolds := hv (by simp [AxisRecord.released])
    rw [State.axisReleased, ht]
    rcases hs with hs | hs | hs <;> simp [AxisRecord.takesReason, AxisRecord.released, hs, hv]
  cases hs : (s.axis a).state with
  | preparing => exact hwaits (.inl hs)
  | dwell => exact hwaits (.inr (.inl hs))
  | hold => exact hwaits (.inr (.inr hs))
  | moving =>
    rw [endAxis_moves hs] at ht hv
    have hv : v = noHolds := hv (by simp [AxisRecord.released])
    rw [State.axisReleased, ht]
    simp [AxisRecord.takesReason, AxisRecord.released, hs, hv]
  | stopping =>
    have hrecord : (endAxis a s).1.axis a = (s.axis a).released := by
      rw [endAxis_stops hs]
      dsimp only
      split <;> simp
    rw [hrecord] at ht hv
    have hv : v = noHolds := hv rfl
    rw [State.axisReleased, ht]
    split <;> simp [AxisRecord.released, hs, hv]
  | idle =>
    rw [endAxis_idle hs] at ht
    rw [State.axisReleased, ht]
    simp [AxisRecord.takesReason, hs]
  | fault =>
    rw [endAxis_fault hs] at ht
    rw [State.axisReleased, ht]
    simp [AxisRecord.takesReason, hs]

end

end Sys2Proof.Machine
end

section
/-! The timers of PREPARING, of starvation and of release end programs (R75, R111, R165). -/

namespace Sys2Proof.Machine

variable {s t : State} {a : Axis} {c : Fin 16}

theorem State.contexts_of_core (h : t.core = s.core) : t.contexts = s.contexts :=
  (congrArg State.contexts h : t.core.contexts = s.core.contexts)

theorem State.queues_of_core (h : t.core = s.core) : t.queues = s.queues :=
  (congrArg State.queues h : t.core.queues = s.core.queues)

/-- A law that holds behind the first signal of an event holds at its end. -/
theorem SignalLaw.settledAfter {J : List Signal → State → Prop} (L : SignalLaw J) {x : Signal} {k : List Signal} (hx : x ≠ .passEnd)
    (hj : J ((handle x s).2 ++ k) (handle x s).1) (hu : (settle (s, x :: k)).unsettled = false) : J [] (settle (s, x :: k)) := by
  have hfirst : settle (s, x :: k) = Machine.run 99999 (x.outgoing s) ((handle x s).2 ++ k) (handle x s).1 := by
    rw [settle, signalBound, run_succ, turn_handle _ _ _ _ hx]
    rfl
  rw [hfirst] at hu ⊢
  rcases L.run 99999 (x.outgoing s) hj with h | ⟨l, u, -, he⟩
  · exact h
  · rw [he] at hu
    cases hu

/-- A program that ends by itself with a status other than COMPLETE. -/
theorem end_settled {e : EndStatus} (hlaw : s.queueLaw) (hc : s.contexts[c].axis = some a) (he : e ≠ .complete)
    (hu : (s.send (.endProgram c e)).unsettled = false) :
    s.stopsWith (s.send (.endProgram c e)).kick c a e
      ∧ (s.contexts[c].state ≠ .queued → s.axisReleased (s.send (.endProgram c e)).kick a)
      ∧ ∀ b p, s.runs.get b = some p → p.context = c → (s.send (.endProgram c e)).kick.runs.get b = none := by
  obtain ⟨hbound, hheads⟩ := s.queueLaw_iff.1 hlaw
  have hheads := hheads (settle_unsettled hu)
  let E : Ending := { start := s, axis := a, context := c, status := e, record := (endProgram c e s).1.axis a }
  have v : E.valid := ⟨hbound, hc, he⟩
  have horder : Orderly [.endProgram c e] s :=
    .of_noneFreed hbound (fun b => State.headOwed_of_headLaw hheads _ b) fun _ _ hm => by simp at hm
  have hend : E.on [] (s.send (.endProgram c e)) :=
    (Ending.law v).settledAfter (by simp) (Ending.begins v horder rfl (fun d => .refl ..) (.of_eq rfl) rfl rfl fun h => absurd rfl h) hu
  have hcore := (s.send (.endProgram c e)).kick_core
  have hruns : (s.send (.endProgram c e)).kick.runs = (s.send (.endProgram c e)).runs :=
    (congrArg State.runs hcore : State.runs (State.core _) = State.runs (State.core _))
  refine ⟨hend.stopsWith v (State.contexts_of_core hcore) (State.queues_of_core hcore) fun _ _ => State.kick_reported, fun hq => ?_, fun b p hp hpc => ?_⟩
  · have hhead : s.head a = some c := by
      cases hstate : s.contexts[c].state with
      | queued => exact absurd hstate hq
      | free => rw [(hbound.free c).1 hstate] at hc; cases hc
      | active => exact hbound.head c a (.inl hstate) hc
      | closing => exact hbound.head c a (.inr hstate) hc
    have hstays : ((endProgram c e s).1.axis a).stays ((s.send (.endProgram c e)).axis a) := hend.record
    rw [endProgram_executed e hc ⟨hhead, hq⟩, ← State.axis_congr (State.axes_of_core hcore)] at hstays
    exact endAxis_releases a (s.reportEnd c a e) hstays
  · rw [hruns]
    have hdone := (hend.dues c List.mem_cons_self).resolve_right fun ⟨_, hdue⟩ => by
      rcases hdue with hy | ⟨hself, -⟩
      · cases hy
      · exact v.behind_ne hself rfl
    by_contra hne
    obtain ⟨q, hq⟩ := Option.ne_none_iff_exists'.1 hne
    obtain ⟨o, ho, hoq⟩ := hend.runs b q hq
    obtain rfl := Option.some.inj (hp.symm.trans ho)
    exact hdone.runs b q hq (hoq.symm.trans hpc)

/-- A record whose state and step stay keeps contexts and queues bound to each other. -/
theorem State.queueLaw.onAxis (h : s.queueLaw) {f : AxisRecord → AxisRecord} (hstate : (f (s.axis a)).state = (s.axis a).state)
    (hcurrent : (f (s.axis a)).current = (s.axis a).current) : (s.onAxis a f).queueLaw := by
  obtain ⟨hbound, hheads⟩ := s.queueLaw_iff.1 h
  have hsame (b : Axis) : ((s.onAxis a f).axis b).state = (s.axis b).state ∧ ((s.onAxis a f).axis b).current = (s.axis b).current := by
    by_cases hb : b = a
    · subst hb
      rw [State.onAxis_axis_same]
      exact ⟨hstate, hcurrent⟩
    · rw [State.onAxis_axis_other _ _ _ _ hb]
      exact ⟨rfl, rfl⟩
  refine (State.queueLaw_iff _).2 ⟨hbound.of_links rfl, fun hu => ?_⟩
  have hheads := hheads hu
  simp only [State.headLaw, hsame] at hheads ⊢
  exact hheads

/-- Settles O39: each timer's program ends as any other (`end_settled`). -/
theorem timersEndPrograms : Obligations.TimersEndPrograms := by
  refine ⟨fun a s => ⟨_, rfl, ?_, fun hn => ?_, fun hd hlaw hu c hc => ?_⟩, fun c s => ⟨_, rfl, ?_, fun hn => ?_, fun hd hlaw hu a hc => ?_⟩,
    fun a s => ⟨_, rfl, ?_, fun hn => ?_, fun r hr hd hlaw hu b hb => ?_⟩⟩
  · refine State.follows.kick ?_
    split
    · refine State.follows_of (s := s.onAxis a fun r => { r with prepareDeadline := none }) (settle_fixed _) (settle_aspect _ ?_)
      cases s.head a <;> rfl
    · exact ⟨rfl, rfl, rfl⟩
  · rw [hn, if_neg (by simp)]
    exact kick_becomes s
  · rw [if_pos (Option.isSome_iff_ne_none.2 hd), hc] at hu ⊢
    let timed : State := s.onAxis a fun r => { r with prepareDeadline := none }
    have hbound := (s.queueLaw_iff.1 hlaw).1
    obtain ⟨hstops, hreleased, -⟩ := end_settled (s := timed) (e := .notReady) (hlaw.onAxis rfl rfl) (hbound.axis_of_head hc) (by simp)
      ((State.kick_same _).2.2.1 ▸ hu)
    refine ⟨hstops, fun hq htakes => ?_⟩
    have hreleased := hreleased hq
    have haxis : timed.axis a = { s.axis a with prepareDeadline := none } := State.onAxis_axis_same ..
    have htimed : (timed.axis a).takesReason = true := by rw [haxis]; exact htakes
    rw [State.axisReleased, if_pos htimed, haxis] at hreleased
    exact (if_pos htakes).mpr hreleased
  · refine State.follows.kick ?_
    split
    · exact send_follows s rfl
    · exact ⟨rfl, rfl, rfl⟩
  · rw [hn, if_neg (by simp)]
    exact kick_becomes s
  · rw [if_pos (Option.isSome_iff_ne_none.2 hd)] at hu ⊢
    obtain ⟨hstops, hreleased, -⟩ := end_settled hlaw hc (by simp) ((State.kick_same _).2.2.1 ▸ hu)
    exact ⟨hstops, hreleased⟩
  · refine State.follows.kick ?_
    split
    · split
      · exact send_follows s rfl
      · exact ⟨rfl, rfl, rfl⟩
    · exact ⟨rfl, rfl, rfl⟩
  · cases hr : s.runs.get a with
    | none => exact kick_becomes s
    | some r =>
      rw [hr] at hn
      dsimp only
      rw [show r.deadline = none from hn, if_neg (by simp)]
      exact kick_becomes s
  · rw [hr] at hu ⊢
    dsimp only at hu ⊢
    rw [if_pos (Option.isSome_iff_ne_none.2 hd)] at hu ⊢
    obtain ⟨hstops, hreleased, hruns⟩ := end_settled (e := .released) hlaw hb (by simp) ((State.kick_same _).2.2.1 ▸ hu)
    exact ⟨hstops, hruns a r hr rfl, hreleased⟩

end Sys2Proof.Machine
end

section
/-! The fault of the windlass (R84 to R86): its record stays, the program that it executed ends FAULTED, and its demand goes. -/

namespace Sys2Proof.Machine

variable {s t : State} {a : Axis} {c : Fin 16} {l k : List Signal}

/-! ## A run in two parts -/

/-- A run of two lists of signals takes the first one whole, under its law, or outruns its bound. -/
theorem SignalLaw.first {J : List Signal → State → Prop} (L : SignalLaw J) (k : List Signal) (n : Nat) (sent : List Outgoing)
    (h : J l s) (hu : (Machine.run n sent (l ++ k) s).unsettled = false) :
    ∃ m later t, J [] t ∧ Machine.run n sent (l ++ k) s = Machine.run m later k t := by
  induction n generalizing sent l s with
  | zero =>
    cases l with
    | nil => exact ⟨0, sent, s, h, rfl⟩
    | cons x rest => cases hu
  | succ n ih =>
    cases l with
    | nil => exact ⟨n + 1, sent, s, h, rfl⟩
    | cons x rest =>
      rw [List.cons_append, run_succ, turn_append] at hu ⊢
      exact ih _ (L.turn h sent) hu

/-- A law of the state holds at the end of every run, but for the mark of one that has outrun its bound. -/
theorem SignalLaw.end_of_run {P : State → Prop} (L : SignalLaw fun _ s => P s) (hP : ∀ u : State, P u → P { u with unsettled := true })
    (n : Nat) (sent : List Outgoing) (l : List Signal) (h : P s) : P (Machine.run n sent l s) := by
  rcases L.run n sent (l := l) h with h | ⟨-, u, hu, he⟩
  · exact h
  · rw [he]
    exact hP u hu

/-! ## An axis in FAULT -/

/-- A record in FAULT by a first fault of this kind, position and context (R85, R86). -/
structure AxisRecord.faulted (r : AxisRecord) (x : FaultKind × Option Int × Option (Fin 16)) : Prop where
  state : r.state = .fault
  drive : r.drive = driveOff
  holds : r.holds = noHolds
  current : r.current = none
  fault : (r.fault.map fun f => (f.kind, f.position, f.context)) = some x

theorem AxisRecord.faulted.parked {r : AxisRecord} {x} (h : r.faulted x) : r.parked := ⟨h.current, .inr (.inr h.state)⟩

/-- What a fault begins with (R86). -/
def State.firstFault (s : State) (a : Axis) (kind : FaultKind) : FaultKind × Option Int × Option (Fin 16) :=
  (kind, s.measured a, if (s.axis a).takesReason then s.head a else none)

theorem State.enterFault_faulted (s : State) (a : Axis) (kind : FaultKind) :
    ((s.enterFault a kind).axis a).faulted (s.firstFault a kind) := by
  rw [State.enterFault_axis]
  exact ⟨rfl, rfl, rfl, rfl, rfl⟩

/-- Nothing but an acknowledgement takes an axis out of FAULT; a later fault is counted (R73, R85). -/
theorem handle_faulted {x} (y : Signal) (h : (s.axis a).faulted x) : ((handle y s).1.axis a).faulted x := by
  by_cases hconcerns : y.concerns s = some a
  · have hs := h.state
    have hstays (hy : y.spares s a) : ((handle y s).1.axis a).faulted x := by
      obtain ⟨v, hv, hnone⟩ := handle_parked h.parked hy
      rw [hv, hnone h.holds]
      exact ⟨hs, h.drive, rfl, h.current, h.fault⟩
    cases y with
    | takeUp b =>
      obtain rfl := Option.some.inj hconcerns
      exact takeUp_cases (P := fun k => (k.1.axis b).faulted x) (fun _ _ e => by rw [hs] at e; cases e) h
    | travelled b p =>
      obtain rfl := Option.some.inj hconcerns
      have hnot {z : CurrentStep} (e : (s.axis b).state = .moving) (_ : (s.axis b).current = some z) : False := by
        rw [hs] at e
        cases e
      exact travelled_cases (P := fun k => (k.1.axis b).faulted x) (fun _ e hz => (hnot e hz).elim) (fun _ e hz => (hnot e hz).elim)
        (fun _ e hz => (hnot e hz).elim) fun _ => h
    | fault b kind =>
      obtain rfl := Option.some.inj hconcerns
      refine fault_cases (P := fun k => (k.1.axis b).faulted x) (fun _ => ?_) (fun e => absurd hs e) fun _ => h
      rw [State.onAxis_axis_same]
      exact ⟨hs, h.drive, h.holds, h.current, by rw [← h.fault, Option.map_map]; rfl⟩
    | endProgram c e =>
      by_cases hc : s.head a = some c ∧ s.contexts[c].state ≠ .queued
      · rw [handle, endProgram_executed e hconcerns hc, endAxis_fault (s := s.reportEnd c a e) hs]
        exact h
      · rw [handle, endProgram_waiting e hconcerns hc]
        exact h
    | freeContext c e =>
      by_cases he : e = .complete
      · subst he
        rw [handle, freeContext_complete hconcerns, State.activateHead_axis]
        exact h
      · rw [handle, freeContext_stops he hconcerns]
        exact h
    | endEntry _ | testGates _ | endDwell _ | addHold _ _ | removeHold _ _ => exact hstays trivial
    | _ => cases hconcerns
  · rw [handle_axis_other y s hconcerns]
    exact h

theorem sendOn_axis (item : Outgoing) (s : State) (a : Axis) : (sendOn item s).1.axis a = s.axis a :=
  State.axis_congr (State.axes_of_traffic (sendOn_traffic item s)) a

theorem faulted_law (a : Axis) (x) : SignalLaw fun _ s => (s.axis a).faulted x :=
  .always (fun y _ h => handle_faulted y h) fun item s h => by rw [sendOn_axis]; exact h

/-! ## The demand of the windlass -/

/-- A signal that posts no demand for the windlass. -/
def Signal.feedless : Signal → Bool
  | .post k d => decide (k ≠ windlassSlot) || decide (d = 0)
  | .press _ _ => false
  | _ => true

def allFeedless (l : List Signal) : Bool := l.all (·.feedless)

@[simp] theorem allFeedless_append (l m : List Signal) : allFeedless (l ++ m) = (allFeedless l && allFeedless m) := by simp [allFeedless]

theorem allFeedless_cons (x : Signal) (l : List Signal) : allFeedless (x :: l) = (x.feedless && allFeedless l) := by simp [allFeedless]

theorem idleSignals_feedless (a : Axis) : allFeedless (idleSignals a) = true := by cases a <;> rfl
theorem faultReleases_feedless (a : Axis) : allFeedless (faultReleases a) = true := by cases a <;> rfl

theorem State.leavesIdle_feedless (s : State) (a : Axis) : allFeedless (s.leavesIdle a) = true := by
  unfold State.leavesIdle
  split
  · exact idleSignals_feedless a
  · rfl

theorem enterDwell_feedless (a : Axis) (s : State) : allFeedless (enterDwell a s).2 = true := by
  unfold enterDwell
  dsimp only
  (repeat' split) <;> rfl

theorem nextStep_feedless (a : Axis) (c : Fin 16) (s : State) : allFeedless (nextStep a c s).2 = true :=
  nextStep_cases (P := fun k => allFeedless k.2 = true) (fun _ => rfl) (fun _ => rfl) (fun _ _ => enterDwell_feedless ..)
    (fun _ _ _ => rfl) fun _ => rfl

theorem endAxis_feedless (a : Axis) (s : State) : allFeedless (endAxis a s).2 = true := by
  unfold endAxis
  cases a <;> dsimp only <;> split <;> rfl

theorem enterPreparing_feedless {a : Axis} (h : a ≠ .windlass) (s : State) : allFeedless (enterPreparing a s).2 = true := by
  cases he : s.entryFault a with
  | none =>
    rw [enterPreparing_enters he]
    cases a with
    | windlass => exact absurd rfl h
    | hatch | platform => simp [allFeedless, windlassDemand, hydraulicOf, State.leavesIdle, idleSignals, Signal.feedless]
  | some kind =>
    rw [enterPreparing_faults he, allFeedless_cons, State.leavesIdle_feedless]
    rfl

theorem sendOn_feedless (item : Outgoing) (s : State) : allFeedless (sendOn item s).2 = true := by
  cases item with
  | report content copy => rfl
  | grant k g =>
    simp only [sendOn]
    unfold deliverTo deliverPump deliverWindlass
    dsimp only
    (repeat' split) <;> rfl

theorem lightSlot_ne (z : Fin 24) : lightSlot z ≠ windlassSlot := by revert z; decide
theorem climateSlot_ne (z : Fin 24) : climateSlot z ≠ windlassSlot := by revert z; decide

/-- Only an entry to PREPARING posts a demand for the windlass. -/
theorem handle_feedless {x : Signal} (hx : x.feedless = true) (hidle : (s.axis .windlass).state ≠ .idle)
    (hhold : (s.axis .windlass).state ≠ .hold) : allFeedless (handle x s).2 = true := by
  have honset (a : Axis) (p : Option Int) : allFeedless (s.onset a p) = true := by
    unfold State.onset
    split <;> rfl
  cases x with
  | post k d => simp only [handle, postDemand]; split <;> rfl
  | press p n => cases hx
  | takeUp a =>
    refine takeUp_cases (P := fun k => allFeedless k.2 = true) (fun _ _ hs _ _ => enterPreparing_feedless (fun e => ?_) s) rfl
    subst e
    exact hidle hs
  | endEntry a => simp only [handle, endEntry]; split <;> rfl
  | testGates a =>
    exact testGates_cases (P := fun k => allFeedless k.2 = true) (fun _ _ _ _ _ _ => enterDwell_feedless ..) (fun _ _ _ _ _ _ => rfl)
      fun _ => rfl
  | endDwell a =>
    exact endDwell_cases (P := fun k => allFeedless k.2 = true) (fun _ _ _ _ => rfl) (fun _ _ _ => nextStep_feedless ..) rfl
  | removeHold a r =>
    refine removeHold_cases (P := fun k => allFeedless k.2 = true) (fun _ _ hs => enterPreparing_feedless (fun e => ?_) _) (fun _ _ _ => rfl)
      (fun _ _ => rfl) fun _ => rfl
    subst e
    exact hhold hs
  | travelled a p =>
    refine travelled_cases (P := fun k => allFeedless k.2 = true) (fun _ _ _ _ => ?_) (fun _ _ _ _ _ => rfl) (fun _ _ _ _ _ => rfl)
      fun _ => honset a p
    rw [allFeedless_append, enterDwell_feedless, honset]
    rfl
  | fault a kind =>
    refine fault_cases (P := fun k => allFeedless k.2 = true) (fun _ => rfl) (fun _ _ => ?_) fun _ => rfl
    have hafter : allFeedless (s.afterFault a kind) = true := by
      rw [State.afterFault, allFeedless_append, State.leavesIdle_feedless]
      rfl
    rw [allFeedless_append, hafter, Bool.and_true]
    exact faultHead_cases (P := fun k => allFeedless k.2 = true) (fun _ _ _ => rfl) (fun _ _ _ _ => faultReleases_feedless a)
      fun _ => faultReleases_feedless a
  | endProgram d e =>
    cases hd : s.contexts[d].axis with
    | none => rw [handle, endProgram_free e hd]; rfl
    | some a =>
      by_cases hc : s.head a = some d ∧ s.contexts[d].state ≠ .queued
      · rw [handle, endProgram_executed e hd hc, allFeedless_append, endAxis_feedless]
        rfl
      · rw [handle, endProgram_waiting e hd hc]
        rfl
  | freeContext d e =>
    cases hd : s.contexts[d].axis with
    | none => rw [handle, freeContext_free e hd]; rfl
    | some a =>
      by_cases he : e = .complete
      · subst he
        rw [handle, freeContext_complete hd]
        rfl
      · rw [handle, freeContext_stops he hd]
        simp [allFeedless, Signal.feedless]
  | cueFrame =>
    have hsettled (u : State) (z : Fin 24) (before after : Zone) : ∀ y ∈ settleZone true z before after, y.feedless = true := by
      unfold settleZone
      (repeat' split) <;> simp [Signal.feedless]
    have happly (m : CommitMode) (late : Bool) (u : State) : allFeedless (applyCue m late u).2 = true := by
      rw [applyCue, allFeedless_append, Bool.and_eq_true]
      refine ⟨List.all_eq_true.2 fun y hy => ?_, rfl⟩
      obtain ⟨z, -, hy⟩ := List.mem_flatMap.1 hy
      exact hsettled u z _ _ y hy
    simp only [handle, cueFrame]
    (repeat' split) <;> first | rfl | exact happly ..
  | lightDemand z => simp [handle, lightDemand, allFeedless, Signal.feedless, lightSlot_ne]
  | climateWork z => simp [handle, climateWork, allFeedless, Signal.feedless, climateSlot_ne]
  | deliverPermit a d v => simp only [handle, deliverPermit]; (repeat' split) <;> rfl
  | requestPump h => simp only [handle, requestPump]; (repeat' split) <;> rfl
  | releasePump h => simp only [handle, releasePump]; (repeat' split) <;> rfl
  | handOver => simp only [handle, handOver]; (repeat' split) <;> rfl
  | release p n => simp only [handle, release]; split <;> rfl
  | evaluatePermits => simp [handle, evaluatePermits, allFeedless, Signal.feedless]
  | addHold _ _ | pass | passEnd | reportZone _ _ | cueApplied _ _ _ | reportAxis _ | reportFault _ _ _
  | actionResult _ _ _ => rfl

/-- Only a post changes a raw demand. -/
theorem handle_raw {x : Signal} (hx : ∀ k d, x ≠ .post k d) (s : State) (k : Fin 52) : (handle x s).1.raw k = s.raw k := by
  by_cases hpass : x = .pass
  · subst hpass
    rw [handle_pass]
    exact s.raw_afterPass k
  · have hbudget := (Books.same (handle_books x s hx hpass)).1
    rw [State.raw, hbudget]
    rfl

theorem sendOn_raw (item : Outgoing) (s : State) (k : Fin 52) : (sendOn item s).1.raw k = s.raw k :=
  State.raw_of_ledger (sendOn_ledger item s) k

theorem handle_post_raw_same (k : Fin 52) (d : Nat) (s : State) : (handle (.post k d) s).1.raw k = d := by
  by_cases h : d = s.raw k
  · rw [handle_post_equal h, ← h]
  · rw [handle_post_other h, State.raw, State.withDemand_slot_same]

theorem handle_post_raw_other {k j : Fin 52} (h : k ≠ j) (d : Nat) (s : State) : (handle (.post k d) s).1.raw j = s.raw j := by
  by_cases hd : d = s.raw k
  · rw [handle_post_equal hd]
  · rw [handle_post_other hd, State.raw, State.withDemand_slot_other s d h]
    rfl

/-- In FAULT the demand of the windlass is gone, or its withdrawal is on its way, or the end that withdraws it is taken next
(R85, R112). -/
structure Unfed (x : FaultKind × Option Int × Option (Fin 16)) (l : List Signal) (s : State) : Prop where
  faulted : (s.axis .windlass).faulted x
  feedless : allFeedless l = true
  gone : s.raw windlassSlot = 0 ∨ .post windlassSlot 0 ∈ l
    ∨ ∃ c k, l = .endProgram c .faulted :: k ∧ s.contexts[c].axis = some .windlass ∧ s.head .windlass = some c
        ∧ s.contexts[c].state ≠ .queued

theorem unfed_law (x) : SignalLaw (Unfed x) where
  handled y l s h := by
    obtain ⟨hf, hl, hgone⟩ := h
    rw [allFeedless_cons, Bool.and_eq_true] at hl
    obtain ⟨hy, hl⟩ := hl
    have hsent := handle_feedless hy (s := s) (by rw [hf.state]; decide) (by rw [hf.state]; decide)
    refine ⟨handle_faulted y hf, by rw [allFeedless_append, hsent, hl]; rfl, ?_⟩
    rcases hgone with hraw | hpost | ⟨c, k, hck, hc, hhead, hstate⟩
    · left
      by_cases hp : ∃ k d, y = .post k d
      · obtain ⟨k, d, rfl⟩ := hp
        by_cases hk : k = windlassSlot
        · subst hk
          rw [handle_post_raw_same]
          simpa [Signal.feedless] using hy
        · rw [handle_post_raw_other hk, hraw]
      · rw [handle_raw (fun k d e => hp ⟨k, d, e⟩), hraw]
    · rcases List.mem_cons.1 hpost with rfl | hpost
      · exact .inl (handle_post_raw_same ..)
      · exact .inr (.inl (List.mem_append_right _ hpost))
    · obtain ⟨rfl, rfl⟩ := List.cons.inj hck
      refine .inr (.inl ?_)
      rw [handle, endProgram_executed .faulted hc ⟨hhead, hstate⟩, endAxis_fault (s := s.reportEnd c .windlass .faulted) hf.state]
      exact List.mem_append_left _ (List.mem_append_left _ (List.mem_cons_self))
  sent item l s h := by
    obtain ⟨hf, hl, hgone⟩ := h
    refine ⟨by rw [sendOn_axis]; exact hf, by rw [allFeedless_append, sendOn_feedless, hl]; rfl, ?_⟩
    rcases hgone with hraw | hpost | ⟨c, k, hck, -⟩
    · exact .inl ((sendOn_raw ..).trans hraw)
    · exact .inr (.inl (List.mem_append_right _ hpost))
    · cases hck

/-! ## The fault -/

/-- What a fault begins, in the state and in the signals (R85). -/
theorem fault_enters {kind : FaultKind} (hf : (s.axis a).state ≠ .fault) (hd : kind.detectedIn (s.axis a).state = true) :
    handle (.fault a kind) s = ((faultHead a (s.axis a).takesReason (s.enterFault a kind)).1,
      (faultHead a (s.axis a).takesReason (s.enterFault a kind)).2 ++ s.afterFault a kind) := by
  rw [handle, fault, if_neg (by simp [hd])]
  dsimp only
  rw [if_neg hf, State.afterFault, ← List.append_assoc]
  rfl

theorem fault_faulted {kind : FaultKind} (hf : (s.axis a).state ≠ .fault) (hd : kind.detectedIn (s.axis a).state = true) :
    ((handle (.fault a kind) s).1.axis a).faulted (s.firstFault a kind) := by
  rw [fault_enters hf hd, faultHead_axis]
  exact s.enterFault_faulted a kind

/-- The program that a faulting axis executes ends next (R85). -/
theorem fault_executed {kind : FaultKind} (hf : (s.axis a).state ≠ .fault) (hd : kind.detectedIn (s.axis a).state = true)
    (ht : (s.axis a).takesReason = true) (hc : s.head a = some c) :
    handle (.fault a kind) s = (s.enterFault a kind, .endProgram c .faulted :: s.afterFault a kind) := by
  have hhead : (s.enterFault a kind).head a = some c := hc
  rw [fault_enters hf hd, ht, faultHead, hhead]
  rfl

theorem fault_unfed {kind : FaultKind} {l : List Signal} (hlaw : s.bound) (hhead : s.headLaw) (hl : allFeedless l = true)
    (hf : (s.axis .windlass).state ≠ .fault) (hd : kind.detectedIn (s.axis .windlass).state = true) :
    Unfed (s.firstFault .windlass kind) ((handle (.fault .windlass kind) s).2 ++ l) (handle (.fault .windlass kind) s).1 := by
  refine ⟨fault_faulted hf hd, ?_, ?_⟩
  · have hafter : allFeedless (s.afterFault .windlass kind) = true := by
      rw [State.afterFault, allFeedless_append, State.leavesIdle_feedless]
      rfl
    rw [fault_enters hf hd, allFeedless_append, allFeedless_append, hafter, hl, Bool.and_true, Bool.and_true]
    exact faultHead_cases (P := fun k => allFeedless k.2 = true) (fun _ _ _ => rfl) (fun _ _ _ _ => faultReleases_feedless _)
      fun _ => faultReleases_feedless _
  · rw [fault_enters hf hd]
    have hreleases (k : List Signal) : .post windlassSlot 0 ∈ faultReleases .windlass ++ k :=
      List.mem_append_left _ List.mem_cons_self
    refine faultHead_cases (P := fun k => k.1.raw windlassSlot = 0 ∨ .post windlassSlot 0 ∈ (k.2 ++ s.afterFault .windlass kind) ++ l
      ∨ ∃ c m, (k.2 ++ s.afterFault .windlass kind) ++ l = .endProgram c .faulted :: m ∧ k.1.contexts[c].axis = some .windlass
        ∧ k.1.head .windlass = some c ∧ k.1.contexts[c].state ≠ .queued) (fun c hc _ => ?_) (fun _ _ _ _ => ?_) fun _ => ?_
    · have hc : s.head .windlass = some c := hc
      exact .inr (.inr ⟨c, _, rfl, hlaw.axis_of_head hc, hc, fun hq => hf ((hhead.1 .windlass c hc).1 hq)⟩)
    all_goals
      rw [List.append_assoc]
      exact .inr (.inl (hreleases _))

/-! ## What comes after a fault -/

/-- The signals that only count a later fault of the windlass. -/
def Signal.counted : Signal → Bool
  | .travelled a _ | .fault a _ | .reportFault a _ _ => decide (a = .windlass)
  | _ => false

/-- Later faults are counted and reported, and nothing else follows (R84, R85). -/
structure Counting (v : State) (x : FaultKind × Option Int × Option (Fin 16)) (l : List Signal) (s : State) : Prop where
  faulted : (s.axis .windlass).faulted x
  counted : ∀ y ∈ l, y.counted = true
  contexts : s.contexts = v.contexts
  queues : s.queues = v.queues
  ends : ∀ c, s.endEntry c = v.endEntry c

/-- What a counted signal does to an axis in FAULT, and what it sends. -/
theorem handle_counted {y : Signal} (hy : y.counted = true) (hs : (s.axis .windlass).state = .fault) :
    (∀ z ∈ (handle y s).2, z.counted = true) ∧ (handle y s).1.contexts = s.contexts ∧ (handle y s).1.queues = s.queues := by
  cases y with
  | travelled a p =>
    obtain rfl := of_decide_eq_true hy
    have hnot {P : Prop} (e : (s.axis .windlass).state = .moving) : P := by rw [hs] at e; cases e
    refine travelled_cases (P := fun k => (∀ z ∈ k.2, z.counted = true) ∧ k.1.contexts = s.contexts ∧ k.1.queues = s.queues)
      (fun _ e => hnot e) (fun _ e => hnot e) (fun _ e => hnot e) fun _ => ⟨fun z hz => ?_, rfl, rfl⟩
    unfold State.onset at hz
    split at hz
    · rw [List.mem_singleton.1 hz]; rfl
    · cases hz
  | fault a kind =>
    obtain rfl := of_decide_eq_true hy
    exact fault_cases (P := fun k => (∀ z ∈ k.2, z.counted = true) ∧ k.1.contexts = s.contexts ∧ k.1.queues = s.queues)
      (fun _ => ⟨fun z hz => by rw [List.mem_singleton.1 hz]; rfl, rfl, rfl⟩) (fun e => absurd hs e) fun _ => ⟨by simp, rfl, rfl⟩
  | reportFault a kind p =>
    refine ⟨by simp [handle], ?_⟩
    simp only [handle, reportFault]
    split <;> exact ⟨rfl, rfl⟩
  | _ => cases hy

theorem counting_law (v : State) (x) : SignalLaw (Counting v x) where
  handled y l s h := by
    have hy := h.counted y List.mem_cons_self
    obtain ⟨hsent, hcontexts, hqueues⟩ := handle_counted hy h.faulted.state
    refine ⟨handle_faulted y h.faulted, fun z hz => ?_, hcontexts.trans h.contexts, hqueues.trans h.queues, fun c => ?_⟩
    · exact (List.mem_append.1 hz).elim (hsent z) fun hz => h.counted z (List.mem_cons_of_mem _ hz)
    · rw [handle_endEntry fun e he => by rw [he] at hy; cases hy]
      exact h.ends c
  sent item l s h := absurd (h.counted .passEnd List.mem_cons_self) (by simp [Signal.counted])

/-- The program that the windlass executed has ended FAULTED at the end of the run (R85, R112). -/
theorem run_fault_stops {kind : FaultKind} {n : Nat} {sent : List Outgoing} (hbound : s.bound) (hheads : s.headLaw)
    (hf : (s.axis .windlass).state ≠ .fault) (hd : kind.detectedIn (s.axis .windlass).state = true)
    (ht : (s.axis .windlass).takesReason = true) (hc : s.head .windlass = some c) (hk : ∀ y ∈ k, y.counted = true)
    (hu : (run n sent (.fault .windlass kind :: k) s).unsettled = false)
    (hcore : t.core = (run n sent (.fault .windlass kind :: k) s).core)
    (hreported : ∀ d x, (run n sent (.fault .windlass kind :: k) s).endEntry d = some ⟨.programEnd d, x⟩ → t.reported (.programEnd d) x) :
    s.stopsWith t c .windlass .faulted := by
  let E : Ending := { start := s, axis := .windlass, context := c, status := .faulted,
                      record := (endProgram c .faulted (s.enterFault .windlass kind)).1.axis .windlass }
  have v : E.valid := ⟨hbound, hbound.axis_of_head hc, by simp [E]⟩
  have horder : Orderly [.fault .windlass kind] s :=
    .of_noneFreed hbound (fun b => State.headOwed_of_headLaw hheads _ b) fun _ _ hm => by simp at hm
  have hqueued : s.contexts[c].state ≠ .queued := fun hq => hf ((hheads.1 .windlass c hc).1 hq)
  have horder := orderly_law.handled _ _ _ horder
  have hafter : allMild (s.afterFault .windlass kind) = true := by
    rw [State.afterFault, allMild_append, State.leavesIdle_mild]
    rfl
  rw [fault_executed hf hd ht hc, List.append_nil] at horder
  have hbegins := Ending.begins v horder (by simp [E]) (fun d => State.keeps_of_parts rfl rfl _ d) (.of_eq rfl) rfl hafter
    fun _ => ⟨hc, hqueued⟩
  have hfaulted : ((endProgram c .faulted (s.enterFault .windlass kind)).1.axis .windlass).faulted (s.firstFault .windlass kind) :=
    handle_faulted (.endProgram c .faulted) (s.enterFault_faulted .windlass kind)
  cases n with
  | zero => cases hu
  | succ n =>
    rw [run_succ, turn_handle _ _ _ _ (by simp), fault_executed hf hd ht hc] at hu hcore hreported
    cases n with
    | zero => cases hu
    | succ n =>
      rw [List.cons_append, run_succ, turn_handle _ _ _ _ (by simp)] at hu hcore hreported
      dsimp only at hu hcore hreported
      rw [handle, ← List.append_assoc] at hu hcore hreported
      have hboth : SignalLaw fun l u => E.on l u ∧ (u.axis .windlass).faulted (s.firstFault .windlass kind) :=
        { handled := fun x l u h => ⟨(Ending.law v).handled x l u h.1, (faulted_law ..).handled x l u h.2⟩
          sent := fun x l u h => ⟨(Ending.law v).sent x l u h.1, (faulted_law ..).sent x l u h.2⟩ }
      obtain ⟨m, later, u, ⟨hend, hrecord⟩, hrun⟩ := hboth.first k n _ ⟨hbegins, hfaulted⟩ hu
      rw [hrun] at hu hcore hreported
      have hcounting : Counting u (s.firstFault .windlass kind) k u := ⟨hrecord, hk, rfl, rfl, fun _ => rfl⟩
      rcases (counting_law u _).run m later hcounting with h | ⟨-, w, -, hw⟩
      · exact hend.stopsWith v ((State.contexts_of_core hcore).trans h.contexts) ((State.queues_of_core hcore).trans h.queues)
          fun d x hx => hreported d x ((h.ends d).trans hx)
      · rw [hw] at hu
        cases hu

/-- A fault of the windlass, at the end of the run that begins with it (R85, R86). -/
theorem run_fault_entersFault {kind : FaultKind} {n : Nat} {sent : List Outgoing} (hf : (s.axis .windlass).state ≠ .fault)
    (hd : kind.detectedIn (s.axis .windlass).state = true) (hk : ∀ y ∈ k, y.counted = true)
    (hcore : t.core = (run (n + 1) sent (.fault .windlass kind :: k) s).core)
    (hreported : ∀ d x, (run (n + 1) sent (.fault .windlass kind :: k) s).endEntry d = some ⟨.programEnd d, x⟩ →
      t.reported (.programEnd d) x) :
    s.entersFault t .windlass kind := by
  have hsettled (hu : t.unsettled = false) : (run (n + 1) sent (.fault .windlass kind :: k) s).unsettled = false := by
    rw [← hu]
    exact (congrArg State.unsettled hcore : t.core.unsettled = State.unsettled (State.core _)).symm
  have hheads (hlaw : s.queueLaw) (hu : t.unsettled = false) : s.headLaw := by
    refine (s.queueLaw_iff.1 hlaw).2 ?_
    by_contra hn
    have := hsettled hu
    rw [run_unsettled (by simpa using hn)] at this
    cases this
  have hrecord : (t.axis .windlass).faulted (s.firstFault .windlass kind) := by
    rw [State.axis_congr (State.axes_of_core hcore), run_succ, turn_handle _ _ _ _ (by simp)]
    exact (faulted_law .windlass _).end_of_run (fun _ h => h) n _ _ (fault_faulted hf hd)
  refine ⟨hrecord.state, hrecord.drive, hrecord.holds, hrecord.current, hrecord.fault, fun hlaw hu ht c hc => ?_,
    fun hlaw hu => ⟨fun _ => ?_, fun h hh => by cases hh⟩⟩
  · exact run_fault_stops (s.queueLaw_iff.1 hlaw).1 (hheads hlaw hu) hf hd ht hc hk (hsettled hu) hcore hreported
  · have hsame := hheads hlaw hu
    have hu := hsettled hu
    have hfeedless : allFeedless k = true := List.all_eq_true.2 fun y hy => by
      have := hk y hy
      cases y <;> first | rfl | cases this
    have hraw : t.raw windlassSlot = (run (n + 1) sent (.fault .windlass kind :: k) s).raw windlassSlot :=
      (congrArg (State.raw · windlassSlot) hcore : t.core.raw windlassSlot = State.raw (State.core _) windlassSlot)
    rw [hraw]
    rw [run_succ, turn_handle _ _ _ _ (by simp)] at hu ⊢
    rcases (unfed_law _).run n _ (fault_unfed (s.queueLaw_iff.1 hlaw).1 hsame hfeedless hf hd) with h | ⟨-, w, -, hw⟩
    · rcases h.gone with h | h | ⟨_, _, h, -⟩
      · exact h
      · cases h
      · cases h
    · rw [hw] at hu
      cases hu

end Sys2Proof.Machine
end

section
/-! SET_AXIS (R66 to R68, R84, R88): its refusals, the fields that it stores, and the onset of OVERTRAVEL. -/

namespace Sys2Proof.Machine

variable {s t : State} {a : Axis}

/-! ## The stored fields -/

/-- A field of SET_AXIS is out of range for an axis with these soft limits (R88). -/
def axisOutOfRange (upper : Int) (f : AxisFields) : Prop :=
  7 < f.warnPattern ∨ (∃ z ∈ f.warnZones, 23 < z) ∨ 24 < f.warnZones.length ∨ ∃ i : Fin 4, f.presets[i] < 0 ∨ upper < f.presets[i]

/-- The configuration of an axis as SET_AXIS stores it (R88). -/
def storedConfig (f : AxisFields) : AxisConfig :=
  { presets := f.presets, warnTime := min f.warnTime 10000, prepareTimeout := min f.prepareTimeout 120,
    warnPattern := Fin.ofNat 8 f.warnPattern, warnZones := (List.range 24).filter fun z => f.warnZones.contains z }

theorem presets_within_iff (gear : GearConfig) (a : Axis) (f : AxisFields) :
    f.presets.toList.all (withinLimits gear a) = true ↔ ¬ ∃ i : Fin 4, f.presets[i] < 0 ∨ upperLimit gear a < f.presets[i] := by
  rw [List.all_eq_true]
  constructor
  · rintro h ⟨i, hi⟩
    have hin := h f.presets[i] (by simp)
    simp only [withinLimits, decide_eq_true_eq] at hin
    rcases hi with hi | hi
    · exact absurd hin.1 (not_le.2 hi)
    · exact absurd hin.2 (not_le.2 hi)
  · intro h p hp
    obtain ⟨i, hi, rfl⟩ := List.mem_iff_getElem.1 hp
    rw [Vector.length_toList] at hi
    have hnot : ¬ (f.presets[i] < 0 ∨ upperLimit gear a < f.presets[i]) := fun e => h ⟨⟨i, hi⟩, e⟩
    rw [not_or, not_lt, not_lt] at hnot
    simpa only [withinLimits, decide_eq_true_eq, Vector.getElem_toList] using hnot

theorem storedAxis_refused {gear : GearConfig} {f : AxisFields} (h : axisOutOfRange (upperLimit gear a) f) : storedAxis a gear f = none := by
  unfold storedAxis
  split
  · rfl
  · next hz =>
    split
    · next hp =>
      rw [presets_within_iff] at hp
      rw [not_or, Bool.not_eq_true] at hz
      rcases h with h | ⟨z, hm, hz'⟩ | h | h
      · rw [indexOf_none (by omega)]
        rfl
      · have := List.any_eq_false.1 hz.1 z hm
        simp [hz'] at this
      · exact absurd h hz.2
      · exact absurd h hp
    · rfl

theorem storedAxis_stored {gear : GearConfig} {f : AxisFields} (h : ¬ axisOutOfRange (upperLimit gear a) f) :
    storedAxis a gear f = some (storedConfig f) := by
  simp only [axisOutOfRange, not_or] at h
  obtain ⟨hk, hz, hlen, hp⟩ := h
  have hany : ¬ (f.warnZones.any (fun z => decide (23 < z)) = true ∨ 24 < f.warnZones.length) := by
    rw [not_or]
    refine ⟨fun e => hz ?_, hlen⟩
    obtain ⟨z, hm, he⟩ := List.any_eq_true.1 e
    exact ⟨z, hm, of_decide_eq_true he⟩
  have hindex : indexOf 8 f.warnPattern = some (Fin.ofNat 8 f.warnPattern) := by
    rw [indexOf, dif_pos (by omega)]
    exact congrArg some (Fin.ext (Nat.mod_eq_of_lt (by omega)).symm)
  rw [storedAxis, if_neg hany, if_pos ((presets_within_iff gear a f).2 hp), hindex]
  rfl

theorem clampInto_eq {low high : Nat} (h : low ≤ high) (n : Nat) :
    clampInto low high n = if n < low then low else if high < n then high else n := by
  unfold clampInto
  split
  · omega
  · split <;> omega

theorem storedGear_eq (f : AxisFields) : storedGear f =
    { maxRode := if f.maxRode < 10000 then 10000 else if 150000 < f.maxRode then 150000 else f.maxRode,
      pulses := if f.pulses < 1 then 1 else if 64 < f.pulses then 64 else f.pulses,
      chain := if f.chain < 100 then 100 else if 2000 < f.chain then 2000 else f.chain, rating := min f.rating 4000 } := by
  rw [storedGear, clampInto_eq (by decide), clampInto_eq (by decide), clampInto_eq (by decide)]

theorem gearAfter_eq (a : Axis) (f : AxisFields) (gear : GearConfig) :
    gearAfter a f gear = if a = .windlass then storedGear f else gear := by cases a <;> rfl

/-- The upper soft limit that a request names is that of the gear which it stores (R68). -/
theorem upperLimit_gearAfter (a : Axis) (f : AxisFields) (gear : GearConfig) :
    upperLimit (gearAfter a f gear) a = if a = .hatch then 900 else if a = .platform then 1500
      else ((if f.maxRode < 10000 then 10000 else if 150000 < f.maxRode then 150000 else f.maxRode : Nat) : Int) := by
  cases a with
  | windlass => simp [gearAfter, upperLimit, storedGear_eq]
  | hatch | platform => rfl

/-! ## What follows from the stored fields -/

/-- The limits and the position of a hydraulic axis do not tell of what SET_AXIS stores. -/
theorem storeAxis_onset_windlass {c : AxisConfig} {f : AxisFields}
    (hafter : beyondMargin (storeAxis a c f s).config.gear a ((storeAxis a c f s).measured a) = true)
    (hbefore : beyondMargin s.config.gear a (s.measured a) = false) : a = .windlass := by
  cases a with
  | windlass => rfl
  | hatch | platform => exact absurd (hbefore.symm.trans hafter) (by simp)

/-- SET_AXIS whose fields lie in range stores them, and an OVERTRAVEL that they alone make is a fault (R84, R88). -/
theorem axisWritten_follows (a : Axis) (before s : State) : s.follows (settle (axisWritten a before s)) := by
  refine State.follows_of (settle_fixed _) (settle_aspect _ ?_)
  unfold axisWritten
  dsimp only
  (repeat' split) <;> rfl

theorem axisWritten_none {s before : State} (hdeck : before.config.deckLevel = s.config.deckLevel)
    (honset : ¬ (beyondMargin s.config.gear a (s.measured a) = true ∧ beyondMargin before.config.gear a (before.measured a) = false)) :
    axisWritten a before s = (s, []) := by
  have hno : (beyondMargin s.config.gear a (s.measured a) && !beyondMargin before.config.gear a (before.measured a)) = false := by
    rw [← Bool.not_eq_true]
    simpa using honset
  simp [axisWritten, hdeck, hno]

theorem axisWritten_onset {s before : State} (hdeck : before.config.deckLevel = s.config.deckLevel)
    (hafter : beyondMargin s.config.gear a (s.measured a) = true) (hbefore : beyondMargin before.config.gear a (before.measured a) = false) :
    axisWritten a before s = (s, [.fault a .overtravel]) := by
  simp [axisWritten, hdeck, hafter, hbefore]

/-- What SET_AXIS does once its fields are stored (R84, R88). -/
theorem stored_settles (tag : Byte) (a : Axis) (f : AxisFields) (c : AxisConfig) (hidle : (s.axis a).state = .idle) :
    let stored := storeAxis a c f s
    let u := settle (axisWritten a s stored)
    let t := (u.reply 0x30 tag .ok (u8 (axisNumber a) ++ u.axisSetBytes a)).kick
    stored.follows t ∧ s.answers t 0x30 tag (u8 (axisNumber a) ++ t.axisSetBytes a)
      ∧ t.measured .windlass = some ((s.gypsy.count * stored.config.gear.chain / stored.config.gear.pulses : Nat) : Int)
      ∧ if beyondMargin stored.config.gear a (stored.measured a) = true ∧ beyondMargin s.config.gear a (s.measured a) = false then
          stored.entersFault t a .overtravel
        else stored.config.deckLevel = s.config.deckLevel →
          stored.onlyAnswers t (okFrame 0x30 tag (u8 (axisNumber a) ++ stored.axisSetBytes a)) := by
  intro stored u t
  have hfollows : stored.follows t := ((axisWritten_follows a s stored).reply ..).kick
  obtain ⟨-, -, -, hconfig, -, -, -, -, -, hcount, -⟩ := State.fixed_fields hfollows.1
  obtain ⟨-, -, -, huconfig, -⟩ := State.fixed_fields (axisWritten_follows a s stored).1
  have hbytes {v : State} (hv : v.config = stored.config) : v.axisSetBytes a = stored.axisSetBytes a := by
    rw [State.axisSetBytes, hv]
    unfold State.axisConfig
    rw [hv]
    rfl
  refine ⟨hfollows, ?_, ?_, ?_⟩
  · rw [hbytes hconfig, ← hbytes huconfig]
    exact reply_kick_answers (settle_outgoing _) ..
  · rw [State.measured, rodeOf, hconfig, hcount]
    rfl
  · split
    · next h =>
      obtain rfl := storeAxis_onset_windlass h.1 h.2
      have hsettled : u = run (99999 + 1) [] [.fault .windlass .overtravel] stored := by
        show settle _ = _
        rw [axisWritten_onset (s := stored) (before := s) rfl h.1 h.2]
        rfl
      have hstate : (stored.axis .windlass).state = .idle := hidle
      refine run_fault_entersFault (k := []) (sent := []) (n := 99999) (by rw [hstate]; decide) rfl (by simp) ?_ fun d x hx => ?_
      · rw [← hsettled]
        exact (State.kick_core _).trans rfl
      · rw [← hsettled] at hx
        exact State.kick_reported hx
    · next h =>
      intro hdeck
      have hsettled : u = stored := by
        show settle _ = _
        rw [axisWritten_none hdeck.symm h, settle_nil]
      show stored.onlyAnswers (u.reply ..).kick _
      rw [hsettled]
      exact reply_kick_onlyAnswers ..

/-- Settles O29: refusals, the stored fields, and the onset of OVERTRAVEL, which only the windlass's own gear can make. -/
theorem setAxisStoresTheFields : Obligations.SetAxisStoresTheFields := by
  unfold Obligations.SetAxisStoresTheFields
  intro tag a f s
  dsimp only
  have hnumber := axisOf_axisNumber a
  rw [← upperLimit_gearAfter a f s.config.gear, ← storedGear_eq, ← gearAfter_eq]
  by_cases hbusy : s.store.saving.isSome = true ∨ (s.axis a).state ≠ .idle
  · simp only [if_pos hbusy]
    exact refused_of (by
      have : (s.isSaving || decide ((s.axis a).state ≠ .idle)) = true := by simpa [State.isSaving] using hbusy
      simp only [takeSetAxis, hnumber, this, if_true])
  simp only [if_neg hbusy]
  have hfree : (s.isSaving || decide ((s.axis a).state ≠ .idle)) = false := by
    rw [← Bool.not_eq_true]
    simpa [State.isSaving] using hbusy
  by_cases hrange : axisOutOfRange (upperLimit (gearAfter a f s.config.gear) a) f
  · refine ⟨_, rfl, (if_pos hrange).mpr ?_⟩
    have hrefused : takeSetAxis tag (axisNumber a) f s = s.refuse 0x30 tag .range := by
      simp only [takeSetAxis, hnumber, hfree, storedAxis_refused hrange]
      rfl
    rw [hrefused]
    exact reply_kick_onlyAnswers ..
  · refine ⟨_, rfl, (if_neg hrange).mpr ?_⟩
    have htaken : takeSetAxis tag (axisNumber a) f s
        = (settle (axisWritten a s (storeAxis a (storedConfig f) f s))).reply 0x30 tag .ok
          (u8 (axisNumber a) ++ (settle (axisWritten a s (storeAxis a (storedConfig f) f s))).axisSetBytes a) := by
      simp only [takeSetAxis, hnumber, hfree, storedAxis_stored hrange]
      rfl
    rw [htaken]
    exact stored_settles tag a f (storedConfig f) (by simpa using (not_or.1 hbusy).2)

end Sys2Proof.Machine
end

section
/-! The pulses of the windlass and its home switch (R66, R70, R72, R76, R84): the count, and the checks of a changed rode. -/

namespace Sys2Proof.Machine

variable {s t : State} {a : Axis} {x : CurrentStep} {p : Int}

/-! ## The checks of a position change -/

theorem Step.arrived_iff (a : Axis) (y : Step) (p : Int) : y.arrived a (some p) = true ↔
    (if y.direction = .out then y.target - arrivalTolerance a ≤ p
      else if y.direction = .inward then p ≤ y.target + arrivalTolerance a else True) := by
  unfold Step.arrived
  cases y.direction <;> simp

theorem arrivalTolerance_eq (a : Axis) : arrivalTolerance a = if a = .hatch then 5 else if a = .platform then 10 else 250 := by
  cases a <;> rfl

theorem Step.speedInForce_eq (a : Axis) (y : Step) (p : Int) : y.speedInForce a (some p) =
    if y.speedClass = .normal ∧ |y.target - p| ≤ approachZone a then .slow else y.speedClass := by
  unfold Step.speedInForce
  cases y.speedClass <;> simp

/-- The record of a MOVING axis that goes on with its step (R70). -/
theorem driveOn_moving (hx : (s.axis a).current = some x) (hp : s.measured a = some p) : (s.driveOn a).axis a = { s.axis a with
    speed := x.step.speedInForce a (some p), drive := moveDrive x.step.direction (x.step.speedInForce a (some p)) } := by
  simp [AxisRecord.driven, hx, hp]

/-- A travel report is posted where the position has moved on by its step, and the travel reference follows (R76). -/
theorem travelReport_reports (hp : s.measured a = some p) :
    if travelStep a ≤ |p - (s.axis a).travelRef| then
      (s.travelReport a).axis a = { s.axis a with travelRef := p }
        ∧ (s.travelReport a).link.reports.find? (·.key = .axis a) = some ⟨.axis a, (s.travelReport a).axisContent a⟩
    else s.travelReport a = s := by
  unfold State.travelReport
  rw [hp]
  dsimp only
  split
  · exact ⟨by simp, find_postTo_same ..⟩
  · rfl

theorem State.axisContent_of_core (h : t.core = s.core) (a : Axis) : t.axisContent a = s.axisContent a :=
  (congrArg (State.axisContent · a) h : t.core.axisContent a = s.core.axisContent a)

/-- A MOVING axis within its margins dwells where it has arrived, and else moves on (R70, R72, R76, R78). -/
theorem run_travelled_movesOn {before : Option Int} (hs : (s.axis a).state = .moving) (hx : (s.axis a).current = some x)
    (hp : s.measured a = some p) (hin : beyondMargin s.config.gear a (some p) = false) (n : Nat) (sent : List Outgoing) :
    s.movesOn (run (n + 1) sent [.travelled a before] s).kick a x p := by
  have honset : s.onset a before = [] := by
    rw [State.onset, hp, overtravelOnset, hin]
    rfl
  have hrun : run (n + 1) sent [.travelled a before] s
      = run n (sent ++ Signal.outgoing (.travelled a before) s) ((travelled a before s).2 ++ []) (travelled a before s).1 := by
    rw [run_succ, turn_handle _ _ _ _ (by simp)]
    rfl
  have hiff := Step.arrived_iff a x.step p
  rw [arrivalTolerance_eq] at hiff
  unfold State.movesOn
  dsimp only
  revert hrun
  refine travelled_cases (P := fun k => run (n + 1) sent [.travelled a before] s = run n _ (k.2 ++ []) k.1 → _)
    (fun z _ hz harr hrun => ?_) (fun z _ hz harr _ hrun => ?_) (fun _ _ _ _ h => by rw [honset] at h; cases h)
    fun h => by rw [h hs] at hx; cases hx
  all_goals
    obtain rfl := Option.some.inj (hx.symm.trans hz)
    rw [hp] at harr
  · rw [if_pos (hiff.1 harr)]
    intro hdwell
    have hlong : (s.axis a).dwell ≠ 0 := by rw [AxisRecord.dwell, hx]; exact hdwell
    have hquiet : (enterDwell a s).2 = [] := by unfold enterDwell; simp [hlong]
    rw [hrun, hquiet, honset, show ([] : List Signal) ++ [] ++ [] = [] from rfl, run_nil,
      State.axis_congr (State.axes_of_core (State.kick_core _)), enterDwell_axis, State.startDwell_axis]
    exact ⟨rfl, rfl, by rw [AxisRecord.dwell, hx]⟩
  · rw [if_neg fun h => by rw [hiff.2 h] at harr; cases harr]
    have hdriven := driveOn_moving hx hp
    have hmeasured : (s.driveOn a).measured a = some p := by rw [State.measured_of_still (State.driveOn_still s a), hp]
    have hreports := travelReport_reports hmeasured
    rw [hdriven] at hreports
    dsimp only at hreports
    rw [hrun, show ([] : List Signal) ++ [] = [] from rfl, run_nil]
    have hcore := ((s.driveOn a).travelReport a).kick_core
    rw [State.axis_congr (State.axes_of_core hcore), State.axisContent_of_core hcore, ← Step.speedInForce_eq]
    by_cases htravel : travelStep a ≤ |p - (s.axis a).travelRef|
    · rw [if_pos htravel] at hreports ⊢
      rw [hreports.1]
      exact ⟨hs, rfl, rfl, rfl, State.kick_reported hreports.2⟩
    · rw [if_neg htravel] at hreports ⊢
      rw [hreports, hdriven]
      exact ⟨hs, rfl, rfl, rfl⟩

/-- A fault that an axis enters is told from its state, its step and what the axes do not hold. -/
theorem State.entersFault.of_onAxis {f : AxisRecord → AxisRecord} {kind : FaultKind} (h : (s.onAxis a f).entersFault t a kind)
    (hstate : (f (s.axis a)).state = (s.axis a).state) (hcurrent : (f (s.axis a)).current = (s.axis a).current) :
    s.entersFault t a kind := by
  have htakes : ((s.onAxis a f).axis a).takesReason = (s.axis a).takesReason := by
    rw [State.onAxis_axis_same]
    simp only [AxisRecord.takesReason, hstate, hcurrent]
  obtain ⟨h1, h2, h3, h4, h5, h6, h7⟩ := h
  rw [htakes] at h5 h6
  exact ⟨h1, h2, h3, h4, h5, fun hlaw => h6 (hlaw.onAxis hstate hcurrent), fun hlaw => h7 (hlaw.onAxis hstate hcurrent)⟩

/-- A rode that passes its limit by more than the margin is a fault of the windlass, where it has not arrived (R84). -/
theorem run_travelled_overtravel {before : Option Int} (hafter : beyondMargin s.config.gear .windlass (s.measured .windlass) = true)
    (hbefore : beyondMargin s.config.gear .windlass before = false) (hf : (s.axis .windlass).state ≠ .fault)
    (hgoes : (s.axis .windlass).state = .moving →
      (s.axis .windlass).current.all (fun c => !c.step.arrived .windlass (s.measured .windlass)) = true) (n : Nat) (sent : List Outgoing) :
    s.entersFault (run (n + 2) sent [.travelled .windlass before] s).kick .windlass .overtravel := by
  have honset : s.onset .windlass before = [.fault .windlass .overtravel] := by
    rw [State.onset, overtravelOnset, hafter, hbefore]
    rfl
  have hrun : run (n + 2) sent [.travelled .windlass before] s
      = run (n + 1) (sent ++ Signal.outgoing (.travelled .windlass before) s) ((travelled .windlass before s).2 ++ [])
        (travelled .windlass before s).1 := by
    rw [run_succ, turn_handle _ _ _ _ (by simp)]
    rfl
  rw [hrun]
  clear hrun
  refine travelled_cases (P := fun k => s.entersFault (run (n + 1) _ (k.2 ++ []) k.1).kick .windlass .overtravel)
    (fun x hs hx harr => ?_) (fun x hs hx harr h => ?_) (fun x hs hx harr h => ?_) fun h => ?_
  · have := hgoes hs
    rw [hx] at this
    simp [harr] at this
  · rw [honset] at h
    cases h
  · have hdriven : s.driveOn .windlass = s.onAxis .windlass fun r => { r with
        speed := x.step.speedInForce .windlass (s.measured .windlass),
        drive := moveDrive x.step.direction (x.step.speedInForce .windlass (s.measured .windlass)) } := by
      rw [State.driveOn, hx]
    rw [List.append_nil, hdriven]
    refine State.entersFault.of_onAxis (f := fun r => { r with
      speed := x.step.speedInForce .windlass (s.measured .windlass),
      drive := moveDrive x.step.direction (x.step.speedInForce .windlass (s.measured .windlass)) }) ?_ rfl rfl
    exact run_fault_entersFault (by rw [State.onAxis_axis_same]; exact hf) rfl (by simp) (State.kick_core _) fun _ _ => State.kick_reported
  · rw [honset, List.append_nil]
    exact run_fault_entersFault hf rfl (by simp) (State.kick_core _) fun _ _ => State.kick_reported

/-! ## The evaluation of permits that stand -/

/-- An evaluation that finds every permit as it stands changes nothing (R123). -/
theorem evaluatePermits_same (h : s.workedPermits = s.permits) : evaluatePermits s = (s, []) := by
  have hworked (a : Axis) (d : Direction) : s.workedPermit a d = s.permit a d := by
    rw [State.permit, ← h]
    cases a <;> cases d <;> rfl
  have hnone : (allPermits.filter fun p => s.workedPermit p.1 p.2 != s.permit p.1 p.2) = [] :=
    List.filter_eq_nil_iff.2 fun p _ => by simp [hworked]
  rw [evaluatePermits, hnone, h]
  rfl

theorem arrivalMeetsLoss_same (h : s.workedPermits = s.permits) (a : Axis) : s.arrivalMeetsLoss a = false := by
  have hworked (d : Direction) : s.workedPermit a d = s.permit a d := by
    rw [State.permit, ← h]
    cases a <;> cases d <;> rfl
  unfold State.arrivalMeetsLoss
  split
  · split
    · rw [hworked]
      simp
    · simp
  · rfl

/-! ## Pulses -/

/-- The windlass's current step goes against a pulse (R84). -/
def AxisRecord.againstPulse (r : AxisRecord) (payingOut : Bool) : Bool :=
  r.current.any fun c => decide (c.step.direction = if payingOut = true then .inward else .out)

theorem Step.against_eq (y : Step) (payingOut : Bool) :
    y.against payingOut = decide (y.direction = if payingOut = true then .inward else .out) := by
  unfold Step.against
  cases y.direction <;> cases payingOut <;> rfl

theorem State.reverseAfter_eq (s : State) (payingOut : Bool) : s.reverseAfter payingOut =
    if (s.axis .windlass).againstPulse payingOut = true then min 65535 (s.gypsy.reverse + 1) else s.gypsy.reverse := by
  have hcurrent : s.axes.windlass.current = (s.axis .windlass).current := rfl
  unfold State.reverseAfter AxisRecord.againstPulse
  rw [hcurrent]
  cases (s.axis .windlass).current with
  | none => rfl
  | some c => simp [Step.against_eq]

/-- The state in which a pulse has been counted (R66, R84). -/
def State.pulsed (s : State) (payingOut : Bool) (count reverse : Nat) : State :=
  { s with inputs := { s.inputs with payingOut }, gypsy := { s.gypsy with count, reverse } }

theorem rodeSignals_counted (s t : State) : ∀ y ∈ rodeSignals s t, y.counted = true := by
  unfold rodeSignals
  split <;> simp [Signal.counted]

theorem rodeSignals_same (h : s.measured .windlass = t.measured .windlass) : rodeSignals s t = [] := if_pos h

theorem rodeSignals_changed (h : s.measured .windlass ≠ t.measured .windlass) :
    rodeSignals s t = [.travelled .windlass (s.measured .windlass)] := if_neg h

theorem rodeSignals_calm (s t : State) : allCalm (rodeSignals s t) = true := by
  unfold rodeSignals
  split <;> rfl

/-- What the checks after a pulse do (R66, R70, R72, R76, R84). -/
theorem pulse_checks {payingOut : Bool} {n reverse : Nat} {z : Int} (hz : (s.pulsed payingOut n reverse).measured .windlass = some z) :
    let u := s.pulsed payingOut n reverse
    let t := (settle (u, rodeSignals s u)).kick
    (s.measured .windlass = some z → u.becomes t)
      ∧ (s.measured .windlass ≠ some z → (s.axis .windlass).state = .moving → beyondMargin s.config.gear .windlass (some z) = false →
          ∀ c, (s.axis .windlass).current = some c → s.movesOn t .windlass c z)
      ∧ (beyondMargin s.config.gear .windlass (some z) = true → beyondMargin s.config.gear .windlass (s.measured .windlass) = false →
          (s.axis .windlass).state ≠ .fault →
          ((s.axis .windlass).state = .moving →
            (s.axis .windlass).current.all (fun c => !c.step.arrived .windlass (some z)) = true) →
          u.entersFault t .windlass .overtravel) := by
  intro u t
  have hchanged (h : s.measured .windlass ≠ some z) :
      t = (run (99998 + 2) [] [.travelled .windlass (s.measured .windlass)] u).kick := by
    show (settle _).kick = _
    rw [rodeSignals_changed (by rw [hz]; exact h)]
    rfl
  refine ⟨fun h => ?_, fun h hs hin c hc => ?_, fun hafter hbefore hf hgoes => ?_⟩
  · show u.becomes (settle _).kick
    rw [rodeSignals_same (h.trans hz.symm), settle_nil]
    exact kick_becomes u
  · rw [hchanged h]
    exact run_travelled_movesOn (s := u) hs hc hz hin 99999 []
  · rw [hchanged fun h => by rw [h, hafter] at hbefore; cases hbefore]
    exact run_travelled_overtravel (s := u) (by rw [hz]; exact hafter) hbefore hf (by rw [hz]; exact hgoes) 99998 []

/-- WINDLASS_PULSE (R66, R84). -/
theorem pulse_counts (payingOut : Bool) (s : State) {n : Nat} (hn : n = pulsedCount s.inputs.anchorHome payingOut s.gypsy.count) :
    let reverse := s.reverseAfter payingOut
    let u := s.pulsed payingOut n reverse
    let t := (settle (u, (if reverse = 4 ∧ s.gypsy.reverse = 3 then [.fault .windlass .sensor] else []) ++ rodeSignals s u)).kick
    exec (.windlassPulse payingOut) s = .next t ∧ u.follows t
      ∧ ((s.axis .windlass).state ≠ .idle → (s.axis .windlass).state ≠ .fault → s.gypsy.reverse = 3 →
          (s.axis .windlass).againstPulse payingOut = true → u.entersFault t .windlass .sensor)
      ∧ (((s.axis .windlass).againstPulse payingOut = false ∨ s.gypsy.reverse ≠ 3) → t = (settle (u, rodeSignals s u)).kick) := by
  intro reverse u t
  subst hn
  refine ⟨rfl, State.follows.kick (State.follows_of (settle_fixed _) (settle_aspect _ ?_)), fun hidle hf h3 hagainst => ?_, fun hnot => ?_⟩
  · dsimp only
    rw [allCalm_append, rodeSignals_calm, Bool.and_true]
    split <;> rfl
  · have h4 : reverse = 4 := by
      show s.reverseAfter payingOut = 4
      rw [State.reverseAfter_eq, if_pos hagainst, h3]
      rfl
    have ht : t = (run (99999 + 1) [] (.fault .windlass .sensor :: rodeSignals s u) u).kick := by
      show (settle _).kick = _
      rw [if_pos ⟨h4, h3⟩]
      rfl
    rw [ht]
    refine run_fault_entersFault hf ?_ (rodeSignals_counted s u) (State.kick_core _) fun _ _ => State.kick_reported
    exact decide_eq_true hidle
  · have hno : ¬ (reverse = 4 ∧ s.gypsy.reverse = 3) := by
      rintro ⟨h4, h3⟩
      have h4 : s.reverseAfter payingOut = 4 := h4
      rw [State.reverseAfter_eq, h3] at h4
      rcases hnot with h | h
      · rw [h] at h4
        simp at h4
      · exact h h3
    show (settle _).kick = _
    rw [if_neg hno]
    rfl

/-! ## The home switch -/

/-- ANCHOR_HOME_CHANGE stored (R66). -/
def State.homed (s : State) (active : Bool) : State :=
  { s with inputs := { s.inputs with anchorHome := active },
           gypsy := { s.gypsy with count := if active = true then 0 else s.gypsy.count } }

/-- The event of the home switch (R66, R123). -/
def State.homeEvent (s u : State) : Handled :=
  if rodeSignals s u = [] then (u, [.evaluatePermits]) else positionEvent .windlass (s.measured .windlass) u

/-- How the event of a position change begins: perhaps with a free choice counted, and with an evaluation (R76, R123). -/
theorem homeEvent_begins (s u : State) :
    ((s.homeEvent u).1 = u ∨ (s.homeEvent u).1 = { u with freeIndex := u.freeIndex + 1 } ∧ u.arrivalMeetsLoss .windlass = true)
      ∧ .evaluatePermits ∈ (s.homeEvent u).2 ∧ allCalm (s.homeEvent u).2 = true := by
  unfold State.homeEvent positionEvent
  split
  · exact ⟨.inl rfl, by simp, rfl⟩
  · split
    · next h =>
      refine ⟨.inr ⟨rfl, h⟩, ?_, ?_⟩ <;> split <;> simp [Signal.calm]
    · exact ⟨.inl rfl, by simp, rfl⟩

/-- A rode that the home switch changes is 0, and within its limits. -/
theorem homed_changed {active : Bool} (h : (s.homed active).measured .windlass ≠ s.measured .windlass) :
    (s.homed active).measured .windlass = some 0 := by
  cases active with
  | false => exact absurd rfl h
  | true => simp [State.measured, State.homed, rodeOf]

theorem beyondMargin_zero (gear : GearConfig) : beyondMargin gear .windlass (some 0) = false := by
  have hnot : ¬ ((0 : Int) < -overtravelMargin .windlass ∨ upperLimit gear .windlass + overtravelMargin .windlass < 0) := by
    simp only [overtravelMargin, upperLimit]
    omega
  exact decide_eq_false hnot

/-- Where the permits stand, the home switch makes the checks of the changed rode, or none (R66, R76). -/
theorem homed_checks {active : Bool} (hsame : (s.homed active).workedPermits = s.permits) :
    let u := s.homed active
    let t := (settle (s.homeEvent u)).kick
    (u.measured .windlass = s.measured .windlass → u.becomes t)
      ∧ (u.measured .windlass ≠ s.measured .windlass → (s.axis .windlass).state = .moving →
          ∀ c, (s.axis .windlass).current = some c → s.movesOn t .windlass c 0) := by
  intro u t
  have hworked : u.workedPermits = u.permits := hsame
  have hevaluated : handle .evaluatePermits u = (u, []) := evaluatePermits_same hworked
  refine ⟨fun h => ?_, fun h hs c hc => ?_⟩
  · have ht : t = u.kick := by
      show (settle (s.homeEvent u)).kick = _
      rw [State.homeEvent, if_pos (rodeSignals_same h.symm), settle, signalBound, run_succ, turn_handle _ _ _ _ (by simp), hevaluated]
      exact congrArg State.kick (run_nil ..)
    rw [ht]
    exact kick_becomes u
  · have hzero := homed_changed h
    have ht : t = (run (99998 + 1) (Signal.outgoing .evaluatePermits u) [.travelled .windlass (s.measured .windlass)] u).kick := by
      show (settle (s.homeEvent u)).kick = _
      rw [State.homeEvent, rodeSignals_changed h.symm, if_neg (by simp), positionEvent, arrivalMeetsLoss_same hworked, if_neg (by simp),
        settle, signalBound, run_succ, turn_handle _ _ _ _ (by simp), hevaluated]
      rfl
    rw [ht]
    exact run_travelled_movesOn (s := u) hs hc hzero (beyondMargin_zero _) 99998 _

/-- Settles O32: the pulse, the home switch, and the law of the count (`Stirs.homeLaw`). -/
theorem pulsesCountTheRode : Obligations.PulsesCountTheRode := by
  refine ⟨fun payingOut s => ?_, fun active s => ?_, fun s t h e => (step_stirs e).homeLaw h⟩
  · obtain ⟨hexec, hfollows, hsensor, hother⟩ := pulse_counts payingOut s rfl
    refine ⟨_, hexec, hfollows, ?_, fun hidle hf h3 ⟨c, hc, hd⟩ => hsensor hidle hf h3 ?_, fun hnot => ?_⟩
    · obtain ⟨-, -, -, hconfig, -, -, -, -, -, hcount, -⟩ := State.fixed_fields hfollows.1
      rw [State.measured, rodeOf, hconfig, hcount]
      rfl
    · simp [AxisRecord.againstPulse, hc, hd]
    · rw [hother hnot, State.reverseAfter_eq]
      exact pulse_checks rfl
  · let u := s.homed active
    obtain ⟨hbegins, hevaluates, hcalm⟩ := homeEvent_begins s u
    have hkept : (settle (s.homeEvent u)).kick.fixed = (s.homeEvent u).1.fixed := (State.kick_fixed _).trans (settle_fixed _)
    obtain ⟨-, hfree, -⟩ := State.fixed_fields hkept
    have haspect : (settle (s.homeEvent u)).kick.aspect = (s.homeEvent u).1.aspect := (State.kick_aspect _).trans (settle_aspect _ hcalm)
    refine ⟨(settle (s.homeEvent u)).kick, rfl, ?_, fun hu => ?_, ?_, homed_checks⟩
    · rw [hfree]
      rcases hbegins with h | ⟨h, -⟩ <;> rw [h] at hkept haspect ⊢ <;> exact State.follows_of hkept haspect
    · have hcore := (settle (s.homeEvent u)).kick_core
      have hpermits : (settle (s.homeEvent u)).kick.permits = (settle (s.homeEvent u)).permits :=
        (congrArg State.permits hcore : State.permits (State.core _) = State.permits (State.core _))
      have hworked : (settle (s.homeEvent u)).kick.workedPermits = (settle (s.homeEvent u)).workedPermits :=
        (congrArg State.workedPermits hcore : State.workedPermits (State.core _) = State.workedPermits (State.core _))
      rw [hpermits, hworked]
      exact (permitsOwed_law.settled (.inr hevaluates) ((State.kick_same _).2.2.1 ▸ hu)).resolve_right (by simp)
    · rw [hfree]
      rcases hbegins with h | ⟨h, hmeets⟩
      · exact .inl (by rw [h]; rfl)
      · exact .inr ⟨by rw [h]; rfl, hmeets⟩

end Sys2Proof.Machine
end

section
/-! ACK_FAULT (R73, R74, R87, R96) up to the step that the axis takes up: the axis leaves FAULT for good, and rests in IDLE until its
head is taken up. -/

namespace Sys2Proof.Machine

variable {s t : State} {a b : Axis} {c : Fin 16} {l k : List Signal}

/-! ## An axis without a cause of a fault -/

/-- A signal that may bring a fault of an axis without another one. -/
def Signal.strikes (a : Axis) : Signal → Bool
  | .fault b _ | .travelled b _ => decide (b = a)
  | .press _ _ => true
  | _ => false

theorem Signal.strikes_of_mild {y : Signal} (h : y.mild = true) : y.strikes a = false := by
  cases y <;> first | rfl | cases h

theorem enterPreparing_mild (h : s.entryFault a = none) : allMild (enterPreparing a s).2 = true := by
  rw [enterPreparing_enters h]
  cases a <;> simp [allMild, Signal.mild, hydraulicOf, windlassDemand, State.leavesIdle, idleSignals]

/-- Without a cause at the entry to PREPARING nothing brings a fault of the axis (R74). -/
theorem handle_strikes {x y : Signal} (h : s.entryFault a = none) (hx : x.strikes a = false) (hy : y ∈ (handle x s).2) :
    y.strikes a = false := by
  have mild {l : List Signal} (hl : allMild l = true) (hy : y ∈ l) : y.strikes a = false := Signal.strikes_of_mild (allMild_mem hl hy)
  have hfault {b : Axis} (hb : b ≠ a) (j : FaultKind) : (Signal.fault b j).strikes a = false := decide_eq_false hb
  have hother {b : Axis} (hxb : handle x s = takeUp b s ∨ ∃ r, handle x s = removeHold b r s) (hb : b = a) : y.strikes a = false := by
    subst hb
    rcases hxb with hxb | ⟨r, hxb⟩
    · rw [hxb] at hy
      revert hy
      exact takeUp_cases (P := fun k => y ∈ k.2 → _) (fun _ _ _ _ _ => mild (enterPreparing_mild h)) (by simp)
    · rw [hxb] at hy
      revert hy
      refine removeHold_cases (P := fun k => y ∈ k.2 → _) (fun _ _ _ => mild (enterPreparing_mild ?_)) (fun _ _ _ => mild rfl)
        (fun _ _ => by simp) fun _ => by simp
      exact h
  cases handle_sends x s y hy with
  | mild hm => exact Signal.strikes_of_mild hm
  | @takenUp b j =>
    by_cases hb : b = a
    · exact hother (.inl rfl) hb
    · exact hfault hb j
  | @resumed b r j _ =>
    by_cases hb : b = a
    · exact hother (.inr ⟨r, rfl⟩) hb
    · exact hfault hb j
  | travelled => exact hx
  | stepEnds | headFaults | frees | next | abandons => rfl
  | starts => cases hx

/-- Only a fault signal takes an axis to FAULT or touches its record of one (R85, R86). -/
theorem handle_faultless {x : Signal} (hx : x.strikes a = false) (hs : (s.axis a).state ≠ .fault) :
    ((handle x s).1.axis a).state ≠ .fault ∧ ((handle x s).1.axis a).fault = (s.axis a).fault := by
  let P (q : State) : Prop := (q.axis a).state ≠ .fault ∧ (q.axis a).fault = (s.axis a).fault
  have hsame {q : State} (h : q.axis a = s.axis a) : P q := ⟨by rw [h]; exact hs, by rw [h]⟩
  by_cases hconcerns : x.concerns s = some a
  swap
  · exact hsame (handle_axis_other x s hconcerns)
  have hentered (u : State) (hu : (u.axis a).fault = (s.axis a).fault) : P (enterPreparing a u).1 := by
    simp [P, hu]
  have hmoving (u : State) (hu : (u.axis a).fault = (s.axis a).fault) : P (enterMoving a u) := by
    refine ⟨by simp [enterMoving_state], ?_⟩
    cases h : (u.axis a).current with
    | none => simp [enterMoving, AxisRecord.driven, h, hu]
    | some y => rw [enterMoving_axis a h]; exact hu
  have hdriven (u : State) : ((u.driveOn a).axis a).fault = (u.axis a).fault := by
    rw [State.driveOn_axis]
    unfold AxisRecord.driven
    split <;> rfl
  have htravelled (u : State) : ((u.travelReport a).axis a).fault = (u.axis a).fault := by
    unfold State.travelReport
    (repeat' split) <;> simp
  cases x with
  | takeUp b =>
    obtain rfl := Option.some.inj hconcerns
    exact takeUp_cases (P := fun k => P k.1) (fun _ _ _ _ _ => hentered s rfl) (hsame rfl)
  | endEntry b =>
    obtain rfl := Option.some.inj hconcerns
    simp only [handle, endEntry]
    split
    · next h => simp [h]
    · exact hsame rfl
  | testGates b =>
    obtain rfl := Option.some.inj hconcerns
    exact testGates_cases (P := fun k => P k.1) (fun _ _ _ _ _ _ => by simp [P, AxisRecord.gatesPassed])
      (fun _ _ _ _ _ _ => hmoving _ (by simp [AxisRecord.gatesPassed])) fun _ => hsame rfl
  | endDwell b =>
    obtain rfl := Option.some.inj hconcerns
    refine endDwell_cases (P := fun k => P k.1) (fun _ _ _ _ => hsame rfl) (fun y _ _ => ?_) (hsame rfl)
    have htaken : (((s.onContext y.context Context.stepDone).nextTaken b).axis b).fault = (s.axis b).fault := by
      simp [State.nextTaken, State.takeStep_axis]
    exact nextStep_cases (P := fun k => P k.1) (fun _ => by simp [P, State.starving])
      (fun _ => ⟨by simpa [State.nextTaken, State.takeStep_axis] using hs, htaken⟩)
      (fun _ _ => by simp [P]) (fun _ _ _ => hmoving _ htaken)
      fun _ => by simp [P]
  | addHold b r =>
    obtain rfl := Option.some.inj hconcerns
    exact addHold_cases (P := P) (fun _ _ => by simp [P]) (fun _ _ => by simp [P]) (fun _ _ _ _ => by simp [P, hs]) fun _ => hsame rfl
  | removeHold b r =>
    obtain rfl := Option.some.inj hconcerns
    exact removeHold_cases (P := fun k => P k.1) (fun _ _ _ => hentered _ (by simp)) (fun _ _ h => by simp [P, h])
      (fun _ _ => by simp [P, hs]) fun _ => hsame rfl
  | travelled b p | fault b j => exact absurd (Option.some.inj hconcerns) (by simpa [Signal.strikes] using hx)
  | endProgram d e =>
    by_cases hd : s.head a = some d ∧ s.contexts[d].state ≠ .queued
    · rw [handle, endProgram_executed e hconcerns hd]
      have hwaits (h : (s.axis a).state = .preparing ∨ (s.axis a).state = .dwell ∨ (s.axis a).state = .hold) :
          P (endAxis a (s.reportEnd d a e)).1 := by
        rw [endAxis_waits (s := s.reportEnd d a e) h]
        simp [P, AxisRecord.released, State.reportEnd]
      cases h : (s.axis a).state with
      | preparing => exact hwaits (.inl h)
      | dwell => exact hwaits (.inr (.inl h))
      | hold => exact hwaits (.inr (.inr h))
      | moving => rw [endAxis_moves (s := s.reportEnd d a e) h]; simp [AxisRecord.released, State.reportEnd]
      | stopping =>
        rw [endAxis_stops (s := s.reportEnd d a e) h]
        dsimp only
        split <;> simp [AxisRecord.released, State.reportEnd, h]
      | idle => rw [endAxis_idle (s := s.reportEnd d a e) h]; exact hsame rfl
      | fault => exact absurd h hs
    · rw [handle, endProgram_waiting e hconcerns hd]
      exact hsame rfl
  | freeContext d e =>
    by_cases he : e = .complete
    · subst he
      rw [handle, freeContext_complete hconcerns]
      exact hsame (State.activateHead_axis ..)
    · rw [handle, freeContext_stops he hconcerns]
      exact hsame rfl
  | _ => cases hconcerns

theorem State.entryFault_of_still (h : t.still = s.still) (a : Axis) : t.entryFault a = s.entryFault a := by
  obtain ⟨-, -, -, -, -, -, -, -, hsensors, -, hinputs, -⟩ := State.fixed_fields (State.fixed_of_still h)
  unfold State.entryFault
  rw [hsensors, hinputs]

/-- An axis out of FAULT, without a cause of one and with none on its way. -/
structure Sound (a : Axis) (l : List Signal) (s : State) : Prop where
  state : (s.axis a).state ≠ .fault
  fault : (s.axis a).fault = none
  entry : s.entryFault a = none
  calm : ∀ y ∈ l, y.strikes a = false

theorem sound_law (a : Axis) : SignalLaw (Sound a) where
  handled x l s h := by
    obtain ⟨hs, hf, he, hl⟩ := h
    have hx := hl x List.mem_cons_self
    obtain ⟨hs', hf'⟩ := handle_faultless hx hs
    exact ⟨hs', hf'.trans hf, (State.entryFault_of_still (handle_still x s) a).trans he, fun y hy =>
      (List.mem_append.1 hy).elim (handle_strikes he hx) fun hy => hl y (List.mem_cons_of_mem _ hy)⟩
  sent item l s h := by
    obtain ⟨hs, hf, he, hl⟩ := h
    refine ⟨by rw [sendOn_axis]; exact hs, by rw [sendOn_axis]; exact hf,
      (State.entryFault_of_still (sendOn_still item s) a).trans he, fun y hy => ?_⟩
    exact (List.mem_append.1 hy).elim (fun hy => Signal.strikes_of_mild (allMild_mem (sendOn_mild ..) hy)) (hl y)

/-- No cause present is none at the entry to PREPARING (R74, R87). -/
theorem entryFault_of_causes (h : (s.causes a).any id = false) : s.entryFault a = none := by
  cases a <;> simp_all [State.causes, State.entryFault, hydraulicOf]

end Sys2Proof.Machine
end

section
/-! An acknowledged axis rests in IDLE while the permits are worked out, until its head is taken up (R73, R87, R123). -/

namespace Sys2Proof.Machine

variable {s t : State} {a b : Axis} {c : Fin 16} {l k : List Signal}

/-- A run that does not outrun its bound takes its first signal. -/
theorem run_takes {x : Signal} {n : Nat} {sent : List Outgoing} (hx : x ≠ .passEnd) (hu : (run n sent (x :: l) s).unsettled = false) :
    ∃ m later, run n sent (x :: l) s = run m later ((handle x s).2 ++ l) (handle x s).1 := by
  cases n with
  | zero => cases hu
  | succ n => exact ⟨n, _, by rw [run_succ, turn_handle _ _ _ _ hx]⟩

/-- Signals that spare an axis at rest leave its queue. -/
theorem handle_spared_queue {x : Signal} (hs : s.bound) (hsteps : s.stepsOfHeads) (h : (s.axis a).parked) (hx : x.spares s a) :
    (handle x s).1.queue a = s.queue a := by
  by_cases hd : ∃ d : Fin 16, s.contexts[d].axis = some a
  · obtain ⟨d, hd⟩ := hd
    exact (handle_spared hs hsteps h hx hd).2
  · rw [List.eq_nil_iff_forall_not_mem.2 fun d hq => hd ⟨d, (hs.mem d _).1 hq⟩, List.eq_nil_iff_forall_not_mem.2 fun d hq =>
      hd ⟨d, handle_context_axis hx.not_press (((handle_bound x hs).mem d _).1 hq)⟩]

/-- An axis at rest with its contexts, while signals that spare it are on their way before others. -/
structure Resting (start : State) (r : AxisRecord) (a : Axis) (k l : List Signal) (s : State) : Prop where
  order : Orderly (l ++ k) s
  still : s.still = start.still
  record : r.stays (s.axis a)
  queue : s.queue a = start.queue a
  kept : ∀ d : Fin 16, start.contexts[d].axis = some a → start.keeps s a d
  spared : ∀ y ∈ l, y.spares s a

theorem resting_law {start : State} {r : AxisRecord} (hr : r.parked) : SignalLaw (Resting start r a k) where
  handled x l s h := by
    have hs := h.order.bound
    have hsteps := h.order.steps
    have hparked := hr.of_stays h.record
    have hx := h.spared x List.mem_cons_self
    have horder := (orderly_law.behind k).handled x l s h.order
    refine ⟨horder, (handle_still x s).trans h.still, h.record.trans (handle_parked hparked hx),
      (handle_spared_queue hs hsteps hparked hx).trans h.queue, fun d hd => ?_, fun y hy => ?_⟩
    · have hkept := h.kept d hd
      exact hkept.trans (handle_spared hs hsteps hparked hx (by rw [hkept.1, hd]))
    · rcases List.mem_append.1 hy with hy | hy
      · exact (handle_sends x s y hy).spares hs hsteps hparked hx
      · exact (h.spared y (List.mem_cons_of_mem _ hy)).mono fun d => handle_context_axis hx.not_press
  sent item l s h := by
    have htraffic := sendOn_traffic item s
    have horder := (orderly_law.behind k).sent item l s h.order
    refine ⟨horder, (sendOn_still item s).trans h.still, ?_,
      (State.queue_congr (State.queues_of_traffic htraffic) a).trans h.queue, fun d hd => (h.kept d hd).trans (State.keeps_of_traffic htraffic a d),
      fun y hy => ?_⟩
    · rw [sendOn_axis]
      exact h.record
    · rcases List.mem_append.1 hy with hy | hy
      · exact Signal.spares_of_mild (allMild_mem (sendOn_mild ..) hy)
      · exact (h.spared y hy).mono fun d hd => by rwa [State.contexts_of_traffic htraffic] at hd

theorem idleSignals_spares (a b : Axis) (s : State) : ∀ y ∈ idleSignals a, y.spares s b := fun _ hy =>
  Signal.spares_of_mild (allMild_mem (idleSignals_mild a) hy)

@[simp] theorem acknowledge_axis (a : Axis) (s : State) : (acknowledge a s).1.axis a = (s.acknowledged a).axis a := by
  rw [acknowledge_eq, State.activateHead_axis]

theorem acknowledge_sends (a : Axis) (s : State) : (acknowledge a s).2 = idleSignals a ++ [.takeUp a] := rfl

/-- An acknowledged axis comes to its taking up at rest, with its contexts as the acknowledgement left them (R87); nothing but its
taking up follows the acknowledgement of a hydraulic axis. -/
theorem acknowledge_rests (hlaw : s.queueLaw) (hf : (s.axis a).state = .fault) (hu : (settle (acknowledge a s)).unsettled = false) :
    ∃ n later v, settle (acknowledge a s) = run n later [.takeUp a] v
      ∧ Resting (acknowledge a s).1 ((s.acknowledged a).axis a) a [.takeUp a] [] v
      ∧ (a ≠ .windlass → v = (acknowledge a s).1) := by
  obtain ⟨hbound, hheads⟩ := s.queueLaw_iff.1 hlaw
  have hheads := hheads ((Event.acknowledged hf).unsettled ▸ settle_unsettled hu)
  have hrest : ((s.acknowledged a).axis a).parked := by
    refine ⟨?_, .inl (by simp)⟩
    simpa using (hheads.2.1 a (.inr hf))
  have hbegins : Resting (acknowledge a s).1 ((s.acknowledged a).axis a) a [.takeUp a] (idleSignals a) (acknowledge a s).1 :=
    ⟨(Event.acknowledged hf).orderly hbound hheads, rfl, by rw [acknowledge_axis]; exact .refl _, rfl, fun _ _ => .refl ..,
      idleSignals_spares a a _⟩
  by_cases ha : a = .windlass
  · obtain ⟨m, later, v, hv, hrun⟩ := (resting_law hrest).first [.takeUp a] signalBound [] hbegins hu
    exact ⟨m, later, v, hrun, hv, fun e => absurd ha e⟩
  · have hnone : idleSignals a = [] := if_neg ha
    rw [hnone] at hbegins
    refine ⟨signalBound, [], _, ?_, hbegins, fun _ => rfl⟩
    rw [settle, acknowledge_sends, hnone]
    rfl

/-- A QUEUED head is ACTIVE again after the acknowledgement (R96). -/
theorem acknowledge_activates (hc : s.head a = some c) (hq : s.contexts[c].state = .queued) :
    (acknowledge a s).1.contexts[c] = { s.contexts[c] with state := .active } := by
  have hhead : (s.acknowledged a).head a = some c := (s.acknowledged_head a a).trans hc
  have hcontext : (s.acknowledged a).contexts[c] = s.contexts[c] := by rw [s.acknowledged_contexts]
  rw [acknowledge_eq, State.activateHead, hhead]
  dsimp only
  rw [if_pos ⟨by rw [hcontext]; exact hq, by simp⟩, State.onContext_same, hcontext]

/-- The contexts of the axis keep their steps at the acknowledgement. -/
theorem acknowledge_steps (a : Axis) (s : State) (c : Fin 16) :
    (acknowledge a s).1.contexts[c].steps = s.contexts[c].steps ∧ (acknowledge a s).1.contexts[c].axis = s.contexts[c].axis := by
  have hcontext : (s.acknowledged a).contexts[c] = s.contexts[c] := by rw [s.acknowledged_contexts]
  rw [acknowledge_eq]
  refine State.activateHead_cases (P := fun u => u.contexts[c].steps = _ ∧ u.contexts[c].axis = _) (fun d _ _ _ => ?_)
    fun _ => ⟨by rw [hcontext], by rw [hcontext]⟩
  by_cases hd : d = c
  · subst hd
    rw [State.onContext_same, hcontext]
    exact ⟨rfl, rfl⟩
  · rw [State.onContext_other _ d c _ hd, hcontext]
    exact ⟨rfl, rfl⟩

theorem acknowledge_head (a : Axis) (s : State) (b : Axis) : (acknowledge a s).1.head b = s.head b := by
  rw [acknowledge_eq]
  exact (State.head_congr (State.activateHead_queues ..) b).trans (s.acknowledged_head a b)

theorem takeUp_none (h : ∀ c, s.head a = some c → s.contexts[c].steps = []) : takeUp a s = (s, []) := by
  unfold takeUp
  split
  · next c hc => rw [if_neg fun e => e.2.2 (h c hc)]
  · rfl

/-- An acknowledged axis whose head holds no step stays in IDLE (R73, R87). -/
theorem acknowledge_idles (hlaw : s.queueLaw) (hf : (s.axis a).state = .fault) (hu : (settle (acknowledge a s)).unsettled = false)
    (hnone : ∀ c, s.head a = some c → s.contexts[c].steps = []) :
    let t := settle (acknowledge a s)
    (t.axis a).state = .idle ∧ (t.axis a).drive = driveOff
      ∧ ∀ c, s.head a = some c → s.contexts[c].state = .queued → t.contexts[c].state = .active := by
  obtain ⟨n, later, v, hrun, hv, -⟩ := acknowledge_rests hlaw hf hu
  have hcontext {d : Fin 16} (hd : s.head a = some d) : v.contexts[d] = (acknowledge a s).1.contexts[d] := by
    refine (hv.kept d ?_).1
    rw [(acknowledge_steps a s d).2]
    exact (s.queueLaw_iff.1 hlaw).1.axis_of_head hd
  have hhead : v.head a = s.head a := by
    rw [State.head, hv.queue]
    exact acknowledge_head a s a
  have hidle : takeUp a v = (v, []) := takeUp_none fun c hc => by
    rw [hhead] at hc
    rw [hcontext hc, (acknowledge_steps a s c).1]
    exact hnone c hc
  have hend : settle (acknowledge a s) = v := by
    obtain ⟨m, later', he⟩ := run_takes (by simp) (hrun ▸ hu)
    rw [hrun, he, handle, hidle]
    exact run_nil ..
  intro t
  have ht : t = v := hend
  obtain ⟨w, hw, -⟩ := hv.record
  rw [ht, hw, State.acknowledged_axis]
  refine ⟨rfl, rfl, fun c hc hq => ?_⟩
  rw [hcontext hc, acknowledge_activates hc hq]

end Sys2Proof.Machine
end

section
/-! An axis in PREPARING whose warn time is not reached (R74, R79, R131): what reaches it by signals of others leaves its record, its
power and its contexts, but for SHED. -/

namespace Sys2Proof.Machine

variable {s t : State} {a b : Axis} {c : Fin 16} {l k : List Signal}

/-! ## Signals that leave an axis in PREPARING -/

/-- A signal that neither posts the demand of an axis, nor changes its hold set, ends its entry or takes its pump. -/
def Signal.gentle (a : Axis) : Signal → Bool
  | .post k _ => decide (k ≠ powerSlot a)
  | .addHold b _ | .removeHold b _ | .endEntry b => decide (b ≠ a)
  | .releasePump h => decide (axisOfHydraulic h ≠ a)
  | .release _ _ | .press _ _ => false
  | _ => true

def allGentle (a : Axis) (l : List Signal) : Bool := l.all (·.gentle a)

theorem allGentle_mem (h : allGentle a l = true) {y : Signal} (hy : y ∈ l) : y.gentle a = true := List.all_eq_true.1 h y hy

@[simp] theorem allGentle_append (a : Axis) (l m : List Signal) : allGentle a (l ++ m) = (allGentle a l && allGentle a m) := by
  simp [allGentle]

theorem allGentle_cons (a : Axis) (x : Signal) (l : List Signal) : allGentle a (x :: l) = (x.gentle a && allGentle a l) := by
  simp [allGentle]

theorem idleSignals_gentle (a b : Axis) : allGentle a (idleSignals b) = true := by cases b <;> rfl

theorem State.leavesIdle_gentle (s : State) (a b : Axis) : allGentle a (s.leavesIdle b) = true := by
  unfold State.leavesIdle
  split
  · exact idleSignals_gentle a b
  · rfl

theorem enterDwell_gentle (a b : Axis) (s : State) : allGentle a (enterDwell b s).2 = true := by
  unfold enterDwell
  dsimp only
  (repeat' split) <;> rfl

theorem nextStep_gentle (a b : Axis) (c : Fin 16) (s : State) : allGentle a (nextStep b c s).2 = true :=
  nextStep_cases (P := fun k => allGentle a k.2 = true) (fun _ => rfl) (fun _ => rfl) (fun _ _ => enterDwell_gentle ..)
    (fun _ _ _ => rfl) fun _ => rfl

theorem windlassDemand_gentle (h : b ≠ a) (d : Nat) : allGentle a (windlassDemand b d) = true := by
  cases b with
  | windlass => cases a <;> first | rfl | exact absurd rfl h
  | hatch | platform => rfl

theorem pumpSignals_gentle (h : b ≠ a) : allGentle a (pumpSignals b) = true := by
  cases b <;> cases a <;> first | rfl | exact absurd rfl h

theorem faultReleases_gentle (h : b ≠ a) : allGentle a (faultReleases b) = true := by
  rw [faultReleases, allGentle_append, windlassDemand_gentle h, pumpSignals_gentle h]
  rfl

theorem endAxis_gentle (h : b ≠ a) (s : State) : allGentle a (endAxis b s).2 = true := by
  unfold endAxis
  dsimp only
  split
  iterate 3
    dsimp only
    rw [allGentle_append, allGentle_append, windlassDemand_gentle h, pumpSignals_gentle h, idleSignals_gentle]
    rfl
  · exact windlassDemand_gentle h 0
  · split <;> exact windlassDemand_gentle h 0
  · rfl
  · exact faultReleases_gentle h

theorem enterPreparing_gentle (h : b ≠ a) (s : State) : allGentle a (enterPreparing b s).2 = true := by
  cases he : s.entryFault b with
  | none =>
    have hrequest : allGentle a ((hydraulicOf b).map Signal.requestPump).toList = true := by cases b <;> rfl
    rw [enterPreparing_enters he]
    simp only [allGentle_append, windlassDemand_gentle h, hrequest, State.leavesIdle_gentle, allGentle_cons, Signal.gentle, decide_eq_true h]
    rfl
  | some kind =>
    rw [enterPreparing_faults he, allGentle_cons, State.leavesIdle_gentle]
    rfl

theorem lightSlot_gentle (z : Fin 24) (a : Axis) : lightSlot z ≠ powerSlot a := by revert z; cases a <;> decide
theorem climateSlot_gentle (z : Fin 24) (a : Axis) : climateSlot z ≠ powerSlot a := by revert z; cases a <;> decide

/-- An axis has the pump where it needs it. -/
def State.hasPump (s : State) (a : Axis) : Prop := ∀ h, hydraulicOf a = some h → s.pump.owner = some h

theorem State.hasPump.owner_none (h : s.hasPump a) (hp : s.pump.owner = none) : a = .windlass := by
  cases a with
  | windlass => rfl
  | hatch => exact absurd (hp.symm.trans (h .hatch rfl)) (by simp)
  | platform => exact absurd (hp.symm.trans (h .platform rfl)) (by simp)

/-- A signal that spares an axis in PREPARING with its pump sends gentle signals alone. -/
theorem handle_gentle {x : Signal} (hx : x.gentle a = true) (hspares : x.spares s a) (hs : (s.axis a).state = .preparing)
    (hpump : s.hasPump a) : allGentle a (handle x s).2 = true := by
  cases x with
  | post k d => simp only [handle, postDemand]; split <;> rfl
  | press p n => cases hx
  | release p n => cases hx
  | takeUp b =>
    exact takeUp_cases (P := fun k => allGentle a k.2 = true) (fun _ _ _ _ _ => enterPreparing_gentle hspares s) rfl
  | endEntry b => simp only [handle, endEntry]; split <;> rfl
  | testGates b =>
    exact testGates_cases (P := fun k => allGentle a k.2 = true) (fun _ _ _ _ _ _ => enterDwell_gentle ..) (fun _ _ _ _ _ _ => rfl)
      fun _ => rfl
  | endDwell b =>
    exact endDwell_cases (P := fun k => allGentle a k.2 = true) (fun _ _ _ _ => rfl) (fun _ _ _ => nextStep_gentle ..) rfl
  | removeHold b r =>
    exact removeHold_cases (P := fun k => allGentle a k.2 = true) (fun _ _ _ => enterPreparing_gentle (of_decide_eq_true hx) _)
      (fun _ _ _ => rfl) (fun _ _ => rfl) fun _ => rfl
  | travelled b p =>
    have honset : allGentle a (s.onset b p) = true := by
      unfold State.onset
      split <;> rfl
    refine travelled_cases (P := fun k => allGentle a k.2 = true) (fun _ _ _ _ => ?_) (fun _ _ _ _ _ => rfl) (fun _ _ _ _ _ => rfl)
      fun _ => honset
    rw [allGentle_append, enterDwell_gentle, honset]
    rfl
  | fault b kind =>
    refine fault_cases (P := fun k => allGentle a k.2 = true) (fun _ => rfl) (fun _ _ => ?_) fun _ => rfl
    have hafter : allGentle a (s.afterFault b kind) = true := by
      rw [State.afterFault, allGentle_append, State.leavesIdle_gentle]
      rfl
    rw [allGentle_append, hafter, Bool.and_true]
    exact faultHead_cases (P := fun k => allGentle a k.2 = true) (fun _ _ _ => rfl) (fun _ _ _ _ => faultReleases_gentle hspares)
      fun _ => faultReleases_gentle hspares
  | endProgram d e =>
    cases hd : s.contexts[d].axis with
    | none => rw [handle, endProgram_free e hd]; rfl
    | some b =>
      have hb : b ≠ a := fun h => hspares (h ▸ hd)
      by_cases hc : s.head b = some d ∧ s.contexts[d].state ≠ .queued
      · rw [handle, endProgram_executed e hd hc, allGentle_append, endAxis_gentle hb]
        rfl
      · rw [handle, endProgram_waiting e hd hc]
        rfl
  | freeContext d e =>
    cases hd : s.contexts[d].axis with
    | none => rw [handle, freeContext_free e hd]; rfl
    | some b =>
      by_cases he : e = .complete
      · subst he
        rw [handle, freeContext_complete hd]
        rfl
      · rw [handle, freeContext_stops he hd]
        simp [allGentle, Signal.gentle]
  | cueFrame =>
    have hsettled (z : Fin 24) (before after : Zone) : ∀ y ∈ settleZone true z before after, y.gentle a = true := by
      unfold settleZone
      (repeat' split) <;> simp [Signal.gentle]
    have happly (m : CommitMode) (late : Bool) (u : State) : allGentle a (applyCue m late u).2 = true := by
      rw [applyCue, allGentle_append, Bool.and_eq_true]
      refine ⟨List.all_eq_true.2 fun y hy => ?_, rfl⟩
      obtain ⟨z, -, hy⟩ := List.mem_flatMap.1 hy
      exact hsettled z _ _ y hy
    simp only [handle, cueFrame]
    (repeat' split) <;> first | rfl | exact happly ..
  | lightDemand z => simp [handle, lightDemand, allGentle, Signal.gentle, lightSlot_gentle]
  | climateWork z => simp [handle, climateWork, allGentle, Signal.gentle, climateSlot_gentle]
  | deliverPermit b d v =>
    have hother {y : Signal} (hb : (s.axis b).state ≠ .preparing) (hy : b ≠ a → y.gentle a = true) : allGentle a [y] = true := by
      rw [allGentle_cons, hy fun e => hb (e ▸ hs)]
      rfl
    simp only [handle, deliverPermit]
    split
    · split
      · next h _ => exact hother (by rw [h]; decide) decide_eq_true
      · next h _ => exact hother (by rw [h]; decide) decide_eq_true
      · rfl
      · next h _ => exact hother (by rw [h]; decide) decide_eq_true
      · next h _ => exact hother (by rw [h]; decide) decide_eq_true
      · rfl
    · rfl
  | requestPump h =>
    simp only [handle, requestPump]
    split
    · next hp => rw [hpump.owner_none hp]; rfl
    · (repeat' split) <;> rfl
  | releasePump h =>
    have hne : axisOfHydraulic h ≠ a := of_decide_eq_true hx
    simp only [handle, releasePump]
    split
    · rfl
    · split
      · next ho =>
        have hw : a = .windlass := by
          cases a with
          | windlass => rfl
          | hatch => rw [hpump .hatch rfl] at ho; cases ho; exact absurd rfl hne
          | platform => rw [hpump .platform rfl] at ho; cases ho; exact absurd rfl hne
        rw [hw]
        rfl
      · split <;> rfl
  | handOver =>
    simp only [handle, handOver]
    split
    · next hp _ => rw [hpump.owner_none hp]; rfl
    · rfl
  | evaluatePermits => simp [handle, evaluatePermits, allGentle, Signal.gentle]
  | addHold _ _ | pass | passEnd | reportZone _ _ | cueApplied _ _ _ | reportAxis _ | reportFault _ _ _
  | actionResult _ _ _ => rfl

/-- An axis keeps its pump. -/
theorem handle_hasPump {x : Signal} (hx : x.gentle a = true) (hpump : s.hasPump a) : (handle x s).1.hasPump a := by
  intro h hh
  have ho := hpump h hh
  have hah : a = axisOfHydraulic h := by cases a <;> cases hh <;> rfl
  cases x with
  | requestPump g =>
    simp only [handle, requestPump, ho]
    (repeat' split) <;> first | exact ho | rfl
  | releasePump g =>
    have hne : axisOfHydraulic g ≠ a := of_decide_eq_true hx
    have hgh : g ≠ h := fun e => hne (by rw [e, hah])
    simp only [handle, releasePump, ho, Option.some.injEq, hgh.symm, if_false]
    split
    · exact ho
    · split
      · rfl
      · exact ho
  | handOver => simp only [handle, handOver, ho]
  | evaluatePermits => exact ho
  | _ => exact (State.owner_of_organs (handle_organs rfl s)).trans ho

theorem sendOn_hasPump (item : Outgoing) (h : s.hasPump a) : (sendOn item s).1.hasPump a := fun g hg =>
  (congrArg (fun x => x.2.2.1) (sendOn_standing item s) : (sendOn item s).1.pump.owner = _).trans (h g hg)

end Sys2Proof.Machine
end

section
/-! The wait of an axis in PREPARING for its power (`Warming`): SHED comes and goes with the grants, and nothing else reaches the axis
(R19, R79, R128, R131). -/

namespace Sys2Proof.Machine

variable {s t : State} {a b : Axis} {c : Fin 16} {l k : List Signal}

/-! ## Grants -/

/-- The grant that an axis has received is the demand that it has posted. -/
def State.isFed (s : State) (a : Axis) : Prop := s.received (powerSlot a) = some (s.raw (powerSlot a))

theorem State.powered_iff (h : s.hasPump a) : s.powered a = true ↔ s.isFed a := by
  have howner (g : Hydraulic) (hg : hydraulicOf a = some g) := h g hg
  cases a <;> simp_all [State.powered, State.isFed, powerSlot, hydraulicOf]

/-- No signal delivers a grant; only what a pass sends on does (R19). -/
theorem handle_received (x : Signal) (s : State) (a : Axis) : (handle x s).1.received (powerSlot a) = s.received (powerSlot a) := by
  by_cases hpost : ∃ k d, x = .post k d
  · obtain ⟨k, d, rfl⟩ := hpost
    simp only [handle, postDemand]
    split
    · rfl
    · cases a <;> simp only [powerSlot, State.received_pump, State.received_windlass] <;> rfl
  by_cases hpass : x = .pass
  · subst hpass
    rw [handle_pass]
    cases a <;> simp only [powerSlot, State.received_pump, State.received_windlass] <;> rfl
  · rw [(Books.same (handle_books x s (fun k d e => hpost ⟨k, d, e⟩) hpass)).2.2.2.1]

/-- What the pump or the windlass does with a grant, for the axis that has posted the demand (R19, R79, R129). -/
inductive Delivery (s t : State) (a : Axis) : List Signal → Prop
  | other {l : List Signal} (hg : t.received (powerSlot a) = s.received (powerSlot a)) (hl : allGentle a l = true) : Delivery s t a l
  | met : Delivery s t a [.removeHold a .shed, .testGates a]
  | short (h : ¬ t.isFed a) : Delivery s t a [.addHold a .shed]
  | more (h : ¬ t.isFed a) : Delivery s t a []

theorem deliverPump_delivery {h : Hydraulic} (ho : s.pump.owner = some h) (g : Nat) :
    Delivery s (deliverPump g s).1 (axisOfHydraulic h) (deliverPump g s).2 := by
  have hstate := deliverPump_state g s
  have hslot : powerSlot (axisOfHydraulic h) = pumpSlot := by cases h <;> rfl
  have hfed (hg : g ≠ s.raw pumpSlot) : ¬ (deliverPump g s).1.isFed (axisOfHydraulic h) := fun e => by
    rw [State.isFed, hslot, hstate] at e
    exact hg (Option.some.inj e)
  revert hfed
  clear hstate
  unfold deliverPump
  rw [ho]
  dsimp only
  split
  · exact fun _ => .met
  · split
    · next hne _ => exact fun hfed => .short (hfed hne)
    · next hne _ => exact fun hfed => .more (hfed hne)

theorem deliverWindlass_delivery (g : Nat) (s : State) : Delivery s (deliverWindlass g s).1 .windlass (deliverWindlass g s).2 := by
  have hstate := deliverWindlass_state g s
  have hfed (hg : g ≠ s.raw windlassSlot) : ¬ (deliverWindlass g s).1.isFed .windlass := fun e => by
    rw [State.isFed, hstate] at e
    exact hg (Option.some.inj e)
  revert hfed
  clear hstate
  unfold deliverWindlass
  dsimp only
  split
  · exact fun _ => .met
  · split
    · next hne _ => exact fun hfed => .short (hfed hne)
    · next hne _ => exact fun hfed => .more (hfed hne)

/-- What a pass sends on to an axis with its pump. -/
theorem sendOn_delivery (item : Outgoing) (h : s.hasPump a) : Delivery s (sendOn item s).1 a (sendOn item s).2 := by
  cases item with
  | report content copy =>
    refine .other ?_ rfl
    simp only [sendOn, reportBudget]
    split
    · rfl
    · cases a <;> rfl
  | grant k g =>
    simp only [sendOn]
    rcases slot_cases k with ⟨z, rfl⟩ | ⟨z, rfl⟩ | rfl | rfl | hk
    · rw [deliverTo_light]
      refine .other ?_ rfl
      rw [deliverLight, reportZoneChange]
      split <;> cases a <;> rfl
    · rw [deliverTo_climate]
      refine .other ?_ rfl
      rw [deliverClimate, reportZoneChange]
      split <;> cases a <;> rfl
    · rw [deliverTo_pump]
      cases a with
      | windlass =>
        refine .other ?_ ?_
        · rw [deliverPump_state]
          rfl
        · unfold deliverPump
          cases s.pump.owner with
          | none => rfl
          | some o =>
            dsimp only
            (repeat' split) <;> cases o <;> rfl
      | hatch => exact deliverPump_delivery (h .hatch rfl) g
      | platform => exact deliverPump_delivery (h .platform rfl) g
    · rw [deliverTo_windlass]
      by_cases ha : a = .windlass
      · subst ha
        exact deliverWindlass_delivery g s
      · refine .other ?_ ?_
        · rw [deliverWindlass_state]
          cases a <;> first | rfl | exact absurd rfl ha
        · unfold deliverWindlass
          dsimp only
          (repeat' split) <;> cases a <;> first | rfl | exact absurd rfl ha
    · rw [deliverTo_aux k g s hk]
      exact .other rfl rfl

/-! ## An axis that warms up -/

/-- A record in PREPARING whose warn time is not reached, with an empty hold set. -/
structure AxisRecord.warming (r : AxisRecord) : Prop where
  state : r.state = .preparing
  holds : r.holds = noHolds
  unreached : r.warnReached = false

/-- A record with SHED alone in its hold set. -/
def AxisRecord.shedding (r : AxisRecord) : AxisRecord := { r with holds := { noHolds with shed := true } }

/-- A gentle signal that spares an axis in PREPARING finds nothing to do there. -/
theorem handle_concerning {x : Signal} (hs : (s.axis a).state = .preparing) (hw : (s.axis a).warnReached = false)
    (hx : x.gentle a = true) (hspares : x.spares s a) (hc : x.concerns s = some a) : handle x s = (s, []) := by
  cases x with
  | testGates b =>
    obtain rfl := Option.some.inj hc
    have hgate (y : Step) : s.gatesMet b y = false := by simp [State.gatesMet, hw]
    refine testGates_cases (P := fun k => k = (s, [])) (fun y _ _ _ hg _ => ?_) (fun y _ _ _ hg _ => ?_) fun _ => rfl
    all_goals
      rw [hgate] at hg
      cases hg
  | endDwell b =>
    obtain rfl := Option.some.inj hc
    exact endDwell_cases (P := fun k => k = (s, [])) (fun _ h => by rw [hs] at h; cases h) (fun _ h => by rw [hs] at h; cases h) rfl
  | endEntry b | addHold b _ | removeHold b _ => exact absurd (Option.some.inj hc) (of_decide_eq_true hx)
  | takeUp b | travelled b _ | fault b _ => exact absurd (Option.some.inj hc) hspares
  | endProgram d _ | freeContext d _ => exact absurd hc hspares
  | _ => cases hc

/-- A gentle signal that spares an axis in PREPARING leaves its record, its queue and its contexts. -/
theorem handle_warming {x : Signal} (hbound : s.bound) (hsteps : s.stepsOfHeads) (hs : (s.axis a).state = .preparing)
    (hw : (s.axis a).warnReached = false) (hx : x.gentle a = true) (hspares : x.spares s a) :
    (handle x s).1.axis a = s.axis a ∧ ∀ d : Fin 16, s.contexts[d].axis = some a → s.keeps (handle x s).1 a d := by
  by_cases hc : x.concerns s = some a
  · rw [handle_concerning hs hw hx hspares hc]
    exact ⟨rfl, fun _ _ => .refl ..⟩
  · exact ⟨handle_axis_other x s hc, fun d hd => handle_keeps hbound hsteps hspares.not_press hc hd⟩

/-- Signals that leave an axis in PREPARING as it is. -/
def quietFor (a : Axis) (l : List Signal) (s : State) : Prop := ∀ y ∈ l, y.gentle a = true ∧ y.spares s a

theorem quietFor.mono (h : quietFor a l s) (ht : ∀ d : Fin 16, t.contexts[d].axis = some a → s.contexts[d].axis = some a) :
    quietFor a l t := fun y hy => ⟨(h y hy).1, (h y hy).2.mono ht⟩

theorem quietFor.append (hl : quietFor a l s) (hk : quietFor a k s) : quietFor a (l ++ k) s := fun y hy =>
  (List.mem_append.1 hy).elim (hl y) (hk y)

/-- SHED is in the hold set only while the grant is not the demand. -/
def State.shedsTruly (s : State) (a : Axis) (r : AxisRecord) : Prop := s.axis a = r ∨ (s.axis a = r.shedding ∧ ¬ s.isFed a)

/-- An axis waits in PREPARING with quiet signals, of which the first may add SHED to its hold set or remove it. -/
structure Warming (start : State) (r : AxisRecord) (a : Axis) (k l : List Signal) (s : State) : Prop where
  order : Orderly (l ++ k) s
  still : s.still = start.still
  pump : s.hasPump a
  raw : s.raw (powerSlot a) = start.raw (powerSlot a)
  record : s.axis a = r ∨ s.axis a = r.shedding
  kept : ∀ d : Fin 16, start.contexts[d].axis = some a → start.keeps s a d
  signals : (quietFor a l s ∧ s.shedsTruly a r) ∨ (∃ m, l = .addHold a .shed :: m ∧ quietFor a m s ∧ ¬ s.isFed a)
    ∨ ∃ m, l = .removeHold a .shed :: m ∧ quietFor a m s

section
variable {start : State} {r : AxisRecord}

theorem Warming.preparing (hr : r.warming) (h : Warming start r a k l s) :
    (s.axis a).state = .preparing ∧ (s.axis a).warnReached = false := by
  rcases h.record with e | e <;> rw [e] <;> exact ⟨hr.state, hr.unreached⟩

theorem handle_isFed {x : Signal} (hx : ∀ k d, x = .post k d → k ≠ powerSlot a) (s : State) : (handle x s).1.isFed a ↔ s.isFed a := by
  have hraw : (handle x s).1.raw (powerSlot a) = s.raw (powerSlot a) := by
    by_cases hpost : ∃ k d, x = .post k d
    · obtain ⟨k, d, rfl⟩ := hpost
      exact handle_post_raw_other (hx k d rfl) d s
    · exact handle_raw (fun k d e => hpost ⟨k, d, e⟩) s _
  rw [State.isFed, State.isFed, handle_received, hraw]

theorem Signal.gentle.post {x : Signal} (hx : x.gentle a = true) (k : Fin 52) (d : Nat) (h : x = .post k d) : k ≠ powerSlot a := by
  subst h
  exact of_decide_eq_true hx

/-- The raw demand of an axis stays while nothing posts it. -/
theorem handle_raw_power {x : Signal} (hx : ∀ k d, x = .post k d → k ≠ powerSlot a) (s : State) :
    (handle x s).1.raw (powerSlot a) = s.raw (powerSlot a) := by
  by_cases hpost : ∃ k d, x = .post k d
  · obtain ⟨k, d, rfl⟩ := hpost
    exact handle_post_raw_other (hx k d rfl) d s
  · exact handle_raw (fun k d e => hpost ⟨k, d, e⟩) s _

/-- SHED joins the hold set of an axis that waits for its power (R79). -/
theorem addHold_warming (hr : r.warming) (h : s.axis a = r ∨ s.axis a = r.shedding) : (addHold a .shed s).axis a = r.shedding := by
  refine addHold_cases (P := fun t => t.axis a = r.shedding) (fun hs => ?_) (fun hs => ?_) (fun _ _ _ hno => ?_) fun hyes => ?_
  · rcases h with e | e <;> rw [e] at hs <;> exact absurd (hr.state.symm.trans hs) (by simp)
  · rcases h with e | e <;> rw [e] at hs <;> exact absurd (hr.state.symm.trans hs) (by simp)
  · rcases h with e | e
    · rw [State.reportAxis_axis, State.withHolds_axis, e, hr.holds]
      rfl
    · rw [e] at hno
      cases hno
  · rcases h with e | e
    · rw [e, hr.holds] at hyes
      exact absurd (hyes (by rw [AxisRecord.takesReason, hr.state])) (by decide)
    · exact e

/-- SHED leaves the hold set of an axis that waits, and its gates are tested (R80, R131). -/
theorem removeHold_warming (hr : r.warming) (h : s.axis a = r ∨ s.axis a = r.shedding) :
    (removeHold a .shed s).1.axis a = r ∧ ((removeHold a .shed s).2 = [] ∨ (removeHold a .shed s).2 = [.testGates a]) := by
  refine removeHold_cases (P := fun k => k.1.axis a = r ∧ (k.2 = [] ∨ k.2 = [.testGates a])) (fun _ _ hs => ?_) (fun _ _ _ => ?_)
    (fun hyes hne => ?_) fun hno => ?_
  · rcases h with e | e <;> rw [e] at hs <;> exact absurd (hr.state.symm.trans hs) (by simp)
  · refine ⟨?_, .inr rfl⟩
    rw [State.reportAxis_axis, State.withHolds_axis]
    rcases h with e | e
    · rw [e, ← hr.holds]
    · rw [e, ← hr.holds]
      rfl
  · rcases h with e | e
    · rw [e, hr.holds] at hyes
      cases hyes
    · refine ⟨?_, .inl rfl⟩
      rw [State.reportAxis_axis, State.withHolds_axis, e]
      have : r.shedding.holds.put .shed false = r.holds := by rw [hr.holds]; rfl
      rw [this]
      rfl
  · rcases h with e | e
    · exact ⟨e, .inl rfl⟩
    · rw [e] at hno
      cases hno

/-! ## The law of the wait -/

theorem State.hasPump.of_owner (h : s.hasPump a) (ho : t.pump.owner = s.pump.owner) : t.hasPump a := fun g hg => ho.trans (h g hg)

theorem State.shedsTruly.same (h : s.shedsTruly a r) (haxis : t.axis a = s.axis a) (hfed : t.isFed a → s.isFed a) : t.shedsTruly a r :=
  h.imp haxis.trans fun hs => ⟨haxis.trans hs.1, fun e => hs.2 (hfed e)⟩

theorem addHold_keeps (reason : HoldReason) (s : State) (d : Fin 16) : s.keeps (addHold a reason s) a d :=
  addHold_cases (P := fun t => s.keeps t a d) (fun _ _ => (s.withHolds_keeps ..).trans (State.enterStopping_keeps ..))
    (fun _ _ => (s.withHolds_keeps ..).trans (State.enterHold_keeps ..)) (fun _ _ _ _ => .refl ..) fun _ => .refl ..

theorem Warming.kept_on (h : Warming start r a k l s) (ht : ∀ d : Fin 16, s.contexts[d].axis = some a → s.keeps t a d) :
    ∀ d : Fin 16, start.contexts[d].axis = some a → start.keeps t a d := fun d hd => by
  have hkept := h.kept d hd
  exact hkept.trans (ht d (by rw [hkept.1, hd]))

/-- A quiet signal leaves the wait as it is. -/
theorem Warming.handle_quiet {x : Signal} (hr : r.warming) (h : Warming start r a k (x :: l) s) (hl : quietFor a (x :: l) s)
    (htrue : s.shedsTruly a r) : Warming start r a k ((handle x s).2 ++ l) (handle x s).1 := by
  obtain ⟨hprep, hwarn⟩ := h.preparing hr
  obtain ⟨hgentle, hspares⟩ := hl x List.mem_cons_self
  have hbound := h.order.bound
  have hsteps := h.order.steps
  obtain ⟨haxis, hkeeps⟩ := handle_warming hbound hsteps hprep hwarn hgentle hspares
  refine ⟨(orderly_law.behind k).handled x l s h.order, (handle_still x s).trans h.still, handle_hasPump hgentle h.pump,
    (handle_raw_power (Signal.gentle.post hgentle) s).trans h.raw, by rw [haxis]; exact h.record, h.kept_on hkeeps, .inl ⟨quietFor.append ?_ ?_,
      htrue.same haxis (handle_isFed (Signal.gentle.post hgentle) s).1⟩⟩
  · exact fun y hy => ⟨allGentle_mem (handle_gentle hgentle hspares hprep h.pump) hy, (handle_sends x s y hy).spares_of hbound hsteps
      (by rw [hprep]; decide) (by rw [hprep]; decide) hspares⟩
  · exact quietFor.mono (fun y hy => hl y (List.mem_cons_of_mem _ hy)) fun d => handle_context_axis hspares.not_press

/-- SHED joins the hold set while the grant is not the demand. -/
theorem Warming.handle_addHold (hr : r.warming) (h : Warming start r a k (.addHold a .shed :: l) s) (hl : quietFor a l s)
    (hfed : ¬ s.isFed a) : Warming start r a k ((handle (.addHold a .shed) s).2 ++ l) (handle (.addHold a .shed) s).1 where
  order := (orderly_law.behind k).handled _ l s h.order
  still := (handle_still _ s).trans h.still
  pump := h.pump.of_owner (State.owner_of_organs (handle_organs rfl s))
  raw := (handle_raw_power (by simp) s).trans h.raw
  record := .inr (addHold_warming hr h.record)
  kept := h.kept_on fun d _ => addHold_keeps .shed s d
  signals := .inl ⟨hl.mono fun d => handle_context_axis (by simp),
    .inr ⟨addHold_warming hr h.record, fun e => hfed ((handle_isFed (by simp) s).1 e)⟩⟩

/-- SHED leaves the hold set, and the gates that are tested are not met. -/
theorem Warming.handle_removeHold (hr : r.warming) (h : Warming start r a k (.removeHold a .shed :: l) s) (hl : quietFor a l s) :
    Warming start r a k ((handle (.removeHold a .shed) s).2 ++ l) (handle (.removeHold a .shed) s).1 := by
  obtain ⟨haxis, hsent⟩ := removeHold_warming hr h.record
  have hstate := (h.preparing hr).1
  have hkeeps (d : Fin 16) : s.keeps (removeHold a .shed s).1 a d :=
    removeHold_cases (P := fun u => s.keeps u.1 a d) (fun _ _ e => absurd (hstate.symm.trans e) (by simp)) (fun _ _ _ => .refl ..)
      (fun _ _ => .refl ..) fun _ => .refl ..
  have hquiet : quietFor a (removeHold a .shed s).2 (removeHold a .shed s).1 := by
    rcases hsent with e | e <;> rw [e] <;> simp [quietFor, Signal.gentle, Signal.spares]
  exact ⟨(orderly_law.behind k).handled _ l s h.order, (handle_still _ s).trans h.still,
    h.pump.of_owner (State.owner_of_organs (handle_organs rfl s)), (handle_raw_power (by simp) s).trans h.raw, .inl haxis,
    h.kept_on fun d _ => hkeeps d, .inl ⟨hquiet.append (hl.mono fun d => handle_context_axis (x := .removeHold a .shed) (by simp)), .inl haxis⟩⟩

/-- What a pass sends on brings or takes SHED, or nothing that the axis minds. -/
theorem Warming.sendOn (h : Warming start r a k (.passEnd :: l) s) (item : Outgoing) :
    Warming start r a k ((sendOn item s).2 ++ .passEnd :: l) (sendOn item s).1 := by
  have htraffic := sendOn_traffic item s
  have haxis := sendOn_axis item s a
  have hraw := sendOn_raw item s (powerSlot a)
  have hmild (y : Signal) (hy : y ∈ (Machine.sendOn item s).2) : y.spares (Machine.sendOn item s).1 a :=
    Signal.spares_of_mild (allMild_mem (sendOn_mild ..) hy)
  obtain ⟨hl, htrue⟩ : quietFor a (.passEnd :: l) s ∧ s.shedsTruly a r := by
    rcases h.signals with h | ⟨m, hm, -⟩ | ⟨m, hm, -⟩
    · exact h
    all_goals cases hm
  have hl : quietFor a (.passEnd :: l) (Machine.sendOn item s).1 := hl.mono fun d hd => by
    rwa [State.contexts_of_traffic htraffic] at hd
  refine ⟨(orderly_law.behind k).sent item l s h.order, (sendOn_still item s).trans h.still, sendOn_hasPump item h.pump,
    hraw.trans h.raw, by rw [haxis]; exact h.record, h.kept_on fun d _ => State.keeps_of_traffic htraffic a d, ?_⟩
  have hdelivery := sendOn_delivery item h.pump
  revert hmild hdelivery
  generalize (Machine.sendOn item s).2 = m
  intro hmild hdelivery
  cases hdelivery with
  | other hg hgentle =>
    refine .inl ⟨quietFor.append (fun y hy => ⟨allGentle_mem hgentle hy, hmild y hy⟩) hl, htrue.same haxis ?_⟩
    rw [State.isFed, State.isFed, hg, hraw]
    exact id
  | met =>
    refine .inr (.inr ⟨_, rfl, fun y hy => ?_⟩)
    rcases List.mem_cons.1 hy with rfl | hy
    · exact ⟨rfl, trivial⟩
    · exact hl y hy
  | short hfed => exact .inr (.inl ⟨_, rfl, hl, hfed⟩)
  | more hfed => exact .inl ⟨hl, htrue.imp haxis.trans fun hs => ⟨haxis.trans hs.1, hfed⟩⟩

theorem warming_law (hr : r.warming) : SignalLaw (Warming start r a k) where
  handled x l s h := by
    rcases h.signals with ⟨hl, htrue⟩ | ⟨m, hm, hl, hfed⟩ | ⟨m, hm, hl⟩
    · exact h.handle_quiet hr hl htrue
    · obtain ⟨rfl, rfl⟩ := List.cons.inj hm
      exact h.handle_addHold hr hl hfed
    · obtain ⟨rfl, rfl⟩ := List.cons.inj hm
      exact h.handle_removeHold hr hl
  sent item l s h := h.sendOn item

end

end Sys2Proof.Machine
end

section
/-! The end of an entry to PREPARING: the warn time of 0 is reached, and the gates are tested (R75, R76, R78, R131). -/

namespace Sys2Proof.Machine

variable {s t start w : State} {a : Axis} {c : Fin 16} {x : CurrentStep} {r : AxisRecord}

/-! ## The gates -/

theorem State.gatesMet_eq (s : State) (a : Axis) (y : Step) :
    s.gatesMet a y = (s.powered a && y.direction.interlock.all (s.permit a) && (s.axis a).warnReached) := by
  cases h : y.direction.interlock <;> cases a <;> simp [State.gatesMet, State.powered, hydraulicOf, h, beq_eq_decide]

/-- A signal that posts nothing and does not arbitrate leaves the power of an axis. -/
theorem handle_powered {y : Signal} (hy : y.arbitrates = false) (hpost : ∀ k d, y ≠ .post k d) (s : State) (a : Axis) :
    (handle y s).1.powered a = s.powered a := by
  have hreceived := handle_received y s a
  have hraw := handle_raw hpost s (powerSlot a)
  have howner := State.owner_of_organs (handle_organs hy s)
  cases a with
  | windlass => exact congrArg₂ (fun g d => decide (g = d)) (Option.some.inj hreceived) hraw
  | hatch | platform =>
    simp only [State.powered, hydraulicOf, Option.elim_some, howner]
    exact congrArg _ (congrArg₂ (fun g d => decide (g = d)) (Option.some.inj hreceived) hraw)

/-- The power of an axis is asked for: the windlass rating is posted, and a hydraulic axis owns the pump or waits for it (R74,
R128). -/
def State.demands (s : State) (a : Axis) : Prop :=
  (hydraulicOf a).elim (s.raw windlassSlot = s.config.gear.rating) fun h => s.pump.owner = some h ∨ s.pump.waiting = some h

theorem handle_demands {y : Signal} (hy : y.arbitrates = false) (hpost : ∀ k d, y ≠ .post k d) (h : s.demands a) :
    (handle y s).1.demands a := by
  have horgans := handle_organs hy s
  unfold State.demands at h ⊢
  rw [handle_raw hpost, State.config_of_still (handle_still y s), State.owner_of_organs horgans, State.waiting_of_organs horgans]
  exact h

/-! ## The end of the entry -/

/-- The record of an axis that has entered PREPARING with a step, its warn time not reached yet (R74, R75). -/
structure AxisRecord.enters (r : AxisRecord) (s : State) (a : Axis) (x : CurrentStep) : Prop extends r.warming where
  drive : r.drive = driveOff
  current : r.current = some x
  stopDeadline : r.stopDeadline = none
  warnStart : r.warnStart = some s.now
  prepareDeadline : r.prepareDeadline =
    if (s.config.axes.get a).prepareTimeout = 0 then none else some (s.now + 1000 * (s.config.axes.get a).prepareTimeout)

/-- An axis has waited in PREPARING to the end of its entry: SHED is in its hold set only while it lacks its grant. -/
structure Warmed (start : State) (r : AxisRecord) (a : Axis) (w : State) : Prop where
  still : w.still = start.still
  record : w.axis a = r ∨ (w.axis a = r.shedding ∧ w.powered a = false)
  demands : w.demands a
  kept : ∀ d : Fin 16, start.contexts[d].axis = some a → start.keeps w a d

/-- The state whose axis has reached a warn time of 0. -/
def State.entryEnded (s : State) (a : Axis) : State :=
  s.onAxis a fun r => { r with warnReached := decide ((s.axisConfig a).warnTime = 0) }

theorem endEntry_preparing (h : (s.axis a).state = .preparing) : handle (.endEntry a) s = (s.entryEnded a, [.testGates a]) := if_pos h

/-- An axis whose gates are met dwells with an arrived step, and moves with another (R76, R78, R131). -/
theorem testGates_met (hs : (s.axis a).state = .preparing) (hh : (s.axis a).holds = noHolds) (hx : (s.axis a).current = some x)
    (hg : s.gatesMet a x.step = true) (hdwell : x.step.arrived a (s.measured a) = true → x.step.dwellTime ≠ 0) :
    testGates a s = if x.step.arrived a (s.measured a) = true then ((s.onAxis a AxisRecord.gatesPassed).startDwell a, [])
      else (enterMoving a (s.onAxis a AxisRecord.gatesPassed), []) := by
  refine testGates_cases (P := fun k => k = _) (fun y hy _ _ _ harr => ?_) (fun y hy _ _ _ harr => ?_) fun hno => ?_
  · obtain rfl := Option.some.inj (hx.symm.trans hy)
    have hlong : ((s.onAxis a AxisRecord.gatesPassed).axis a).dwell ≠ 0 := by
      simpa [AxisRecord.dwell, AxisRecord.gatesPassed, hx] using hdwell harr
    rw [if_pos harr, enterDwell, if_pos hlong]
  · obtain rfl := Option.some.inj (hx.symm.trans hy)
    rw [if_neg (by simp [harr])]
  · rw [hno x hx hs hh] at hg
    cases hg

theorem testGates_unmet (h : ∀ y, (s.axis a).current = some y → (s.axis a).holds = noHolds → s.gatesMet a y.step = false) :
    testGates a s = (s, []) := by
  refine testGates_cases (P := fun k => k = (s, [])) (fun y hy _ hh hg _ => ?_) (fun y hy _ hh hg _ => ?_) fun _ => rfl
  all_goals
    rw [h y hy hh] at hg
    cases hg

theorem testGates_keeps (a : Axis) (s : State) (d : Fin 16) : s.keeps (testGates a s).1 a d :=
  testGates_cases (P := fun k => s.keeps k.1 a d) (fun _ _ _ _ _ _ => (State.keeps_of_parts rfl rfl a d).trans (enterDwell_keeps ..))
    (fun _ _ _ _ _ _ => (State.keeps_of_parts rfl rfl a d).trans (enterMoving_keeps ..)) fun _ => .refl ..

theorem State.progressAt_of_still (h : t.still = s.still) (a : Axis) : t.progressAt a = s.progressAt a := by
  obtain ⟨-, -, -, -, -, -, -, -, hsensors, hcount, -⟩ := State.fixed_fields (State.fixed_of_still h)
  cases a <;> simp only [State.progressAt, hsensors, hcount]

/-- The end of the entry leaves the axis as `State.prepares` says, with no signal on the way. -/
theorem Warmed.prepares (hr : r.enters s a x) (hw : Warmed start r a w) (hstart : start.still = s.still)
    (hdwell : (s.config.axes.get a).warnTime = 0 → x.step.arrived a (s.measured a) = true → x.step.dwellTime ≠ 0) :
    (testGates a (w.entryEnded a)).2 = [] ∧ s.prepares (testGates a (w.entryEnded a)).1 a (some x) := by
  have hstill : w.still = s.still := hw.still.trans hstart
  obtain ⟨hnow, -, -, hconfig, -⟩ := State.fixed_fields (State.fixed_of_still hstill)
  have hmeasured := State.measured_of_still hstill a
  have hprogress := State.progressAt_of_still hstill a
  obtain ⟨v, hrec, hv⟩ : ∃ v, w.axis a = { r with holds := v } ∧ (v = noHolds ∨ (v = { noHolds with shed := true } ∧ w.powered a = false)) := by
    rcases hw.record with e | ⟨e, hp⟩
    · exact ⟨noHolds, by rw [e, ← hr.holds], .inl rfl⟩
    · exact ⟨_, e, .inr ⟨rfl, hp⟩⟩
  have hended : (w.entryEnded a).axis a = { r with holds := v, warnReached := decide ((s.config.axes.get a).warnTime = 0) } := by
    rw [State.entryEnded, State.onAxis_axis_same, hrec, State.axisConfig, hconfig]
  have hgates : (w.entryEnded a).gatesMet a x.step
      = (w.powered a && x.step.direction.interlock.all (w.permit a) && decide ((s.config.axes.get a).warnTime = 0)) := by
    rw [State.gatesMet_eq, hended]
    rfl
  have hdemands : (testGates a (w.entryEnded a)).1.demands a := handle_demands (y := .testGates a) rfl (by simp) hw.demands
  have hpowered : (testGates a (w.entryEnded a)).1.powered a = w.powered a := handle_powered (y := .testGates a) rfl (by simp) _ a
  have hpermit : (testGates a (w.entryEnded a)).1.permit a = w.permit a := by
    have hpermits : (testGates a (w.entryEnded a)).1.permits = w.permits :=
      State.permits_of_organs (handle_organs (x := .testGates a) rfl (w.entryEnded a))
    unfold State.permit
    rw [hpermits]
  have hraw : (hydraulicOf a).elim ((testGates a (w.entryEnded a)).1.raw windlassSlot = s.config.gear.rating) fun h =>
      (testGates a (w.entryEnded a)).1.pump.owner = some h ∨ (testGates a (w.entryEnded a)).1.pump.waiting = some h := by
    have := State.config_of_still ((handle_still (.testGates a) (w.entryEnded a)).trans hstill)
    rwa [← this]
  unfold State.prepares
  dsimp only
  rw [hpowered, hpermit]
  revert hraw
  by_cases hgo : (s.config.axes.get a).warnTime = 0 ∧ v = noHolds ∧ w.powered a = true
      ∧ x.step.direction.interlock.all (w.permit a) = true
  · obtain ⟨hwarn, rfl, hpow, hall⟩ := hgo
    have hmet : (w.entryEnded a).gatesMet a x.step = true := by simp [hgates, hwarn, hpow, hall]
    have hm : (w.entryEnded a).measured a = s.measured a := hmeasured
    have hcurrent : ((w.entryEnded a).axis a).current = some x := by rw [hended]; exact hr.current
    rw [testGates_met (by rw [hended]; exact hr.state) (by rw [hended]) hcurrent hmet (by rw [hm]; exact hdwell hwarn), hm]
    by_cases harr : x.step.arrived a (s.measured a) = true
    · have hrecord : (((w.entryEnded a).onAxis a AxisRecord.gatesPassed).startDwell a).axis a = { r with
          state := .dwell, drive := driveOff, stall := none, holds := noHolds, warnStart := none, warnReached := false,
          prepareDeadline := none, dwellDeadline := some (s.now + x.step.dwellTime) } := by
        rw [State.startDwell_axis, State.onAxis_axis_same, hended]
        simp only [AxisRecord.gatesPassed, AxisRecord.dwell, hr.current]
        rw [show ((w.entryEnded a).onAxis a AxisRecord.gatesPassed).now = s.now from hnow]
      rw [if_pos harr]
      refine fun hraw => ⟨rfl, ?_⟩
      rw [hrecord]
      refine ⟨hr.current, hr.stopDeadline, .inl rfl, hraw, (if_pos ⟨hwarn, rfl, hpow, hall⟩).mpr fun y hy => ?_⟩
      obtain rfl := Option.some.inj hy
      rw [if_pos harr]
      exact ⟨rfl, rfl, rfl⟩
    · have hrecord := enterMoving_axis (s := (w.entryEnded a).onAxis a AxisRecord.gatesPassed) a (x := x)
        (by rw [State.onAxis_axis_same]; exact hcurrent)
      rw [if_neg harr]
      refine fun hraw => ⟨rfl, ?_⟩
      rw [hrecord, State.onAxis_axis_same, hended]
      refine ⟨hr.current, hr.stopDeadline, .inl rfl, hraw, (if_pos ⟨hwarn, rfl, hpow, hall⟩).mpr fun y hy => ?_⟩
      obtain rfl := Option.some.inj hy
      rw [if_neg harr]
      rw [show ((w.entryEnded a).onAxis a AxisRecord.gatesPassed).measured a = s.measured a from hmeasured,
        show ((w.entryEnded a).onAxis a AxisRecord.gatesPassed).progressAt a = s.progressAt a from hprogress,
        show ((w.entryEnded a).onAxis a AxisRecord.gatesPassed).now = s.now from hnow]
      exact ⟨rfl, rfl, rfl⟩
  · rw [testGates_unmet fun y hy hh => ?_]
    · refine fun hraw => ⟨rfl, ?_⟩
      rw [hended]
      exact ⟨hr.current, hr.stopDeadline, hv, hraw,
        (if_neg hgo).mpr ⟨hr.state, hr.drive, hr.warnStart, rfl, hr.prepareDeadline⟩⟩
    · rw [hended] at hy hh
      obtain rfl := Option.some.inj (hr.current.symm.trans hy)
      rw [hgates, ← Bool.not_eq_true]
      simpa [and_comm, and_left_comm, and_assoc, show v = noHolds from hh] using hgo

end Sys2Proof.Machine
end

section
/-! The run of an entry to PREPARING, from the taking up of a step to the end of the entry (R74, R128). -/

namespace Sys2Proof.Machine

variable {s t u w start : State} {a : Axis} {c : Fin 16} {l : List Signal} {r : AxisRecord} {n : Nat} {sent : List Outgoing}

theorem Warmed.of_keeps (h : Warmed t r a w) (hstill : t.still = s.still)
    (hkeeps : ∀ d : Fin 16, s.contexts[d].axis = some a → s.keeps t a d) : Warmed s r a w where
  still := h.still.trans hstill
  record := h.record
  demands := h.demands
  kept d hd := by
    have hkept := hkeeps d hd
    exact hkept.trans (h.kept d (by rw [hkept.1, hd]))

/-- A wait whose signals have all been taken. -/
theorem Warming.warmed {k : List Signal} (h : Warming start r a k [] s)
    (hraw : a = .windlass → start.raw windlassSlot = start.config.gear.rating) : Warmed start r a s where
  still := h.still
  kept := h.kept
  record := by
    rcases h.signals with ⟨-, htrue⟩ | ⟨m, hm, -⟩ | ⟨m, hm, -⟩
    · refine htrue.imp id fun hs => ⟨hs.1, ?_⟩
      rw [← Bool.not_eq_true, State.powered_iff h.pump]
      exact hs.2
    all_goals cases hm
  demands := by
    have hpump := h.pump
    have hkeptRaw := h.raw
    cases a with
    | windlass =>
      show s.raw windlassSlot = s.config.gear.rating
      rw [State.config_of_still h.still]
      exact hkeptRaw.trans (hraw rfl)
    | hatch => exact .inl (hpump .hatch rfl)
    | platform => exact .inl (hpump .platform rfl)

/-- An axis with its pump waits for the end of its entry while quiet signals are taken. -/
theorem run_waits (hr : r.warming) (hrecord : s.axis a = r) (horder : Orderly (l ++ [.endEntry a]) s) (hpump : s.hasPump a)
    (hl : quietFor a l s) (hraw : a = .windlass → s.raw windlassSlot = s.config.gear.rating)
    (hu : (run n sent (l ++ [.endEntry a]) s).unsettled = false) :
    ∃ m later w, run n sent (l ++ [.endEntry a]) s = run m later [.endEntry a] w ∧ Warmed s r a w := by
  have hbegins : Warming s r a [.endEntry a] l s :=
    ⟨horder, rfl, hpump, rfl, .inl hrecord, fun _ _ => .refl .., .inl ⟨hl, .inl hrecord⟩⟩
  obtain ⟨m, later, w, hw, hrun⟩ := (warming_law hr).first _ n sent hbegins hu
  exact ⟨m, later, w, hrun, hw.warmed hraw⟩

/-- The demand of an axis is posted, and the axis waits. -/
theorem run_posts {d : Nat} (hr : r.warming) (hrecord : s.axis a = r)
    (horder : Orderly (.post (powerSlot a) d :: (l ++ [.endEntry a])) s) (hpump : s.hasPump a) (hl : quietFor a l s)
    (hd : a = .windlass → d = s.config.gear.rating)
    (hu : (run n sent (.post (powerSlot a) d :: (l ++ [.endEntry a])) s).unsettled = false) :
    ∃ m later w, run n sent (.post (powerSlot a) d :: (l ++ [.endEntry a])) s = run m later [.endEntry a] w ∧ Warmed s r a w := by
  obtain ⟨m, later, hrun⟩ := run_takes (by simp) hu
  have htraffic := handle_traffic (x := .post (powerSlot a) d) rfl s
  have hstill := handle_still (.post (powerSlot a) d) s
  have hsent : quietFor a (handle (.post (powerSlot a) d) s).2 (handle (.post (powerSlot a) d) s).1 := by
    simp only [handle, postDemand]
    split <;> simp [quietFor, Signal.gentle, Signal.spares]
  rw [hrun, ← List.append_assoc] at hu ⊢
  have horder' := orderly_law.handled _ _ _ horder
  rw [← List.append_assoc] at horder'
  obtain ⟨m', later', w, hrun', hw⟩ := run_waits hr ((handle_axis_other _ s (by simp [Signal.concerns])).trans hrecord) horder'
    (hpump.of_owner (State.owner_of_organs (handle_organs rfl s)))
    (hsent.append (hl.mono fun d hd => by rwa [State.contexts_of_traffic htraffic] at hd))
    (fun ha => by
      subst ha
      rw [State.config_of_still hstill, ← hd rfl]
      exact handle_post_raw_same ..) hu
  exact ⟨m', later', w, hrun', hw.of_keeps hstill fun d _ => State.keeps_of_traffic htraffic a d⟩

/-! ## The pump -/

theorem requestPump_free {h : Hydraulic} (ho : s.pump.owner = none) :
    handle (.requestPump h) s = (s.withPump (some h) s.pump.waiting, [.post pumpSlot s.config.pumpRating, .testGates (axisOfHydraulic h)]) := by
  simp only [handle, requestPump, ho]

theorem requestPump_own {h : Hydraulic} (ho : s.pump.owner = some h) : handle (.requestPump h) s = (s, []) := by
  simp only [handle, requestPump, ho, if_true]

/-- A hydraulic axis that another one keeps from the pump waits for it (R128). -/
theorem requestPump_waits {h o : Hydraulic} (ho : s.pump.owner = some o) (hne : o ≠ h)
    (hwait : s.pump.waiting ≠ none → s.pump.waiting ≠ s.pump.owner) :
    (handle (.requestPump h) s).2 = [] ∧ (handle (.requestPump h) s).1.pump.waiting = some h := by
  simp only [handle, requestPump, ho, if_neg hne]
  split
  · exact ⟨rfl, rfl⟩
  · next hw =>
    refine ⟨rfl, ?_⟩
    obtain ⟨g, hg⟩ := Option.ne_none_iff_exists'.1 hw
    have hgo := hwait hw
    rw [hg, ho] at hgo
    rw [hg]
    cases g <;> cases h <;> cases o <;> first | rfl | exact absurd rfl hne | exact absurd rfl hgo

/-- A hydraulic axis requests the pump, and comes to the end of its entry. -/
theorem run_requests {h : Hydraulic} (hr : r.warming) (hrecord : s.axis (axisOfHydraulic h) = r)
    (horder : Orderly [.requestPump h, .reportAxis (axisOfHydraulic h), .endEntry (axisOfHydraulic h)] s)
    (hwait : s.pump.waiting ≠ none → s.pump.waiting ≠ s.pump.owner)
    (hu : (run n sent [.requestPump h, .reportAxis (axisOfHydraulic h), .endEntry (axisOfHydraulic h)] s).unsettled = false) :
    ∃ m later w, run n sent [.requestPump h, .reportAxis (axisOfHydraulic h), .endEntry (axisOfHydraulic h)] s
        = run m later [.endEntry (axisOfHydraulic h)] w ∧ Warmed s r (axisOfHydraulic h) w := by
  have hhydraulic {g : Hydraulic} (hg : hydraulicOf (axisOfHydraulic h) = some g) : h = g := by
    cases h <;> exact Option.some.inj hg
  have hslot : powerSlot (axisOfHydraulic h) = pumpSlot := by cases h <;> rfl
  have hne : axisOfHydraulic h ≠ .windlass := by cases h <;> decide
  have htraffic := handle_traffic (x := .requestPump h) rfl s
  have hstill := handle_still (.requestPump h) s
  have horder' := orderly_law.handled _ _ _ horder
  obtain ⟨m, later, hrun⟩ := run_takes (by simp) hu
  rw [hrun] at hu ⊢
  cases ho : s.pump.owner with
  | none =>
    rw [requestPump_free ho] at htraffic hstill horder' hu ⊢
    obtain ⟨m', later', w, hrun', hw⟩ := run_posts (s := s.withPump (some h) s.pump.waiting)
      (l := [.testGates (axisOfHydraulic h), .reportAxis (axisOfHydraulic h)]) (d := s.config.pumpRating) (n := m) (sent := later) hr hrecord (by rw [hslot]; exact horder')
      (fun g hg => congrArg some (hhydraulic hg)) (by simp [quietFor, Signal.gentle, Signal.spares]) (fun e => absurd e hne)
      (by rw [hslot]; exact hu)
    rw [hslot] at hrun'
    exact ⟨m', later', w, hrun', hw.of_keeps hstill fun d _ => State.keeps_of_traffic htraffic _ d⟩
  | some o =>
    by_cases hoh : o = h
    · subst hoh
      rw [requestPump_own ho] at horder' hu ⊢
      exact run_waits (l := [.reportAxis (axisOfHydraulic o)]) hr hrecord horder' (fun g hg => ho.trans (congrArg some (hhydraulic hg)))
        (by simp [quietFor, Signal.gentle, Signal.spares]) (fun e => absurd e hne) hu
    · obtain ⟨hnone, hwaits⟩ := requestPump_waits ho hoh hwait
      rw [hnone] at hu ⊢
      obtain ⟨m', later', hrun'⟩ := run_takes (by simp) hu
      refine ⟨m', later', _, hrun', hstill, .inl ?_, ?_, fun d _ => State.keeps_of_traffic htraffic _ d⟩
      · exact (handle_axis_other (.requestPump h) s (by simp [Signal.concerns])).trans hrecord
      · cases h <;> exact .inr hwaits

/-! ## The entry -/

/-- An axis that enters PREPARING from IDLE without a fault comes to the end of its entry (R74, R128). -/
theorem run_enterPreparing (he : s.entryFault a = none) (hidle : (s.axis a).state = .idle)
    (hr : ((s.entered a).axis a).warming) (horder : Orderly (enterPreparing a s).2 (enterPreparing a s).1)
    (hwait : a ≠ .windlass → s.pump.waiting ≠ none → s.pump.waiting ≠ s.pump.owner)
    (hu : (run n sent (enterPreparing a s).2 (enterPreparing a s).1).unsettled = false) :
    ∃ m later w, run n sent (enterPreparing a s).2 (enterPreparing a s).1 = run m later [.endEntry a] w
      ∧ Warmed (s.entered a) ((s.entered a).axis a) a w := by
  have hleaves : s.leavesIdle a = idleSignals a := if_pos hidle
  rw [enterPreparing_enters he, hleaves] at horder hu ⊢
  have hwaits (ha : a ≠ .windlass) : (s.entered a).pump.waiting ≠ none → (s.entered a).pump.waiting ≠ (s.entered a).pump.owner := by
    rw [State.waiting_of_organs (s.entered_organs a), State.owner_of_organs (s.entered_organs a)]
    exact hwait ha
  cases a with
  | windlass =>
    refine run_posts (a := .windlass) (l := [.reportAxis .windlass, .evaluatePermits]) hr rfl horder (fun h hh => by cases hh)
      (by simp [quietFor, Signal.gentle, Signal.spares]) (fun _ => ?_) hu
    rw [State.config_of_still (s.entered_still .windlass)]
  | hatch => exact run_requests (h := .hatch) hr rfl horder (hwaits (by decide)) hu
  | platform => exact run_requests (h := .platform) hr rfl horder (hwaits (by decide)) hu

end Sys2Proof.Machine
end

section
/-! ACK_FAULT (R73, R74, R87, R96): its refusals, and the step that an acknowledged axis takes up. -/

namespace Sys2Proof.Machine

variable {s t u v w : State} {a : Axis} {c : Fin 16} {y : Step} {rest : List Step} {n : Nat} {sent : List Outgoing}

/-! ## The step taken up -/

theorem State.oldestStep_of_head (hc : s.head a = some c) (hsteps : s.contexts[c].steps = y :: rest) :
    s.oldestStep a = some { context := c, step := y } := by
  rw [State.oldestStep, hc, Option.bind_some, hsteps]
  rfl

/-- A step that is taken up leaves its context (R74, R103). -/
theorem State.entered_context (hc : s.head a = some c) (hsteps : s.contexts[c].steps = y :: rest) (hnone : (s.axis a).current = none) :
    (s.entered a).contexts[c] = { s.contexts[c] with steps := rest } := by
  have htaken : (s.takeStep a).contexts[c] = { s.contexts[c] with steps := rest } := by
    unfold State.takeStep
    rw [hc]
    dsimp only
    rw [hsteps]
    dsimp only
    split <;> exact s.onContext_same c fun x => { x with steps := rest }
  have hstep : s.withStep a = s.takeStep a := if_pos (by simp [hnone])
  rw [← htaken, ← hstep]
  rfl

/-- The record of an axis that takes up a step from IDLE (R73, R74). -/
theorem State.entered_enters (hc : s.head a = some c) (hsteps : s.contexts[c].steps = y :: rest) (hnone : (s.axis a).current = none)
    (hholds : (s.axis a).holds = noHolds) : ((s.entered a).axis a).enters s a { context := c, step := y } := by
  rw [s.entered_axis a, hnone, Option.none_or, State.oldestStep_of_head hc hsteps]
  exact ⟨⟨rfl, hholds, rfl⟩, rfl, rfl, rfl, rfl, rfl⟩

theorem takeUp_starts (hc : s.head a = some c) (hidle : (s.axis a).state = .idle) (hactive : s.contexts[c].state = .active)
    (hsteps : s.contexts[c].steps ≠ []) : takeUp a s = enterPreparing a s := by
  unfold takeUp
  rw [hc]
  exact if_pos ⟨hidle, hactive, hsteps⟩

/-- The end of an entry is the end of its run, where the gates send nothing. -/
theorem run_endEntry (hs : (w.axis a).state = .preparing) (hgates : (testGates a (w.entryEnded a)).2 = [])
    (hu : (run n sent [.endEntry a] w).unsettled = false) : run n sent [.endEntry a] w = (testGates a (w.entryEnded a)).1 := by
  obtain ⟨m, later, hrun⟩ := run_takes (by simp) hu
  rw [endEntry_preparing hs] at hrun
  rw [hrun] at hu ⊢
  obtain ⟨k, last, hlast⟩ := run_takes (by simp) hu
  refine hlast.trans ?_
  rw [handle, hgates]
  exact run_nil ..

theorem Warmed.preparing {start : State} {r : AxisRecord} (h : Warmed start r a w) (hr : r.warming) : (w.axis a).state = .preparing := by
  rcases h.record with e | ⟨e, -⟩ <;> (rw [e]; exact hr.state)

/-- An axis in IDLE that takes up the oldest step of its ACTIVE head comes through its entry (R73, R74). -/
theorem run_takesUp (horder : Orderly [.takeUp a] v) (hc : v.head a = some c) (hidle : (v.axis a).state = .idle)
    (hactive : v.contexts[c].state = .active) (hsteps : v.contexts[c].steps = y :: rest) (hnone : (v.axis a).current = none)
    (hholds : (v.axis a).holds = noHolds) (he : v.entryFault a = none)
    (hwait : a ≠ .windlass → v.pump.waiting ≠ none → v.pump.waiting ≠ v.pump.owner)
    (hdwell : (v.config.axes.get a).warnTime = 0 → y.arrived a (v.measured a) = true → y.dwellTime ≠ 0)
    (hu : (run n sent [.takeUp a] v).unsettled = false) :
    let t := run n sent [.takeUp a] v
    v.prepares t a (some { context := c, step := y }) ∧ t.contexts[c] = { v.contexts[c] with steps := rest } := by
  intro t
  have henters := State.entered_enters hc hsteps hnone hholds
  have htaken : handle (.takeUp a) v = enterPreparing a v := takeUp_starts hc hidle hactive (by rw [hsteps]; simp)
  have horder' := orderly_law.handled _ _ _ horder
  obtain ⟨m, later, hrun⟩ := run_takes (by simp) hu
  rw [htaken, List.append_nil] at horder' hrun
  obtain ⟨m', later', w, hwarm, hw⟩ := run_enterPreparing he hidle henters.towarming horder' hwait (hrun ▸ hu)
  obtain ⟨hgates, hprepares⟩ := hw.prepares henters (v.entered_still a) hdwell
  have hend : t = (testGates a (w.entryEnded a)).1 := by
    have hrun' : t = run m' later' [.endEntry a] w := hrun.trans hwarm
    exact hrun'.trans (run_endEntry (hw.preparing henters.towarming) hgates (hrun' ▸ hu))
  have hcontext := State.entered_context hc hsteps hnone
  rw [hend]
  refine ⟨hprepares, ?_⟩
  have hkept := hw.kept c (by rw [hcontext]; exact horder.bound.axis_of_head hc)
  exact (testGates_keeps a (w.entryEnded a) c).1.trans (hkept.1.trans hcontext)

/-! ## The acknowledgement -/

theorem acknowledge_still (a : Axis) (s : State) : (acknowledge a s).1.still = s.still := by
  simp [acknowledge_eq, State.acknowledged]

theorem acknowledge_pump (a : Axis) (s : State) : (acknowledge a s).1.pump = s.pump := by
  have hpump : (s.acknowledged a).pump = s.pump := by simp [State.acknowledged]
  rw [acknowledge_eq]
  exact State.activateHead_cases (P := fun u => u.pump = s.pump) (fun _ _ _ _ => hpump) fun _ => hpump

theorem State.prepares_congr (h : t.still = s.still) {x : Option CurrentStep} (hp : t.prepares u a x) : s.prepares u a x := by
  obtain ⟨hnow, -, -, hconfig, -⟩ := State.fixed_fields (State.fixed_of_still h)
  unfold State.prepares at hp ⊢
  rwa [hconfig, hnow, State.measured_of_still h, State.progressAt_of_still h] at hp

/-- An axis without a cause of a fault has no entry fault. -/
theorem State.sound_of_entryFault (h : s.entryFault a = none) :
    (∀ g, hydraulicOf a = some g → (s.sensors.get g).fresh = true) ∧ (a = .windlass → s.inputs.overload = false) := by
  cases a <;> simpa [State.entryFault, hydraulicOf] using h

/-- An acknowledged axis takes up the oldest step of its QUEUED head (R73, R87, R96). -/
theorem acknowledge_takesUp (hlaw : s.queueLaw) (hholds : (s.axis a).holds = noHolds) (hf : (s.axis a).state = .fault)
    (he : s.entryFault a = none) (hu : (settle (acknowledge a s)).unsettled = false) (hc : s.head a = some c)
    (hq : s.contexts[c].state = .queued) : s.takesUp (settle (acknowledge a s)) a c s.contexts[c].steps := by
  intro y rest hsteps
  obtain ⟨hfresh, hload⟩ := State.sound_of_entryFault he
  refine ⟨fun hmay => ?_, fun g hg hstale => ?_, fun ha hover => ?_⟩
  swap
  · rw [hfresh g hg] at hstale
    cases hstale
  swap
  · rw [hload ha] at hover
    cases hover
  obtain ⟨n, later, v, hrun, hv, hpump⟩ := acknowledge_rests hlaw hf hu
  have hstill : v.still = s.still := hv.still.trans (acknowledge_still a s)
  obtain ⟨hnow, -, -, hconfig, -⟩ := State.fixed_fields (State.fixed_of_still hstill)
  have hcontext : v.contexts[c] = { s.contexts[c] with state := .active } := by
    refine (hv.kept c ?_).1.trans (acknowledge_activates hc hq)
    rw [(acknowledge_steps a s c).2]
    exact (s.queueLaw_iff.1 hlaw).1.axis_of_head hc
  have hhead : v.head a = some c := by
    rw [State.head, hv.queue]
    exact (acknowledge_head a s a).trans hc
  obtain ⟨z, hz, hempty⟩ := hv.record
  rw [State.acknowledged_axis] at hz hempty
  have hnone : (s.axis a).current = none := by
    have hheads := (s.queueLaw_iff.1 hlaw).2 ((Event.acknowledged hf).unsettled ▸ settle_unsettled hu)
    exact hheads.2.1 a (.inr hf)
  obtain ⟨hsound, hdwell⟩ := hmay
  have hwait (ha : a ≠ .windlass) : v.pump.waiting ≠ none → v.pump.waiting ≠ v.pump.owner := by
    rw [hpump ha, acknowledge_pump]
    cases a with
    | windlass => exact absurd rfl ha
    | hatch | platform => exact hsound.2
  have hend := run_takesUp (n := n) (sent := later) hv.order hhead (by rw [hz]) (by rw [hcontext])
    (show v.contexts[c].steps = y :: rest by rw [hcontext]; exact hsteps) (by rw [hz]; exact hnone) (by rw [hz]; exact hempty hholds)
    ((State.entryFault_of_still hstill a).trans he) hwait
    (by rw [hconfig, State.measured_of_still hstill]; exact fun h0 => hdwell h0 _ rfl) (hrun ▸ hu)
  rw [hrun]
  refine ⟨State.prepares_congr hstill hend.1, ?_, ?_⟩
  · rw [hend.2, hcontext]
  · rw [hend.2]

/-- Once acknowledged, an axis without a cause of a fault is out of FAULT for good (R73, R87). -/
theorem acknowledge_sound (he : s.entryFault a = none) :
    ((settle (acknowledge a s)).axis a).state ≠ .fault ∧ ((settle (acknowledge a s)).axis a).fault = none := by
  have hbegins : Sound a (acknowledge a s).2 (acknowledge a s).1 := by
    refine ⟨by simp, by simp, (State.entryFault_of_still (acknowledge_still a s) a).trans he, fun y hy => ?_⟩
    rw [acknowledge_sends] at hy
    rcases List.mem_append.1 hy with hy | hy
    · exact Signal.strikes_of_mild (allMild_mem (idleSignals_mild a) hy)
    · rw [List.mem_singleton.1 hy]
      rfl
  rcases (sound_law a).run signalBound [] hbegins with h | ⟨k, u, h, hend⟩
  · exact ⟨h.state, h.fault⟩
  · rw [settle, hend]
    exact ⟨h.state, h.fault⟩

theorem acknowledge_follows (a : Axis) (s : State) : s.follows (settle (acknowledge a s)) := by
  refine State.follows_of ((settle_fixed _).trans (State.fixed_of_still (acknowledge_still a s))) ((settle_aspect _ ?_).trans ?_)
  · cases a <;> rfl
  · have haspect : (s.acknowledged a).aspect = s.aspect := rfl
    rw [acknowledge_eq]
    exact State.activateHead_cases (P := fun u => u.aspect = s.aspect) (fun _ _ _ _ => haspect) fun _ => haspect

theorem acknowledge_outgoing (a : Axis) (s : State) : (settle (acknowledge a s)).outgoing = s.outgoing :=
  (settle_outgoing _).trans (State.outgoing_of_still (acknowledge_still a s))

theorem State.takesUp_of_core (hcore : t.core = u.core) {steps : List Step} (h : s.takesUp u a c steps) : s.takesUp t a c steps := by
  rw [State.eq_of_core hcore]
  exact h

/-- What ACK_FAULT does once it is accepted, with its answer on the way (R73, R87, R96). -/
theorem acknowledged_answers (tag : Byte) (hf : (s.axis a).state = .fault) (he : s.entryFault a = none) (fields : List Byte) :
    let t := ((settle (acknowledge a s)).reply 0x32 tag .ok fields).kick
    s.follows t ∧ s.answers t 0x32 tag fields ∧ (t.axis a).state ≠ .fault ∧ (t.axis a).fault = none
      ∧ (s.queueLaw → t.unsettled = false → (∀ c, s.head a = some c → s.contexts[c].steps = []) →
          (t.axis a).state = .idle ∧ (t.axis a).drive = driveOff
            ∧ ∀ c, s.head a = some c → s.contexts[c].state = .queued → t.contexts[c].state = .active)
      ∧ (s.queueLaw → s.axesLawful → t.unsettled = false → ∀ c, s.head a = some c → s.contexts[c].state = .queued →
          s.takesUp t a c s.contexts[c].steps) := by
  intro t
  have hcore : t.core = (settle (acknowledge a s)).core := State.kick_core _
  have haxis : t.axis a = (settle (acknowledge a s)).axis a := by rw [State.eq_of_core hcore]; rfl
  have hcontexts : t.contexts = (settle (acknowledge a s)).contexts := by rw [State.eq_of_core hcore]
  have hsettled : t.unsettled = (settle (acknowledge a s)).unsettled := by rw [State.eq_of_core hcore]
  obtain ⟨hstate, hfault⟩ := acknowledge_sound he
  refine ⟨((acknowledge_follows a s).reply ..).kick, reply_kick_answers (acknowledge_outgoing a s) .., ?_⟩
  rw [haxis, hcontexts, hsettled]
  refine ⟨hstate, hfault, fun hlaw hu hnone => acknowledge_idles hlaw hf hu hnone, fun hlaw haxes hu c hc hq => ?_⟩
  obtain ⟨-, -, -, -, -, -, -, -, -, hrest⟩ := haxes a
  exact State.takesUp_of_core hcore (acknowledge_takesUp hlaw (hrest (.inr hf)).1 hf he hu hc hq)

/-- Settles O30: refusals while the axis is out of FAULT or a cause is present; else the run of the acknowledgement is followed to
its taking up (`acknowledge_rests`), and, where there is a step, through the entry to PREPARING (`run_enterPreparing`). -/
theorem ackFaultLeavesFault : Obligations.AckFaultLeavesFault := by
  unfold Obligations.AckFaultLeavesFault
  intro tag a s
  have hnumber := axisOf_axisNumber a
  by_cases hf : (s.axis a).state ≠ .fault
  · simp only [if_pos hf]
    exact refused_of (by simp only [takeAckFault, hnumber, if_pos hf])
  simp only [if_neg hf]
  by_cases hcauses : (s.causes a).any id = true
  · refine ⟨_, rfl, (if_pos hcauses).mpr ?_⟩
    have htaken : takeAckFault tag (axisNumber a) s = s.reply 0x32 tag .state (bits (s.causes a)) := by
      simp only [takeAckFault, hnumber, if_neg hf, if_pos hcauses]
    rw [htaken]
    exact reply_kick_onlyAnswers ..
  · refine ⟨_, rfl, (if_neg hcauses).mpr ?_⟩
    have htaken : takeAckFault tag (axisNumber a) s
        = (settle (acknowledge a s)).reply 0x32 tag .ok (u8 (axisNumber a) ++ faultBytes (s.axis a).fault) := by
      simp only [takeAckFault, hnumber, if_neg hf, if_neg hcauses]
    rw [htaken]
    exact acknowledged_answers tag (not_not.1 hf) (entryFault_of_causes (Bool.not_eq_true _ ▸ hcauses)) _

end Sys2Proof.Machine
end
